-- ==== Sys2Proof/Word.lean ====
section
/-! DEFINITION. The word types of the LMF-5032 and their plainest arithmetic. Registers, ring addresses and packet
fields that the manual numbers as bits are bit vectors; counts, instance numbers, times and addresses used as keys are
naturals; signed physical quantities are integers. -/

set_option Elab.async false -- one thread for the whole file: a thread per theorem runs out of address space

namespace Sys2Proof

/-- One byte of host memory, of a packet, of a block or of a frame. -/
abbrev Byte := BitVec 8

/-- A BAR0 register is 32 bits wide (24 R478). -/
abbrev Word := BitVec 32

/-- The key epoch and the status codes are 16 bits wide (04 R90, 03 R74). -/
abbrev Half := BitVec 16

/-- A 64-bit quantity: host addresses, the time base as software sees it. -/
abbrev DWord := BitVec 64

end Sys2Proof
end

