-- ==== Sys2Proof/Syntax.lean ====
section
/-! DEFINITION. The commands of the block: one constructor of `Instr` for each row of spec/opcode_table.json.
The table gives no operands (every row's "fields" is empty), so the operands are the model's: what the outside world
brings to that step (log entry 2). -/

namespace Sys2Proof

/-- A command packet as the arbiter sees it (03 R64), after its opcode has been read. `master` is the number of 04 R84
(0 PCIe host, 1 management port, 2 peer relay); `sq` and `index` its SUBMISSION queue and the packet's index there;
`args` what host memory gives for the command: the bytes of its arguments, `none` when the fetch of them, or the writes of the
command's results, fail (06 R499);
`tick` the tick of the device time base at its arbiter step. -/
structure Packet where
  master : Nat
  sq     : Nat
  index  : Nat
  tag    : Nat
  epoch  : Half
  fence  : Bool
  cq     : Nat
  target : Nat
  params : List Byte
  args   : Option (List Byte)
  tick   : Nat
  deriving DecidableEq, Repr, Inhabited

/-- Which access to host memory failed (06 R499). -/
inductive HostAccess where
  | fetch (q : Nat)                 -- a SUBMISSION queue entry
  | post (q : Nat)                  -- an entry of a device-written queue, or a pointer write-back of any queue
  | args (master tag : Nat)         -- the arguments of a command
  | result (master tag : Nat)       -- the result writes of a command
  | index (line : Nat)              -- the re-read of a band index for a buffer line (18 R379, R380)
  deriving DecidableEq, Repr

/-- The steps of WARMING (05 R116). -/
inductive WarmStep where
  | load | fuser | polygons | plls | beamDetect | drums | hv
  deriving DecidableEq, Repr

/-- What wakes the device from DORMANT (05 R103). -/
inductive WakeSource where
  | pcie | mgmt | pin
  deriving DecidableEq, Repr

/-- Who reads a buffer line whose check fails (18 R378). -/
inductive MemReader where
  | window (station : Nat) | engine (engine : Nat) | dma (channel : Nat) | command (master tag : Nat)
  | load (station emitter : Nat) | mirror | scrubber | lookahead (station : Nat)
  deriving DecidableEq, Repr

/-- A change of the sheet journal that the LEAD mirrors (20 R405). -/
inductive JournalChange where
  | state (slot code : Nat)          -- a slot transition, by the state code of 24 R486
  | stamp (slot bit : Nat)           -- a cause bit of 02 R44
  | gap (slot us : Nat)
  | retries (slot n : Nat)
  | mode (code : Nat)
  | free (slot : Nat)
  | failover (station source : Nat)  -- plan slot `source` has become the active plan
  | slow (station emitter n : Nat)   -- a speed-changing failover begins, to N = `n`
  | gate (slot gate : Nat)           -- a gate has passed: 0 pick, 1 Hinge
  | eventSeq (seq : Nat)             -- SEQ of an event that no mask let through
  deriving DecidableEq, Repr

/-- What a CONFIG message carries (20 R408). -/
inductive ConfigChange where
  | register (addr : Nat) (value : Word)
  | applied (group inst : Nat)
  | trim (station emitter slot : Nat) (cells : List Byte)
  | plan (station slot : Nat) (image : List Byte)
  deriving DecidableEq, Repr

/-- A heartbeat of the mirror link (20 R408). `quiet` says that a PAIRLINK reset of the sender is about to begin (05 R117): the link's
framing is not given, and the model carries it here (log entry 58). -/
structure Beat where
  role   : Nat
  mode   : Nat
  arbSeq : Nat
  time   : Nat
  synced : Bool
  acked  : Nat
  quiet  : Bool
  deriving DecidableEq, Repr

/-- What the LEAD's digest says of itself (20 R408, R412), against what this chip sees: drives in RUN whose angle and
speed agree, slots whose state CRC agrees, stations whose sweep count and facet agree, and whether every axis agrees. -/
structure DigestView where
  drives   : Nat
  slots    : Nat
  stations : Nat
  axes     : Bool
  deriving DecidableEq, Repr

/-- What one drive gives in a PWM period (14 R286, R290): phase samples in 10 mA, the observer's and the encoder's electrical angle in
1/65,536 turn and speed in 1/16 rpm, the size of the estimated back-EMF in 10 mV, the current residual in 10 mA and the estimated
acceleration in rpm/s. The arithmetic of the observer is not in the manual, so what it gives is an operand (log entry 2). -/
structure DriveInput where
  ia       : Int
  ib       : Int
  ic       : Int
  angle    : Nat
  encAngle : Nat
  speed    : Int
  encSpeed : Int
  emf      : Nat
  resid    : Nat
  accel    : Nat
  deriving DecidableEq, Repr

/-- One command of the block. Constructors stand in the order of spec/opcode_table.json. -/
inductive Instr where
  -- command packets (03 R72): the arbiter takes packet `p`
  | nop (p : Packet)
  | getInfo (p : Packet)
  | getMode (p : Packet)
  | setMode (p : Packet)
  | safeStop (p : Packet)
  | clearHalt (p : Packet)
  | functionReset (p : Packet)
  | claimKey (p : Packet)
  | handKey (p : Packet)
  | keyTouch (p : Packet)
  | getKey (p : Packet)
  | serviceChallenge (p : Packet)
  | serviceResponse (p : Packet)
  | serviceEnd (p : Packet)
  | cfgWrite (p : Packet)
  | cfgRead (p : Packet)
  | apply (p : Packet)
  | profileLoad (p : Packet)
  | sheetSubmit (p : Packet)
  | sheetCancel (p : Packet)
  | sheetClearReg (p : Packet)
  | sheetQuery (p : Packet)
  | dmaStart (p : Packet)
  | dmaStop (p : Packet)
  | dmaResume (p : Packet)
  | dmaStatus (p : Packet)
  | driveStart (p : Packet)
  | driveSpeed (p : Packet)
  | driveBrake (p : Packet)
  | move (p : Packet)
  | groupMove (p : Packet)
  | home (p : Packet)
  | stop (p : Packet)
  | emergencyStop (p : Packet)
  | motionStatus (p : Packet)
  | loopLoad (p : Packet)
  | loopClose (p : Packet)
  | loopOpen (p : Packet)
  | profileRun (p : Packet)
  | loopStatus (p : Packet)
  | hvSet (p : Packet)
  | hvEnable (p : Packet)
  | fuserSet (p : Packet)
  | fuserEnable (p : Packet)
  | supplyStatus (p : Packet)
  | afeCalibrate (p : Packet)
  | bandSurvey (p : Packet)
  | planLoad (p : Packet)
  | planSwitch (p : Packet)
  | trimLoad (p : Packet)
  | trimWrite (p : Packet)
  | headCal (p : Packet)
  | calStatus (p : Packet)
  | initMemory (p : Packet)
  | memStatus (p : Packet)
  | pairStatus (p : Packet)
  | pairSync (p : Packet)
  | pairSwitch (p : Packet)
  | storeProfile (p : Packet)
  | storeTrim (p : Packet)
  | storePlan (p : Packet)
  | patchLoad (p : Packet)
  | fuseWrite (p : Packet)
  | fuseRead (p : Packet)
  | auditRead (p : Packet)
  | countersRead (p : Packet)
  | traceStart (p : Packet)
  | traceStop (p : Packet)
  | capture (p : Packet)
  | linkLoopback (p : Packet)
  | eventMask (p : Packet)
  -- queues, doorbells and the management port
  | packetFetch (q : Nat) (raws : List (List Byte × Option (List Byte))) (tick : Nat)
  | doorbellTail (q : Nat) (value : Word) (tick : Nat)
  | doorbellHead (q : Nat) (value : Word) (tick : Nat)
  | queueEnable (master q : Nat) (value : Word)
  | queueDisable (master q : Nat) (value : Word)
  | coalTimeExpiry (q : Nat)
  | hostAccessError (a : HostAccess) (tick : Nat)
  | mgmtSubmit (frame : List Byte) (whole gapOk : Bool) (args : Option (List Byte)) (tick : Nat)
  | mgmtFetch (again whole gapOk : Bool)
  | mgmtUnknownFrame (frame : List Byte)
  -- register accesses and tumbler steps
  | registerWrite (master addr size : Nat) (value : Word) (tick : Nat)
  | lowWordRead (master addr : Nat)
  | tumblerApply (master : Nat) (value : Word) (tick : Nat)
  | tumblerLand (group inst : Nat) (tick : Nat)
  | tumblerTimeout (group inst : Nat)
  | segSwap (master station : Nat) (value : Word)
  | segSwapLand (station : Nat)
  | segPhaseWrite (master station : Nat) (value : Word)
  | dctDataWrite (master station : Nat) (value : Word)
  | coefDataWrite (master slot : Nat) (value : Word)
  | afeChDataWrite (master : Nat) (value : Word)
  | emitMark (master station : Nat) (value : Word)
  | emitFailClear (master station : Nat) (high : Bool) (value : Word)
  | magWrite (master station : Nat) (value : Word)
  | masterStnWrite (master : Nat) (value : Word)
  | keyCfgWrite (master : Nat) (value : Word)
  | busCfgWrite (master : Nat) (value : Word)
  | pairCfgWrite (master : Nat) (value : Word)
  | chopperClear (master : Nat) (value : Word) (pulseI : Nat)
  | stnPowerDown (master : Nat) (value : Word) (tick : Nat)
  | stnPowerUp (master : Nat) (value : Word) (tick : Nat)
  | stnDomainOff (station : Nat)
  | powerWaitExpiry (station : Nat)
  | capArm (master drive : Nat) (value : Word)
  | stnStatClr (master station : Nat) (value : Word)
  | drvStatClr (master drive : Nat) (value : Word)
  | afeStatClr (master : Nat) (value : Word)
  -- per-function resets
  | hostqReset (tick : Nat)
  | dmaReset (tick : Nat)
  | decompReset (tick : Nat)
  | stationReset (station : Nat) (tick : Nat)
  | motionReset (force : Bool) (tick : Nat)
  | loopsReset (tick : Nat)
  | hvReset (force : Bool) (tick : Nat)
  | fuserReset (tick : Nat)
  | afeReset (tick : Nat)
  | nvstoreReset (tick : Nat)
  | pairlinkReset (tick : Nat)
  | functionResetDone (function : Nat)
  | loopRearmExpiry
  -- key and credential timers
  | claimWindowClose
  | keyLapse
  | challengeExpiry
  | credentialLockoutEnd
  -- stops, warming, memory, reset, boot, wake
  | orderlyStop (tick : Nat)
  | orderlyStopRest (tick : Nat)
  | safeStopRest (tick : Nat)
  | safeStopMaxExpiry
  | warmingStepDone (step : WarmStep) (tick : Nat)
  | settleHoldExpiry
  | warmMaxExpiry
  | loadDone
  | initMemoryDone
  | overlayCopyDone
  | resetnAssert (lowTicks : Nat)
  | resetnRelease (pairRole pairPresent : Bool)
  | bootRun
  | electionTimeout
  | wake (source : WakeSource)
  | wakeDone
  -- supply and safety
  | vinRise (vin : Nat)
  | brownoutWarning (vin : Nat) (tick : Nat)
  | brownoutOff
  | brownoutRecovery (vin : Nat)
  | telemetrySample (vin vbus brkI v5 : Nat) (temp : Int) (tick : Nat)
  | chopDetectExpiry
  | hvdieLinkLost (tick : Nat)
  | hvdieLinkUp (tick : Nat)
  | interlockOpen (tick : Nat)
  | interlockClosed
  | overtempTrip (tick : Nat)
  | overtempRelease
  -- sheets, gates and the paper path
  | pickGate (slot tick : Nat)
  | pickWaitMaxExpiry
  | hingeGate (slot tick : Nat)
  | hinge (slot tick : Nat)
  | regHoldMaxExpiry (slot : Nat)
  | sensorLeadEdge (sensor tick : Nat)
  | sensorTrailEdge (sensor tick : Nat)
  | jamWindowClose (slot sensor : Nat)
  | trailMaxExpiry (slot sensor : Nat)
  | pathStepFire (slot step : Nat)
  -- stations: scan, plan, clock, link
  | bdEdge (station tick raw : Nat) (falling : Bool) (width : Nat)
  | spuriousEdge (station raw : Nat)
  | missingSweep (station : Nat)
  | syncWindowOpen (station : Nat)
  | lineStart (station : Nat) (badWords : List Nat)
  | endOfActiveScan (station : Nat) (badWords : List Nat)
  | speedChangeHold (tick : Nat)
  | speedChangeResume (tick : Nat)
  | dutySubwindowEnd (station : Nat) (head : Bool) (cycles : Nat) (tick : Nat)
  | pllLock (station vctl : Nat) (tick : Nat)
  | pllUnlock (station : Nat) (phases : List Nat) (count : Option Nat) (tick : Nat)
  | relockMaxExpiry (station : Nat)
  | bandSurveyDone (station : Nat) (bands : List (Nat × Nat)) (tick : Nat)
  | hello (station vendor model fw emitters caps crc tick : Nat)
  | readyMsg (station crc tick : Nat)
  | retrain (station reason crc tick : Nat)
  | apcSample (station sweep emitter sample crc tick : Nat)
  | emitterFault (station emitter kind sweep crc tick : Nat)
  | segError (station sweep mask reason crc tick : Nat)
  | statusMsg (station : Nat) (temp : Int) (flags seq crc tick : Nat)
  | headFault (station cause crc tick : Nat)
  | loopResult (station e0 e1 e2 e3 crc tick : Nat)
  | retTimeout (station : Nat) (tick : Nat)
  | retAlignLost (station : Nat) (tick : Nat)
  | trainingT0End (station : Nat)
  | trainingStepTimeout (station : Nat)
  | trainingRetry (station : Nat)
  -- feed, decode, DMA, memory
  | blockDispatch (tick : Nat)
  | engineVerdict (engine : Nat) (fault : Option Bool) (tick : Nat)
  | engineTimeout (engine : Nat)
  | dataRequestPost (tick : Nat)
  | stagingFirstLine (channel : Nat) (line : List Byte) (tick : Nat)
  | bandStaged (channel : Nat) (block : List Byte) (tick : Nat)
  | descriptorFetch (channel : Nat) (raw : List Byte)
  | descriptorDone (channel : Nat) (data : List Byte) (tick : Nat)
  | dmaBusError (channel : Nat) (write : Bool) (tick : Nat)
  | completionTimeout (channel : Nat)
  | dmaChannelsRestart
  | memCheckFail (line : Nat) (data : List Byte) (check : Nat) (reader : MemReader) (tick : Nat)
  | lineCorrected (line : Nat) (tick : Nat)
  | scrubStep (data : List Byte) (check : Nat)
  -- drives, axes, encoders, loops
  | drivePwmPeriod (drive : Nat) (inp : DriveInput) (tick : Nat)
  | observerImplausible (drive : Nat) (tick : Nat)
  | bemfZeroCross (drive angle tick : Nat)
  | zcMissing (drive : Nat) (tick : Nat)
  | encTrustRestore (drive : Nat)
  | phaseOpen (drive : Nat) (tick : Nat)
  | listenEnd (drive : Nat) (speed : Int) (emf : Nat) (tick : Nat)
  | alignDone (drive : Nat)
  | handoverTimeout (drive : Nat) (tick : Nat)
  | startRetry (drive : Nat)
  | pendingStart (drive : Nat) (speed : Int) (emf : Nat)
  | driveMoveDone (drive : Nat)
  | brakeDone (drive : Nat)
  | axisPwmPeriod (axis : Nat) (ia ib : Int) (tick : Nat)
  | axisCurrentUpdate (axis : Nat) (tick : Nat)
  | axisMoveEnd (axis : Nat)
  | groupMoveStart (group : Nat) (tick : Nat)
  | stall (axis : Nat)
  | encReversal (encoder : Nat) (tick : Nat)
  | loopSample (slot : Nat) (tick : Nat)
  -- high voltage and fuser
  | hvPwmPeriod (channel : Nat) (tick : Nat)
  | hvSettled (channel : Nat)
  | hvSettleTimeout (channel : Nat)
  | arcOffExpiry (channel : Nat)
  | zeroCrossing (tick : Nat)
  | zcLost
  | fuserRiseCheck (zone : Nat)
  -- measurement and calibration
  | afeFrameEnd (bank : Nat) (raws : List (Nat × Nat × Nat)) (drifts : List (Nat × Int)) (tj : Int) (tick : Nat)
  | sliceCalDone (bank : Nat) (c0 cBG : Int) (check : Int) (tick : Nat)
  | calPeriodExpiry (bank : Nat)
  | autozero (channel : Nat) (mean : Int)
  | headCalDone (station : Nat)
  | captureDone (station : Nat)
  | storeDone (outcome : Nat) (raws : List Nat) (peer : Nat)
  | auditFlush
  -- the pair
  | heartbeat (b : Beat) (tick : Nat)
  | heartbeatSend (tick : Nat)
  | peerLost (lockLost : Bool) (tick : Nat)
  | arbMsg (seq opcode : Nat) (p : Packet) (verdict : Nat)
  | configMsg (c : ConfigChange)
  | journalMsg (c : JournalChange) (edge : Option (Nat × Option Nat))
  | postMsg (kind : Nat) (bytes : List Byte)
  | postedMsg (queue index : Nat)
  | loopin (slot : Nat) (inputs : List Word) (r1 r2 : Word)
  | digest (d : DigestView)
  | snapshotMsg (block : List Byte)
  | relayMsg (raw : List Byte) (isPacket : Bool) (args : Option (List Byte)) (tick : Nat)
  | ack (msg : Nat)
  | ackTimeout
  | fenceWaitExpiry
  | pairSynced
  | syncMaxExpiry
  | deadboltAssert (tick : Nat)
  | deadboltRelease
  -- encoders, mains, loopback, power, JTAG
  | quadratureEdge (encoder : Nat) (a b : Bool) (tick : Nat)
  | encIndexEdge (encoder tick : Nat)
  | halfCycleTimer
  | loopbackDurationEnd (station : Nat)
  | loopResultTimeout (station : Nat)
  | stnDomainOn (station : Nat)
  | digestSend
  | predictedSweep (station tick : Nat)
  | tckEdge (tms tdi : Bool)
  deriving DecidableEq, Repr

end Sys2Proof
end

