-- ==== Sys2Proof/Decode.lean ====
section
/-! DEFINITION. The word decoder. No row of spec/opcode_table.json gives bits: every command of this block comes with
operands of its own and no word spells one (log entry 1). -/

namespace Sys2Proof

/-- The command that a word of the table's bits spells: none, since no row gives bits. -/
def decodeTableWord (_nbits _w : Nat) : Option Instr := none

end Sys2Proof
end

