-- ==== Sys2Proof/Config.lean ====
section
/-! DEFINITION. What the manual leaves to the part, the board or chance: values without a body, so that nothing proved
about the model rests on one of them (log entries 3 to 8). Where a meaning needs a fresh one it applies the constant to
`State.freeCount`, which it then advances. -/

namespace Sys2Proof.Config

/-- Bytes of the on-die random generator (22 R451). -/
opaque nonceByte : Nat → Byte

/-- The fused die serial before the rule that it is never 0 (24 R486). -/
opaque serialSeed : BitVec 64

/-- The 64-bit die serial: unique to the part and never 0 (24 R486). -/
def dieSerial : BitVec 64 := if serialSeed = 0 then 1 else serialSeed

/-- Byte i of PATCH_KEY_HASH, fused at shipment (22 R448). -/
opaque patchKeyHash : Nat → Byte

/-- Byte i of the SERVICE_KEY_HASH programmed at shipment (22 R449). -/
opaque serviceKeyHash : Nat → Byte

/-- Whether a fuse slot reads back as programmed (22 R450 step 5). -/
opaque fuseReadsBack : Nat → Bool

/-- Bytes that the manual leaves open: the tokens the device's compressor chooses (07 R158). -/
opaque freeByte : Nat → Byte

/-- Whole values that the manual leaves open, one for each draw. -/
opaque freeNat : Nat → Nat

/-- Signed values that the manual leaves open, one for each draw. -/
opaque freeInt : Nat → Int

/-- The result of a division the manual uses whose divisor is 0, by its dividend. -/
opaque divByZero : Int → Int

/-- What a line of the PLAN region holds, whose layout is not in the manual: station, slot and copy of a plan slot, or nothing
for a band table (08 R162, 18 R379). -/
opaque planLine : Nat → Option (Nat × Nat × Nat)

/-- The buffer address at which plan slot entry 36·s + slot begins in the PLAN region, whose layout is not in the manual (20 R413). -/
opaque planAddr : Nat → Nat

/-- What a line of the JOURNAL region holds: kind 0 the state of a slot and its copy, 1 index entries of a slot from a band on, else
trace and event logs from a record on (08 R162, 18 R379). -/
opaque journalLine : Nat → Nat × Nat × Nat

/-- The state in which a lane's scrambler starts a training, and its PRBS31 generator a loopback, by station and lane (13 R264, R283). -/
opaque scrambler : Nat → Nat → BitVec 58
opaque prbs : Nat → Nat → BitVec 31

/-- The VERSION of a patch, by its body: the manual puts it in the region's header, which the device writes, and not where the
device takes it from (22 R443, R448). -/
opaque patchVersion : List Byte → Nat

/-- The level at GPIO ball n at a tick, where the device does not drive it. -/
opaque gpioLevel : Nat → Nat → Bool

/-- Whether the bits shifted into the JTAG instruction register spell EXTEST: the manual gives neither its length nor its
codes (23 R472). -/
opaque extestCode : List Bool → Bool

end Sys2Proof.Config
end

