-- ==== Sys2Proof/Machine/Codes.lean ====
section
/-! DEFINITION. The numbers the manual gives to things: status codes (03 R74), opcodes (03 R72), event indices with their
codes and severities (03 R76), halt causes (05 R109), cause bits of a sheet (02 R44), functions of a reset (05 R117),
kinds of audit entries (22 R453). -/

namespace Sys2Proof

/-! Status codes, 03 R74. -/

def St.OK : Nat := 0x0000
def St.BAD_PACKET : Nat := 0x1001
def St.BAD_OPCODE : Nat := 0x1002
def St.BAD_PARAM : Nat := 0x1003
def St.BAD_TARGET : Nat := 0x1004
def St.TAG_IN_USE : Nat := 0x1005
def St.FRAME_ERROR : Nat := 0x1006
def St.NOT_OWNER : Nat := 0x2001
def St.STALE_KEY : Nat := 0x2002
def St.NEED_SERVICE : Nat := 0x2003
def St.KEY_HELD : Nat := 0x2004
def St.CREDENTIAL_FAILED : Nat := 0x2005
def St.WRONG_MODE : Nat := 0x3001
def St.HALT_LATCHED : Nat := 0x3002
def St.NEED_INIT_MEMORY : Nat := 0x3003
def St.DOMAIN_OFF : Nat := 0x3004
def St.STATION_UNAVAILABLE : Nat := 0x3005
def St.BUSY_REVERSE : Nat := 0x3006
def St.LOOP_CLOSED : Nat := 0x3007
def St.TARGET_BUSY : Nat := 0x3008
def St.QUEUE_FULL : Nat := 0x4001
def St.SLOTS_FULL : Nat := 0x4002
def St.NO_SPACE : Nat := 0x4003
def St.NO_QUEUE : Nat := 0x4004
def St.SHEET_ID_BUSY : Nat := 0x5001
def St.SHEET_TOO_LONG : Nat := 0x5002
def St.SHEET_PAST_HINGE : Nat := 0x5003
def St.SHEET_UNKNOWN : Nat := 0x5004
def St.NOTHING_HELD : Nat := 0x5005
def St.UNINIT_OR_CORRUPT : Nat := 0x6001
def St.BLOCK_MALFORMED : Nat := 0x6002
def St.BLOCK_CRC : Nat := 0x6003
def St.VERIFY_FAILED : Nat := 0x6004
def St.TUMBLER_INCONSISTENT : Nat := 0x7001
def St.TUMBLER_TIMEOUT : Nat := 0x7002
def St.PLAN_INVALID : Nat := 0x7003
def St.LOCK_FAILED : Nat := 0x7004
def St.STALL : Nat := 0x8001
def St.DRIVE_FAULT : Nat := 0x8002
def St.SUPPLY_FAULT : Nat := 0x8003
def St.STORE_SUPPLY_LOW : Nat := 0x9001
def St.FLASH_ERROR : Nat := 0x9002
def St.BAD_SIGNATURE : Nat := 0x9003
def St.ROLLBACK : Nat := 0x9004
def St.SLOTS_EXHAUSTED : Nat := 0x9005
def St.ABORTED_BUS : Nat := 0xA001
def St.ABORTED_POWER : Nat := 0xA002
def St.ABORTED_RESET : Nat := 0xA003
def St.ABORTED_STOP : Nat := 0xA004
def St.ABORTED_HOST : Nat := 0xA005
def St.TAKEOVER_ABORTED : Nat := 0xA006
def St.NOT_SYNCED : Nat := 0xB001
def St.PEER_ABSENT : Nat := 0xB002
def St.NOT_LEAD : Nat := 0xB003

/-! Opcodes, 03 R72. -/

def Op.NOP : Nat := 0x0101
def Op.GET_INFO : Nat := 0x0102
def Op.GET_MODE : Nat := 0x0103
def Op.SET_MODE : Nat := 0x0104
def Op.SAFE_STOP : Nat := 0x0105
def Op.CLEAR_HALT : Nat := 0x0106
def Op.FUNCTION_RESET : Nat := 0x0107
def Op.CLAIM_KEY : Nat := 0x0201
def Op.HAND_KEY : Nat := 0x0202
def Op.KEY_TOUCH : Nat := 0x0203
def Op.GET_KEY : Nat := 0x0204
def Op.SERVICE_CHALLENGE : Nat := 0x0205
def Op.SERVICE_RESPONSE : Nat := 0x0206
def Op.SERVICE_END : Nat := 0x0207
def Op.CFG_WRITE : Nat := 0x0301
def Op.CFG_READ : Nat := 0x0302
def Op.APPLY : Nat := 0x0303
def Op.PROFILE_LOAD : Nat := 0x0304
def Op.SHEET_SUBMIT : Nat := 0x0401
def Op.SHEET_CANCEL : Nat := 0x0402
def Op.SHEET_CLEAR_REG : Nat := 0x0403
def Op.SHEET_QUERY : Nat := 0x0404
def Op.DMA_START : Nat := 0x0501
def Op.DMA_STOP : Nat := 0x0502
def Op.DMA_RESUME : Nat := 0x0503
def Op.DMA_STATUS : Nat := 0x0504
def Op.DRIVE_START : Nat := 0x0601
def Op.DRIVE_SPEED : Nat := 0x0602
def Op.DRIVE_BRAKE : Nat := 0x0603
def Op.MOVE : Nat := 0x0604
def Op.GROUP_MOVE : Nat := 0x0605
def Op.HOME : Nat := 0x0606
def Op.STOP : Nat := 0x0607
def Op.EMERGENCY_STOP : Nat := 0x0608
def Op.MOTION_STATUS : Nat := 0x0609
def Op.LOOP_LOAD : Nat := 0x0701
def Op.LOOP_CLOSE : Nat := 0x0702
def Op.LOOP_OPEN : Nat := 0x0703
def Op.PROFILE_RUN : Nat := 0x0704
def Op.LOOP_STATUS : Nat := 0x0705
def Op.HV_SET : Nat := 0x0801
def Op.HV_ENABLE : Nat := 0x0802
def Op.FUSER_SET : Nat := 0x0803
def Op.FUSER_ENABLE : Nat := 0x0804
def Op.SUPPLY_STATUS : Nat := 0x0805
def Op.AFE_CALIBRATE : Nat := 0x0901
def Op.BAND_SURVEY : Nat := 0x0902
def Op.PLAN_LOAD : Nat := 0x0903
def Op.PLAN_SWITCH : Nat := 0x0904
def Op.TRIM_LOAD : Nat := 0x0905
def Op.TRIM_WRITE : Nat := 0x0906
def Op.HEAD_CAL : Nat := 0x0907
def Op.CAL_STATUS : Nat := 0x0908
def Op.INIT_MEMORY : Nat := 0x0A01
def Op.MEM_STATUS : Nat := 0x0A02
def Op.PAIR_STATUS : Nat := 0x0B01
def Op.PAIR_SYNC : Nat := 0x0B02
def Op.PAIR_SWITCH : Nat := 0x0B03
def Op.STORE_PROFILE : Nat := 0x0C01
def Op.STORE_TRIM : Nat := 0x0C02
def Op.STORE_PLAN : Nat := 0x0C03
def Op.PATCH_LOAD : Nat := 0x0C04
def Op.FUSE_WRITE : Nat := 0x0C05
def Op.FUSE_READ : Nat := 0x0C06
def Op.AUDIT_READ : Nat := 0x0C07
def Op.COUNTERS_READ : Nat := 0x0D01
def Op.TRACE_START : Nat := 0x0D02
def Op.TRACE_STOP : Nat := 0x0D03
def Op.CAPTURE : Nat := 0x0D04
def Op.LINK_LOOPBACK : Nat := 0x0D05
def Op.EVENT_MASK : Nat := 0x0D06

/-- Every opcode of 03 R72; all others complete with BAD_OPCODE. -/
def Op.all : List Nat := [
  Op.NOP, Op.GET_INFO, Op.GET_MODE, Op.SET_MODE, Op.SAFE_STOP,
  Op.CLEAR_HALT, Op.FUNCTION_RESET, Op.CLAIM_KEY, Op.HAND_KEY, Op.KEY_TOUCH,
  Op.GET_KEY, Op.SERVICE_CHALLENGE, Op.SERVICE_RESPONSE, Op.SERVICE_END, Op.CFG_WRITE,
  Op.CFG_READ, Op.APPLY, Op.PROFILE_LOAD, Op.SHEET_SUBMIT, Op.SHEET_CANCEL,
  Op.SHEET_CLEAR_REG, Op.SHEET_QUERY, Op.DMA_START, Op.DMA_STOP, Op.DMA_RESUME,
  Op.DMA_STATUS, Op.DRIVE_START, Op.DRIVE_SPEED, Op.DRIVE_BRAKE, Op.MOVE,
  Op.GROUP_MOVE, Op.HOME, Op.STOP, Op.EMERGENCY_STOP, Op.MOTION_STATUS,
  Op.LOOP_LOAD, Op.LOOP_CLOSE, Op.LOOP_OPEN, Op.PROFILE_RUN, Op.LOOP_STATUS,
  Op.HV_SET, Op.HV_ENABLE, Op.FUSER_SET, Op.FUSER_ENABLE, Op.SUPPLY_STATUS,
  Op.AFE_CALIBRATE, Op.BAND_SURVEY, Op.PLAN_LOAD, Op.PLAN_SWITCH, Op.TRIM_LOAD,
  Op.TRIM_WRITE, Op.HEAD_CAL, Op.CAL_STATUS, Op.INIT_MEMORY, Op.MEM_STATUS,
  Op.PAIR_STATUS, Op.PAIR_SYNC, Op.PAIR_SWITCH, Op.STORE_PROFILE, Op.STORE_TRIM,
  Op.STORE_PLAN, Op.PATCH_LOAD, Op.FUSE_WRITE, Op.FUSE_READ, Op.AUDIT_READ,
  Op.COUNTERS_READ, Op.TRACE_START, Op.TRACE_STOP, Op.CAPTURE, Op.LINK_LOOPBACK,
  Op.EVENT_MASK ]

/-! Event indices, 03 R76. -/

def Ev.MODE_CHANGED : Nat := 0
def Ev.HALT : Nat := 1
def Ev.HVDIE_LINK_LOST : Nat := 2
def Ev.DIE_TEMP_HIGH : Nat := 3
def Ev.KEY_GRANTED : Nat := 4
def Ev.KEY_LAPSED : Nat := 5
def Ev.SERVICE_ENTERED : Nat := 6
def Ev.FEED_STARVED : Nat := 7
def Ev.SHEET_REG_TIMEOUT : Nat := 8
def Ev.JAM : Nat := 9
def Ev.DMA_BUS_ERROR : Nat := 10
def Ev.ENGINE_RETIRED : Nat := 11
def Ev.UNDERRUN : Nat := 12
def Ev.MEM_CORRECTED : Nat := 13
def Ev.TRIM_RELOADED : Nat := 14
def Ev.BD_COAST : Nat := 15
def Ev.FACET_MISMATCH : Nat := 16
def Ev.OVERSPEED : Nat := 17
def Ev.UNDERSPEED : Nat := 18
def Ev.EMITTER_FAILED : Nat := 19
def Ev.PLAN_SWITCHED : Nat := 20
def Ev.DUTY_CLAMP : Nat := 21
def Ev.PLL_UNLOCK : Nat := 22
def Ev.BEAM_LINK_DOWN : Nat := 23
def Ev.ENC_REVERSAL : Nat := 24
def Ev.STALL : Nat := 25
def Ev.DRIVE_SYNC_LOST : Nat := 26
def Ev.CHOPPER_FAULT : Nat := 27
def Ev.FLUX_BRAKING : Nat := 28
def Ev.BUS_OV : Nat := 29
def Ev.LOOP_OSCILLATION : Nat := 30
def Ev.HV_ARC : Nat := 31
def Ev.FUSER_BAND : Nat := 32
def Ev.INTERLOCK_OPEN : Nat := 33
def Ev.OVERTEMP_TRIP : Nat := 34
def Ev.BROWNOUT_WARNING : Nat := 35
def Ev.SLICE_RETIRED : Nat := 36
def Ev.CAL_DONE : Nat := 37
def Ev.PAIR_SYNCED : Nat := 38
def Ev.PAIR_UNSYNCED : Nat := 39
def Ev.TAKEOVER : Nat := 40
def Ev.QUEUE_FULL : Nat := 41
def Ev.QUEUE_ERROR : Nat := 42
def Ev.EVENT_OVERFLOW : Nat := 43
def Ev.ORPHAN_COMPLETION : Nat := 44

/-- Code and severity of each event, by index (03 R76). -/
def Ev.table : List (Nat × Nat) := [
  (0x0101, 0), (0x0102, 3), (0x0103, 2), (0x0104, 1), (0x0201, 0), (0x0202, 1), (0x0203, 0), (0x0301, 1),
  (0x0302, 2), (0x0303, 2), (0x0401, 2), (0x0402, 1), (0x0403, 2), (0x0404, 0), (0x0405, 1), (0x0501, 1),
  (0x0502, 2), (0x0503, 1), (0x0504, 1), (0x0505, 2), (0x0506, 0), (0x0507, 1), (0x0508, 2), (0x0509, 2),
  (0x0601, 1), (0x0602, 2), (0x0603, 2), (0x0604, 2), (0x0605, 1), (0x0606, 3), (0x0607, 2), (0x0701, 1),
  (0x0702, 1), (0x0703, 2), (0x0704, 3), (0x0705, 2), (0x0801, 1), (0x0802, 0), (0x0901, 0), (0x0902, 1),
  (0x0903, 2), (0x0A01, 1), (0x0A02, 2), (0x0A03, 1), (0x0A04, 1) ]

/-! Halt causes, 05 R109. -/

def Halt.HOST_STOP : Nat := 0
def Halt.DRIVE_FAULT : Nat := 1
def Halt.STALL : Nat := 2
def Halt.BUS_OV : Nat := 3
def Halt.OVERTEMP : Nat := 4
def Halt.INTERLOCK : Nat := 5
def Halt.HVDIE_LINK : Nat := 6
def Halt.LOOP_REARM : Nat := 7
def Halt.FORCED_RESET : Nat := 8
def Halt.LOOP_OSCILLATION : Nat := 9
def Halt.SUPPLY_FAULT : Nat := 10
def Halt.BROWNOUT : Nat := 11
def Halt.WARM_TIMEOUT : Nat := 12
def Halt.JAM : Nat := 13
def Halt.PLL_UNLOCK : Nat := 14
def Halt.TAKEOVER_FENCE : Nat := 15

/-! Cause bits of a sheet, 02 R44. -/

def Cause.COASTED : Nat := 0
def Cause.FACET_MISMATCH : Nat := 1
def Cause.OVERSPEED : Nat := 2
def Cause.UNDERSPEED : Nat := 3
def Cause.ENC_REVERSAL : Nat := 4
def Cause.EMITTER_LOST : Nat := 5
def Cause.EMITTER_BLANKED : Nat := 6
def Cause.DUTY_CLAMP : Nat := 7
def Cause.UNDERRUN : Nat := 8
def Cause.STATION_RESET : Nat := 9
def Cause.SAFE_STOP : Nat := 10
def Cause.HV_ARC : Nat := 11
def Cause.FUSER_BAND : Nat := 12
def Cause.REG_LATE : Nat := 13
def Cause.DECOMP_RETRY : Nat := 14
def Cause.GAP_ADDED : Nat := 15
def Cause.TAKEOVER : Nat := 16
def Cause.HOST_CANCEL : Nat := 17

/-! Functions of a per-function reset, 05 R117; station n is `Fn.STATION + n`. -/

def Fn.HOSTQ : Nat := 0
def Fn.DMA : Nat := 1
def Fn.DECOMP : Nat := 2
def Fn.STATION : Nat := 3
def Fn.MOTION : Nat := 8
def Fn.LOOPS : Nat := 9
def Fn.HV : Nat := 10
def Fn.FUSER : Nat := 11
def Fn.AFE : Nat := 12
def Fn.NVSTORE : Nat := 13
def Fn.PAIRLINK : Nat := 14

/-! Kinds of audit entries, 22 R453. -/

def Audit.KEY_GRANT : Nat := 1
def Audit.KEY_HAND : Nat := 2
def Audit.KEY_RELEASE : Nat := 3
def Audit.KEY_LAPSE : Nat := 4
def Audit.SERVICE_GAINED : Nat := 5
def Audit.SERVICE_FAILED : Nat := 6
def Audit.SERVICE_MODE : Nat := 7
def Audit.FUSE_WRITE : Nat := 8
def Audit.STORE : Nat := 9
def Audit.BOOT : Nat := 10
def Audit.LOST : Nat := 11

/-! Queue types, 03 R55. -/

def Ty.UNUSED : Nat := 0
def Ty.SUBMISSION : Nat := 1
def Ty.COMPLETION : Nat := 2
def Ty.EVENT : Nat := 3
def Ty.DATA_REQUEST : Nat := 4
def Ty.SHEET_RECORD : Nat := 5
def Ty.AUDIT : Nat := 6

/-! Tumbler group codes, 24 R487. -/

def Grp.QUE_RING : Nat := 1
def Grp.STN_SCAN : Nat := 2
def Grp.STN_LINE : Nat := 3
def Grp.STN_HEAD : Nat := 4
def Grp.STN_DRIVE : Nat := 5
def Grp.DRV_MOTOR : Nat := 6
def Grp.LOOP_COEF : Nat := 7
def Grp.AXS_GEOM : Nat := 8
def Grp.AFEB_CHAN : Nat := 9

end Sys2Proof
end

