-- ==== Sys2Proof/Machine/RegMap.lean ====
section
/-! DEFINITION. The register map of BAR0 (24 R478-R486): every block, every register position and every field, with its
access class (24 R480), its reset value and, where its meaning gives one, its numeric range (24 R496). The rows follow
the field tables of the chapters; `Reg.X` is the address of register X and `Fld.X` one of its fields. -/

namespace Sys2Proof

/-- The access classes (01 R18, 24 R480). -/
inductive Access where
  | ro | rw | rws | w1c | wo
  deriving DecidableEq, Repr

/-- One field of a register: where it lies, its class, its reset value, its range and step (24 R496), and whether it is
a must-be-0 field (24 R479). -/
structure FieldDef where
  lsb   : Nat
  width : Nat
  acc   : Access
  reset : Nat
  lo    : Nat
  hi    : Nat
  step  : Nat
  mbz   : Bool
  deriving DecidableEq, Repr

/-- A row of a block: `count` registers from offset `off` at `stride`, all with these fields. Bits that no field covers
are reserved. -/
structure RegDef where
  off    : Nat
  count  : Nat
  stride : Nat
  fields : List FieldDef
  deriving DecidableEq, Repr

namespace RegMap

def ro (l w : Nat) : FieldDef := ⟨l, w, .ro, 0, 0, 2 ^ w - 1, 1, false⟩
def rw (l w r : Nat) : FieldDef := ⟨l, w, .rw, r, 0, 2 ^ w - 1, 1, false⟩
def rwLim (l w r lo hi : Nat) : FieldDef := ⟨l, w, .rw, r, lo, hi, 1, false⟩
def rwStep (l w r lo hi step : Nat) : FieldDef := ⟨l, w, .rw, r, lo, hi, step, false⟩
def rws (l w r : Nat) : FieldDef := ⟨l, w, .rws, r, 0, 2 ^ w - 1, 1, false⟩
def w1c (l w : Nat) : FieldDef := ⟨l, w, .w1c, 0, 0, 2 ^ w - 1, 1, false⟩
def wo (l w : Nat) : FieldDef := ⟨l, w, .wo, 0, 0, 2 ^ w - 1, 1, false⟩
def mbz (l w : Nat) : FieldDef := ⟨l, w, .wo, 0, 0, 0, 1, true⟩
def mbzs (l w : Nat) : FieldDef := ⟨l, w, .rws, 0, 0, 0, 1, true⟩

/-- The system block (24 R482). -/
def sysRegsA : List RegDef := [
  ⟨0x000, 1, 0x4, [ro 0 32]⟩,  -- SYS_ID
  ⟨0x004, 1, 0x4, [ro 0 8, ro 16 16]⟩,  -- SYS_REV
  ⟨0x008, 1, 0x4, [ro 0 32]⟩,  -- SERIAL_LO
  ⟨0x00C, 1, 0x4, [ro 0 32]⟩,  -- SERIAL_HI
  ⟨0x010, 1, 0x4, [ro 0 32]⟩,  -- SYS_ENGINE_ID
  ⟨0x014, 1, 0x4, [ro 0 32]⟩,  -- TIME_LO
  ⟨0x018, 1, 0x4, [ro 0 32]⟩,  -- TIME_HI
  ⟨0x020, 1, 0x4, [ro 0 3, ro 3 1, ro 4 1, ro 5 1, ro 8 2]⟩,  -- SYS_MODE
  ⟨0x024, 1, 0x4, [ro 0 16, ro 16 5]⟩,  -- SYS_HALT
  ⟨0x028, 1, 0x4, [rwLim 0 10 180 10 1000, rwLim 10 10 100 0 1000, rwLim 20 8 30 1 255]⟩,  -- SYS_MODE_CFG
  ⟨0x02C, 1, 0x4, [ro 0 4, ro 4 1, ro 5 1, ro 6 2, ro 16 16]⟩,  -- SYS_BOOT
  ⟨0x030, 1, 0x4, [wo 0 15, mbz 15 16, wo 31 1]⟩,  -- SYS_FUNC_RESET
  ⟨0x034, 1, 0x4, [ro 0 15]⟩,  -- SYS_FUNC_RESET_STATE
  ⟨0x038, 1, 0x4, [rw 0 3 0]⟩,  -- SYS_MASTER_STN
  ⟨0x040, 1, 0x4, [rwLim 0 14 250 10 10000, rwLim 14 6 2 0 50, rw 20 1 1]⟩,  -- SYS_KEY_CFG
  ⟨0x044, 1, 0x4, [ro 0 2, ro 2 1, ro 3 1, ro 4 1, ro 16 16]⟩,  -- SYS_KEY_STATE
  ⟨0x048, 1, 0x4, [ro 0 32]⟩,  -- SYS_ARB_SEQ
  ⟨0x04C, 1, 0x4, [ro 0 32]⟩,  -- SYS_WRITE_REFUSED
  ⟨0x050, 1, 0x4, [ro 0 32]⟩,  -- MGMT_SYNC_ERR
  ⟨0x054, 1, 0x4, [wo 0 8, wo 8 5, mbz 13 18, wo 31 1]⟩,  -- SYS_TUMBLER_APPLY
  ⟨0x058, 1, 0x4, [ro 0 16, ro 16 8, ro 24 5, ro 29 1]⟩,  -- SYS_TUMBLER_STAT
  ⟨0x05C, 1, 0x4, [rwLim 0 16 1000 10 60000]⟩,  -- SYS_TUMBLER_CFG
  ⟨0x060, 1, 0x4, [rwLim 0 20 500000 10000 1000000, rwLim 20 12 250 20 4000]⟩,  -- SHT_PATH_CFG
  ⟨0x064, 1, 0x4, [rwStep 0 10 128 32 992 32, rwLim 10 8 40 5 200, rwLim 18 14 500 50 10000]⟩,  -- SHT_GATE_CFG
  ⟨0x068, 1, 0x4, [rwLim 0 14 12000 500 13000]⟩,  -- SHT_LINK_CFG
  ⟨0x06C, 1, 0x4, [rwLim 0 12 250 0 2000, rwLim 12 12 2000 100 4000]⟩,  -- SHT_HOLD_CFG
  ⟨0x070, 1, 0x4, [rw 0 8 4, rw 8 8 8, rw 16 6 63, rw 22 1 0]⟩,  -- SHT_OUTCOME_CFG
  ⟨0x074, 1, 0x4, [ro 0 32]⟩,  -- SHT_RECORD_SEQ
  ⟨0x080, 1, 0x4, [rwLim 0 10 100 5 1000]⟩,  -- SYS_DMA_CFG
  ⟨0x084, 1, 0x4, [ro 0 1, ro 1 15, ro 16 16]⟩,  -- SYS_DMA_STAT
  ⟨0x088, 1, 0x4, [ro 0 12, ro 12 12, ro 24 8]⟩,  -- SYS_SHX_STAT
  ⟨0x08C, 1, 0x4, [rw 0 4 4, rw 4 4 4, rw 8 4 4, rw 12 4 4, rw 16 4 4, rw 20 4 8]⟩,  -- SYS_MEM_ALLOC
  ⟨0x090, 1, 0x4, [ro 0 20, ro 20 4, ro 24 7]⟩,  -- SYS_MEM_LIVE
  ⟨0x094, 1, 0x4, [rwLim 0 10 100 20 1000, rwLim 10 4 3 1 15, rwLim 14 10 10 1 1000]⟩,  -- SYS_DEC_CFG
  ⟨0x098, 1, 0x4, [ro 0 12, ro 16 16]⟩,  -- SYS_DEC_STAT
  ⟨0x09C, 1, 0x4, [ro 0 24]⟩,  -- SYS_FEED_STAT
  ⟨0x0A0, 1, 0x4, [ro 0 16, ro 16 16]⟩,  -- SYS_STAGE_STAT
  ⟨0x0A4, 1, 0x4, [ro 0 16]⟩,  -- SYS_STAGE_STALE
  ⟨0x0A8, 1, 0x4, [rw 0 8 10, rw 8 1 1]⟩,  -- SYS_MEM_SCRUB_CFG
  ⟨0x0AC, 1, 0x4, [ro 0 21, ro 21 11]⟩,  -- SYS_MEM_SCRUB_STAT
  ⟨0x0B0, 1, 0x4, [ro 0 12, ro 12 8, ro 20 12]⟩,  -- SYS_MEM_CNT
  ⟨0x0B4, 1, 0x4, [ro 0 21, ro 24 8]⟩,  -- SYS_MEM_LAST
  ⟨0x0C0, 1, 0x4, [rwLim 0 6 32 1 32, rw 6 1 1]⟩,  -- SYS_PLAN_CFG
  ⟨0x0C4, 1, 0x4, [ro 0 6, ro 6 1, ro 7 3, ro 10 6, ro 16 6]⟩,  -- SYS_PLAN_STAT
  ⟨0x0C8, 1, 0x4, [ro 0 16]⟩,  -- SYS_LOOP_STAT
  ⟨0x0D0, 1, 0x4, [rw 0 8 200, rw 8 8 208, rw 16 8 224, rw 24 8 240]⟩,  -- SYS_BUS_CFG
  ⟨0x0D4, 1, 0x4, [rw 0 8 5, rw 8 8 10, rw 16 1 1]⟩,  -- SYS_BUS_CFG2
  ⟨0x0D8, 1, 0x4, [ro 0 12, ro 12 1, ro 13 2, ro 15 1, ro 16 16]⟩,  -- SYS_BUS_STAT
  ⟨0x0DC, 1, 0x4, [wo 0 1, mbz 1 31]⟩,  -- SYS_BUS_FLT
  ⟨0x0E0, 1, 0x4, [ro 0 12, ro 12 1, ro 13 1, ro 16 16]⟩,  -- SYS_SUPPLY_STAT
  ⟨0x0E4, 1, 0x4, [ro 0 8, ro 8 8]⟩,  -- SYS_SUPPLY_V5
  ⟨0x0E8, 1, 0x4, [rw 0 5 31]⟩,  -- SYS_DOMAIN_CTL
  ⟨0x0EC, 1, 0x4, [ro 0 1, ro 1 1, ro 2 1, ro 3 1, ro 4 1, ro 5 5, ro 10 1, ro 11 5, w1c 16 1]⟩,  -- SYS_DOMAIN_STATE
  ⟨0x0F0, 1, 0x4, [ro 0 1, ro 1 1, ro 2 1, ro 16 16]⟩,  -- SYS_SAFETY_STAT
  ⟨0x100, 1, 0x4, [rwLim 0 4 5 3 15, rwLim 4 8 100 20 255, rwLim 12 8 20 5 255, rwLim 20 10 500 50 1000, rw 30 1 1, rw 31 1 0]⟩,  -- SYS_PAIR_CFG
  ⟨0x104, 1, 0x4, [ro 0 1, ro 1 1, ro 2 1, ro 3 2, ro 5 1, ro 6 1, ro 7 2, ro 9 1, ro 10 1, ro 11 1, ro 16 8]⟩,  -- SYS_PAIR_STAT
  ⟨0x108, 1, 0x4, [ro 0 12, ro 12 5, ro 17 1, ro 18 1]⟩,  -- SYS_PAIR_CONV_LO
  ⟨0x10C, 1, 0x4, [ro 0 24]⟩,  -- SYS_PAIR_CONV_HI
  ⟨0x110, 1, 0x4, [ro 0 16]⟩,  -- SYS_PAIR_ACK
  ⟨0x114, 1, 0x4, [ro 0 8, ro 8 8, ro 16 16]⟩ ]  -- SYS_PAIR_CNT

/-- The system block (24 R482). -/
def sysRegsB : List RegDef := [
  ⟨0x120, 1, 0x4, [rwLim 0 12 420 360 2400]⟩,  -- SYS_NV_CFG
  ⟨0x124, 1, 0x4, [ro 0 1, ro 1 3, ro 4 9, ro 13 1, ro 14 1, ro 16 16]⟩,  -- SYS_NV_STAT
  ⟨0x128, 1, 0x4, [ro 0 32]⟩,  -- SYS_AUDIT_SEQ
  ⟨0x12C, 1, 0x4, [ro 0 13]⟩,  -- SYS_AUDIT_HELD
  ⟨0x130, 10, 0x4, [ro 0 32]⟩,  -- SYS_SVC_CHALc
  ⟨0x160, 1, 0x4, [rw 0 32 0]⟩,  -- GPIO_OUT
  ⟨0x164, 1, 0x4, [rw 0 32 0]⟩,  -- GPIO_OE
  ⟨0x168, 1, 0x4, [ro 0 32]⟩,  -- GPIO_IN
  ⟨0x200, 4, 0x10, [rwLim 0 4 0 0 7, rw 4 4 15, rw 8 5 0, rw 13 6 0, rw 19 6 0, rw 25 1 0, rw 26 6 5]⟩,  -- FZn_CFG
  ⟨0x204, 4, 0x10, [rw 0 16 0, rw 16 16 0]⟩,  -- FZn_SET
  ⟨0x208, 4, 0x10, [rw 0 8 20, rw 8 8 50, rwLim 16 8 10 5 20, rw 24 8 50]⟩,  -- FZn_PROT
  ⟨0x20C, 4, 0x10, [ro 0 11, ro 11 1, ro 12 1, w1c 13 1]⟩,  -- FZn_STAT
  ⟨0x240, 8, 0x8, [rw 0 8 0, rw 8 16 3950, rw 24 8 100]⟩,  -- THn_CFG
  ⟨0x244, 8, 0x8, [ro 0 16, ro 16 1, ro 17 1]⟩,  -- THn_TEMP
  ⟨0x300, 24, 0x10, [ro 0 3, ro 3 5, ro 8 8, ro 16 16]⟩,  -- SHT_SLOTs_STATE
  ⟨0x304, 24, 0x10, [ro 0 32]⟩,  -- SLOT_ID
  ⟨0x308, 24, 0x10, [ro 0 32]⟩ ]  -- SLOT_FLAGS

/-- The system block (24 R482). -/
def sysRegs : List RegDef := sysRegsA ++ sysRegsB

/-- The AFE block (24 R485, 19 R402). -/
def afeRegs : List RegDef := [
  ⟨0x000, 1, 0x4, [rw 0 8 50, rw 8 8 60, rw 16 8 12, rw 24 8 64]⟩,  -- AFE_CAL_CFG
  ⟨0x004, 1, 0x4, [rw 0 8 100, rw 8 8 6, rw 16 8 20, rw 24 1 1]⟩,  -- AFE_CAL_CFG2
  ⟨0x008, 1, 0x4, [rwLim 0 8 0 0 159, rw 8 1 0, rw 9 1 1]⟩,  -- AFE_CH_ADDR
  ⟨0x00C, 1, 0x4, [rws 0 32 0]⟩,  -- AFE_CH_DATA
  ⟨0x010, 1, 0x4, [ro 0 16, ro 16 16]⟩,  -- AFE_TEMP
  ⟨0x014, 1, 0x4, [ro 0 3, ro 16 16]⟩,  -- AFE_CAL_STAT
  ⟨0x018, 1, 0x4, [rwLim 0 8 0 0 159]⟩,  -- AFE_READ_SEL
  ⟨0x01C, 1, 0x4, [ro 0 16, ro 16 16]⟩,  -- AFE_READ
  ⟨0x020, 1, 0x4, [ro 0 14, ro 14 3]⟩,  -- AFE_READ_RAW
  ⟨0x024, 1, 0x4, [wo 0 1, mbz 1 31]⟩,  -- AFE_STAT_CLR
  ⟨0x040, 3, 0x20, [ro 0 5, ro 5 5, ro 10 5, ro 15 3, ro 18 3, ro 21 1, ro 22 10]⟩,  -- AFEBb_STAT
  ⟨0x044, 3, 0x20, [ro 0 16, ro 16 16]⟩,  -- AFEBb_CAL_TJ
  ⟨0x048, 3, 0x20, [ro 0 32]⟩,  -- AFEBb_FRAMES
  ⟨0x04C, 3, 0x20, [ro 0 16, ro 16 16]⟩,  -- AFEBb_LATE
  ⟨0x050, 3, 0x20, [ro 0 9, ro 9 9]⟩,  -- AFEBb_SLOTS
  ⟨0x100, 15, 0x4, [ro 0 16, ro 16 16]⟩,  -- AFEBb_SLICEs
  ⟨0x200, 15, 0x20, [ro 0 32]⟩,  -- AFEBb_DIAG_s_0
  ⟨0x204, 15, 0x20, [ro 0 32]⟩,  -- AFEBb_DIAG_s_1
  ⟨0x208, 15, 0x20, [ro 0 32]⟩,  -- AFEBb_DIAG_s_2
  ⟨0x20C, 15, 0x20, [ro 0 32]⟩,  -- AFEBb_DIAG_s_3
  ⟨0x210, 15, 0x20, [ro 0 32]⟩,  -- AFEBb_DIAG_s_4
  ⟨0x214, 15, 0x20, [ro 0 32]⟩ ]  -- AFEBb_DIAG_s_5

/-- A queue (03 R56). -/
def queRegs : List RegDef := [
  ⟨0x000, 1, 0x4, [mbzs 0 6, rws 6 26 0]⟩,  -- QUEn_BASE_LO
  ⟨0x004, 1, 0x4, [rws 0 32 0]⟩,  -- QUEn_BASE_HI
  ⟨0x008, 1, 0x4, [rws 0 4 0, rws 4 4 8, rws 8 5 0, rws 13 1 0, rws 14 3 0]⟩,  -- QUEn_CFG
  ⟨0x00C, 1, 0x4, [mbzs 0 2, rws 2 30 0]⟩,  -- QUEn_WB_LO
  ⟨0x010, 1, 0x4, [rws 0 32 0]⟩,  -- QUEn_WB_HI
  ⟨0x014, 1, 0x4, [rw 0 1 0, rw 1 1 1, rw 2 8 1, rw 10 10 0]⟩,  -- QUEn_CTL
  ⟨0x018, 1, 0x4, [ro 0 12, ro 16 12]⟩,  -- QUEn_PTR
  ⟨0x01C, 1, 0x4, [w1c 0 1, w1c 1 1, w1c 2 1, w1c 3 1, w1c 4 1]⟩ ]  -- QUEn_STAT

/-- A DMA channel (06 R138). -/
def dmaRegs : List RegDef := [
  ⟨0x000, 1, 0x4, [rw 0 2 0, rw 2 6 15]⟩,  -- DMAn_CFG
  ⟨0x004, 1, 0x4, [ro 0 3, ro 3 4]⟩,  -- DMAn_STATE
  ⟨0x008, 1, 0x4, [ro 0 32]⟩,  -- DMAn_CUR_LO
  ⟨0x00C, 1, 0x4, [ro 0 32]⟩,  -- DMAn_CUR_HI
  ⟨0x010, 1, 0x4, [ro 0 32]⟩,  -- DMAn_DONE
  ⟨0x014, 1, 0x4, [ro 0 32]⟩,  -- DMAn_BYTES_LO
  ⟨0x018, 1, 0x4, [ro 0 32]⟩,  -- DMAn_BYTES_HI
  ⟨0x01C, 1, 0x4, [w1c 0 1, w1c 1 1, w1c 2 1, ro 16 16]⟩ ]  -- DMAn_ERR

/-- An HV channel (17 R372). -/
def hvRegs : List RegDef := [
  ⟨0x000, 1, 0x4, [rwLim 0 8 0 0 159, rw 8 1 0, rw 9 1 0, rw 10 1 1, rw 11 1 0, rw 12 3 7, rw 16 16 5000]⟩,  -- HVn_CFG
  ⟨0x004, 1, 0x4, [rw 0 16 0, rwLim 16 16 100 1 65535]⟩,  -- HVn_SET
  ⟨0x008, 1, 0x4, [rw 0 8 16, rw 8 8 200, rw 16 8 8, rw 24 8 50]⟩,  -- HVn_REG
  ⟨0x00C, 1, 0x4, [rw 0 8 32, rw 8 8 2, rw 16 8 5]⟩,  -- HVn_ARC
  ⟨0x010, 1, 0x4, [ro 0 16, ro 16 1, ro 17 1, w1c 18 1]⟩,  -- HVn_STAT
  ⟨0x014, 1, 0x4, [ro 0 16, ro 16 16]⟩ ]  -- HVn_CNT

/-- A loop slot (15 R330). -/
def loopRegs : List RegDef := [
  ⟨0x000, 1, 0x4, [rws 0 4 1, rws 4 3 0, rws 7 3 1, rws 10 1 0, rws 11 1 0, rws 12 4 0, rws 16 16 100]⟩,  -- LOOPn_CFG
  ⟨0x004, 1, 0x4, [rws 0 12 0, rws 12 4 0, rws 16 12 0, rws 28 4 0]⟩,  -- LOOPn_INSEL01
  ⟨0x008, 1, 0x4, [rws 0 32 0]⟩,  -- LOOPn_INSEL23
  ⟨0x00C, 1, 0x4, [rws 0 8 0, rws 8 8 0, rws 16 8 0, rws 24 8 0]⟩,  -- LOOPn_OUTSEL
  ⟨0x010, 1, 0x4, [rws 0 8 0, rws 8 16 0, rws 24 8 0]⟩,  -- LOOPn_INT
  ⟨0x014, 1, 0x4, [rws 0 2 0, rws 2 3 0, rws 5 5 0]⟩,  -- LOOPn_REF_CFG
  ⟨0x018, 1, 0x4, [rwLim 0 8 0 0 200, rw 8 1 1]⟩,  -- LOOPn_COEF_ADDR
  ⟨0x01C, 1, 0x4, [rws 0 32 0]⟩,  -- LOOPn_COEF_DATA
  ⟨0x020, 1, 0x4, [rw 0 4 0, rw 4 6 8, rw 10 1 1, rw 16 16 2000]⟩,  -- LOOPn_OSC
  ⟨0x024, 1, 0x4, [rw 0 16 2048]⟩,  -- LOOPn_OSC_AMP
  ⟨0x028, 1, 0x4, [rw 0 32 4294967295]⟩,  -- LOOPn_PROF_V
  ⟨0x02C, 1, 0x4, [rw 0 32 1000]⟩,  -- LOOPn_PROF_A
  ⟨0x030, 1, 0x4, [rw 0 32 1000]⟩,  -- LOOPn_PROF_J
  ⟨0x034, 1, 0x4, [ro 0 3, ro 3 1, ro 4 4, ro 8 8, ro 16 2, w1c 18 1]⟩,  -- LOOPn_STAT
  ⟨0x038, 1, 0x4, [ro 0 32]⟩,  -- LOOPn_REF
  ⟨0x03C, 1, 0x4, [ro 0 16, ro 16 8, ro 24 8]⟩ ]  -- LOOPn_CNT

/-- An axis (16 R356), offsets 0x00 to 0x3F. -/
def axsRegs : List RegDef := [
  ⟨0x000, 1, 0x4, [rws 0 1 0, rws 1 4 8, rws 5 4 15, rws 9 1 0, rws 10 3 0, rws 13 1 0, rws 14 13 2000]⟩,  -- AXSn_CFG
  ⟨0x004, 1, 0x4, [rws 0 32 0]⟩,  -- AXSn_SCALE
  ⟨0x008, 1, 0x4, [rw 0 32 1000000]⟩,  -- AXSn_VMAX
  ⟨0x00C, 1, 0x4, [rw 0 32 100000]⟩,  -- AXSn_ACC
  ⟨0x010, 1, 0x4, [rw 0 32 100000]⟩,  -- AXSn_JERK
  ⟨0x014, 1, 0x4, [rw 0 16 2000, rw 16 16 500]⟩,  -- AXSn_STOP
  ⟨0x018, 1, 0x4, [rw 0 16 10000]⟩,  -- AXSn_ESTOP
  ⟨0x01C, 1, 0x4, [rw 0 16 1000, rw 16 16 2000]⟩,  -- AXSn_COIL
  ⟨0x020, 1, 0x4, [rw 0 8 25, rw 8 8 50, rw 16 8 100, rw 24 8 5]⟩,  -- AXSn_I
  ⟨0x024, 1, 0x4, [rw 0 8 30, rw 8 8 60, rw 16 8 80, rw 24 8 20]⟩,  -- AXSn_LA
  ⟨0x028, 1, 0x4, [rw 0 16 200, rw 16 8 20, rw 24 8 2]⟩,  -- AXSn_LA2
  ⟨0x02C, 1, 0x4, [ro 0 32]⟩,  -- AXSn_POS_LO
  ⟨0x030, 1, 0x4, [ro 0 32]⟩,  -- AXSn_POS_HI
  ⟨0x034, 1, 0x4, [ro 0 32]⟩,  -- AXSn_VEL
  ⟨0x038, 1, 0x4, [ro 0 3, ro 3 3, ro 6 1, w1c 7 1, ro 8 8, ro 16 8]⟩,  -- AXSn_STAT
  ⟨0x03C, 1, 0x4, [rws 0 32 0]⟩ ]  -- AXSn_ENC_CPS

/-- A sheet sensor, shared words of axes 0 to 7 (16 R355). -/
def ssRegs : List RegDef := [
  ⟨0x000, 1, 0x4, [rw 0 3 0, rw 3 1 0, rw 4 6 5, rw 10 1 0, rw 11 1 0, rw 12 16 5000]⟩,  -- SSn_CFG
  ⟨0x004, 1, 0x4, [rw 0 16 0, rw 16 8 20, rw 24 8 10]⟩ ]  -- SSn_WIN

/-- An encoder, shared words of axes 8 and 9 (16 R355). -/
def encRegs : List RegDef := [
  ⟨0x000, 1, 0x4, [rw 0 4 1, rw 4 1 0, rw 5 8 3, rw 13 1 0]⟩,  -- ENCn_CFG
  ⟨0x004, 1, 0x4, [ro 0 32]⟩,  -- ENC_LO
  ⟨0x008, 1, 0x4, [ro 0 32]⟩,  -- ENC_HI
  ⟨0x00C, 1, 0x4, [ro 0 16, ro 16 8, ro 24 8]⟩ ]  -- ENCn_STAT

/-- An interpolation group, shared words of axes 10 and 11 (16 R355). -/
def grpRegs : List RegDef := [
  ⟨0x000, 1, 0x4, [rw 0 32 1000000]⟩,  -- GRP_V
  ⟨0x004, 1, 0x4, [rw 0 32 10000]⟩,  -- GRP_A
  ⟨0x008, 1, 0x4, [rw 0 32 1000000]⟩,  -- GRP_J
  ⟨0x00C, 1, 0x4, [ro 0 24, ro 24 2, ro 26 5]⟩ ]  -- GRPg_STAT

/-- A path step, shared words of axes 12 to 14 (16 R355). -/
def pathRegs : List RegDef := [
  ⟨0x000, 1, 0x4, [rw 0 1 0, rw 1 2 0, rw 3 6 0, rw 9 1 0, rw 10 3 0, rw 13 5 0, rw 18 1 0]⟩,  -- PATHk_TRIG
  ⟨0x004, 1, 0x4, [rw 0 32 0]⟩,  -- PATHk_DELAY
  ⟨0x008, 1, 0x4, [rw 0 32 0]⟩ ]  -- PATHk_VALUE

/-- The shared words of axis 15 (16 R355). -/
def levelRegs : List RegDef := [
  ⟨0x000, 1, 0x4, [ro 0 32]⟩,  -- LEVEL_LO
  ⟨0x004, 1, 0x4, [ro 0 32]⟩,  -- LEVEL_HI
  ⟨0x008, 1, 0x4, [ro 0 8, ro 8 8, ro 16 16]⟩ ]  -- PATH_STAT

/-- A drive (24 R484, 14 R312). -/
def drvRegs : List RegDef := [
  ⟨0x000, 1, 0x4, [rws 0 1 0, rws 1 1 0, rws 2 3 0, rws 5 1 0, rws 6 4 2, rws 10 1 0]⟩,  -- DRVn_CFG
  ⟨0x004, 1, 0x4, [rws 0 16 500, rws 16 16 200]⟩,  -- DRVn_MOTOR0
  ⟨0x008, 1, 0x4, [rws 0 16 750, rws 16 16 60000]⟩,  -- DRVn_MOTOR1
  ⟨0x00C, 1, 0x4, [rws 0 14 5000, rws 14 8 20]⟩,  -- DRVn_PWM
  ⟨0x010, 1, 0x4, [rws 0 16 0, rws 16 16 0]⟩,  -- DRVn_CURLOOP
  ⟨0x014, 1, 0x4, [rws 0 16 200, rws 16 16 300]⟩,  -- DRVn_I_LIMIT
  ⟨0x018, 1, 0x4, [rws 0 16 0, rws 16 16 100]⟩,  -- DRVn_ID_LIMIT
  ⟨0x01C, 1, 0x4, [rw 0 2 0, rw 2 8 1, rw 10 1 1, wo 11 1, ro 12 1, ro 13 6]⟩,  -- DRVn_CAP_CTL
  ⟨0x020, 1, 0x4, [rw 0 16 1000, rw 16 16 300]⟩,  -- DRVn_START
  ⟨0x024, 1, 0x4, [rw 0 8 200, rw 8 8 128, rw 16 16 2000]⟩,  -- DRVn_START2
  ⟨0x028, 1, 0x4, [rw 0 8 40, rw 8 8 64, rw 16 8 20, rw 24 8 4]⟩,  -- DRVn_OBS
  ⟨0x02C, 1, 0x4, [rw 0 16 2000, rw 16 8 30]⟩,  -- DRVn_ZC
  ⟨0x030, 1, 0x4, [rw 0 16 5000, rw 16 16 100]⟩,  -- DRVn_RAMP
  ⟨0x034, 1, 0x4, [rw 0 16 5000, rw 16 16 100]⟩,  -- DRVn_STOP_RAMP
  ⟨0x038, 1, 0x4, [rw 0 16 20000]⟩,  -- DRVn_ESTOP
  ⟨0x03C, 1, 0x4, [rw 0 16 0]⟩,  -- DRVn_RUN_SPEED
  ⟨0x040, 1, 0x4, [ro 0 3, ro 3 1, ro 4 1, ro 5 1, ro 6 2]⟩,  -- DRVn_STAT
  ⟨0x044, 1, 0x4, [ro 0 32]⟩,  -- DRVn_SPEED
  ⟨0x048, 1, 0x4, [ro 0 16, ro 16 16]⟩,  -- DRVn_CURRENT
  ⟨0x04C, 1, 0x4, [w1c 0 8, ro 16 16]⟩,  -- DRVn_FAULT
  ⟨0x050, 1, 0x4, [ro 0 16, ro 16 16]⟩,  -- DRVn_ANGLE
  ⟨0x054, 1, 0x4, [ro 0 16, ro 16 16]⟩,  -- DRVn_EMF
  ⟨0x058, 1, 0x4, [ro 0 16, ro 16 16]⟩,  -- DRVn_VOLT
  ⟨0x05C, 1, 0x4, [ro 0 32]⟩,  -- DRVn_ENC_SPEED
  ⟨0x060, 1, 0x4, [ro 0 16, ro 16 4]⟩,  -- DRVn_OBS_RESID
  ⟨0x064, 1, 0x4, [ro 0 16, ro 16 16]⟩,  -- DRVn_STARTS
  ⟨0x068, 1, 0x4, [ro 0 32]⟩,  -- DRVn_TRIPS
  ⟨0x06C, 1, 0x4, [ro 0 32]⟩,  -- FB_TIME
  ⟨0x070, 1, 0x4, [ro 0 32]⟩,  -- FW_TIME
  ⟨0x074, 1, 0x4, [ro 0 16]⟩,  -- DRVn_PEAK_I
  ⟨0x078, 1, 0x4, [ro 0 12, ro 12 4, ro 16 16]⟩,  -- DRVn_TRIP_SNAP
  ⟨0x07C, 1, 0x4, [wo 0 1, mbz 1 31]⟩,  -- DRVn_STAT_CLR
  ⟨0x080, 64, 0x4, [ro 0 16, ro 16 16]⟩ ]  -- DRVn_CAPk

/-- A station (24 R483). -/
def stnRegsA : List RegDef := [
  ⟨0x000, 1, 0x4, [rws 0 4 8, rws 4 1 0, rws 5 6 0, rws 11 6 1]⟩,  -- STNn_SCAN_CFG
  ⟨0x004, 1, 0x4, [rws 0 16 2048, rws 16 6 0]⟩,  -- STNn_START
  ⟨0x008, 1, 0x4, [rws 0 20 46811]⟩,  -- STNn_PERIOD_NOM
  ⟨0x00C, 1, 0x4, [rws 0 16 0, rws 16 10 0]⟩,  -- STNn_HINGE_OFS
  ⟨0x010, 1, 0x4, [rws 0 3 0, rws 3 1 0]⟩,  -- STNn_DRUM_CFG
  ⟨0x014, 1, 0x4, [rws 0 32 172250]⟩,  -- STNn_DRUM_CPL
  ⟨0x018, 12, 0x4, [rws 0 16 0, rws 16 16 0]⟩,  -- STNn_FACETf
  ⟨0x048, 1, 0x4, [rw 0 8 16, rwLim 8 10 512 64 1023, rw 18 4 8, rw 22 4 4, rw 26 6 8]⟩,  -- STNn_BD_CFG
  ⟨0x04C, 1, 0x4, [ro 0 3, ro 3 4, ro 7 4, ro 16 16]⟩,  -- STNn_BD_STAT
  ⟨0x050, 1, 0x4, [ro 0 32]⟩,  -- STNn_PERIOD
  ⟨0x054, 1, 0x4, [ro 0 32]⟩,  -- STNn_SWEEP_LO
  ⟨0x058, 1, 0x4, [ro 0 32]⟩,  -- STNn_SWEEP_HI
  ⟨0x05C, 1, 0x4, [ro 0 16, ro 16 16]⟩,  -- STNn_LINE_ERR
  ⟨0x060, 1, 0x4, [ro 0 16, ro 16 16]⟩,  -- STNn_BD_CNT
  ⟨0x064, 12, 0x4, [ro 0 16]⟩,  -- STNn_SIG_MEASf
  ⟨0x100, 1, 0x4, [rws 0 6 32, rws 6 6 32]⟩,  -- STNn_LINE_CFG
  ⟨0x104, 1, 0x4, [rws 0 5 1, rws 5 12 128, rws 17 5 0, rws 22 5 3, rws 27 1 0]⟩,  -- STNn_PLL_CFG
  ⟨0x108, 1, 0x4, [rws 0 8 16, rws 8 7 0, rws 15 1 1, rws 16 8 4, rws 24 7 0, rws 31 1 1]⟩,  -- STNn_CLK_OUT01
  ⟨0x10C, 1, 0x4, [rws 0 8 16, rws 8 7 0, rws 15 1 0, rws 16 8 128, rws 24 7 0, rws 31 1 1]⟩,  -- STNn_CLK_OUT23
  ⟨0x110, 1, 0x4, [rws 0 18 200000]⟩,  -- STNn_PIX_TARGET
  ⟨0x114, 1, 0x4, [rw 0 16 0]⟩,  -- STNn_PIX_RATE
  ⟨0x118, 1, 0x4, [ro 0 16, ro 16 16]⟩,  -- STNn_PIX_RATE_LIVE
  ⟨0x11C, 1, 0x4, [rwLim 0 5 4 0 20, rwLim 5 8 20 5 255]⟩,  -- STNn_PLL_CTL
  ⟨0x120, 1, 0x4, [ro 0 1, ro 1 1, ro 2 1, ro 3 1, w1c 4 1, ro 5 5, ro 10 6, ro 16 16]⟩,  -- STNn_PLL_STAT
  ⟨0x124, 1, 0x4, [ro 0 10]⟩,  -- STNn_PLL_VCTL
  ⟨0x180, 32, 0x4, [rw 0 12 0, rw 12 12 0, rw 31 1 0]⟩,  -- STNn_BANDb
  ⟨0x200, 34, 0x4, [rws 0 10 0]⟩,  -- STNn_HEAD_OFSe
  ⟨0x288, 1, 0x4, [ro 0 6, ro 6 3, ro 9 6, ro 15 1, ro 16 16]⟩,  -- STNn_PLAN_STAT
  ⟨0x28C, 1, 0x4, [ro 0 32]⟩,  -- STNn_PLAN_ID
  ⟨0x290, 1, 0x4, [ro 0 32]⟩,  -- STNn_SLOT_VALID_LO
  ⟨0x294, 1, 0x4, [ro 0 4]⟩,  -- STNn_SLOT_VALID_HI
  ⟨0x298, 1, 0x4, [ro 0 32]⟩,  -- STNn_ALT_LO
  ⟨0x29C, 1, 0x4, [ro 0 32]⟩,  -- STNn_ALT_SLOW_LO
  ⟨0x2A0, 1, 0x4, [ro 0 2, ro 2 2]⟩,  -- STNn_ALT_HI
  ⟨0x2A4, 1, 0x4, [ro 0 8, ro 8 6, ro 16 16]⟩,  -- STNn_PLAN_DIAG
  ⟨0x2A8, 1, 0x4, [ro 0 16, ro 16 16]⟩,  -- STNn_PLAN_CNT
  ⟨0x2C0, 8, 0x4, [ro 0 32]⟩,  -- STNn_LANE_MAPi
  ⟨0x300, 1, 0x4, [wo 0 1, ro 1 1, ro 2 1, rw 3 1 1]⟩,  -- STNn_SEG_CTL
  ⟨0x304, 1, 0x4, [rw 0 5 0, rwLim 5 6 0 0 33, rw 11 1 1]⟩,  -- STNn_SEG_ADDR
  ⟨0x308, 1, 0x4, [rw 0 10 0, rw 10 4 0]⟩,  -- STNn_SEG_PHASE
  ⟨0x30C, 1, 0x4, [rw 0 4 0, rw 4 6 0, rw 10 1 1]⟩,  -- STNn_DCT_ADDR
  ⟨0x310, 1, 0x4, [rws 0 6 0]⟩,  -- STNn_DCT_DATA
  ⟨0x314, 1, 0x4, [rws 0 6 8, rws 6 4 0, rws 10 6 0, rws 16 6 0]⟩,  -- STNn_PRIME_CFG
  ⟨0x318, 1, 0x4, [rw 0 8 176, rw 8 8 160, rwLim 16 6 40 0 55, rw 22 1 1]⟩,  -- STNn_DUTY_CFG
  ⟨0x31C, 1, 0x4, [ro 0 32]⟩,  -- STNn_DUTY_EMIT_LO
  ⟨0x320, 1, 0x4, [ro 0 2, ro 2 1, ro 16 16]⟩,  -- STNn_DUTY_EMIT_HI
  ⟨0x324, 1, 0x4, [ro 0 16, ro 16 16]⟩,  -- STNn_DUTY_CNT
  ⟨0x328, 1, 0x4, [rw 0 1 1, rw 1 6 32, rwLim 7 10 512 64 1023, rwLim 17 10 256 64 1023]⟩,  -- STNn_APC_CFG
  ⟨0x32C, 1, 0x4, [rw 0 8 64, rw 8 8 16, rw 16 8 51]⟩,  -- STNn_APC_CFG2
  ⟨0x330, 1, 0x4, [w1c 0 32]⟩,  -- STNn_EMIT_FAIL_LO
  ⟨0x334, 1, 0x4, [w1c 0 2]⟩,  -- STNn_EMIT_FAIL_HI
  ⟨0x338, 1, 0x4, [wo 0 6, wo 6 1, mbz 7 25]⟩,  -- STNn_EMIT_MARK
  ⟨0x33C, 1, 0x4, [ro 0 6, ro 6 3, ro 9 7, ro 16 16]⟩,  -- STNn_EMIT_LAST
  ⟨0x400, 34, 0x4, [rw 0 12 2048, rw 12 12 0]⟩,  -- STNn_APC_e
  ⟨0x500, 34, 0x4, [ro 0 12, ro 12 16]⟩,  -- STNn_APC_SMP_e
  ⟨0x600, 1, 0x4, [rw 0 4 10, rw 4 4 6, rw 8 4 0, rw 12 1 0, rwLim 13 8 50 20 255]⟩,  -- STNn_LINK_CFG
  ⟨0x604, 1, 0x4, [ro 0 3, ro 3 1, ro 4 1, ro 16 16]⟩,  -- STNn_LINK_STAT
  ⟨0x608, 1, 0x4, [ro 0 16, ro 16 16]⟩,  -- STNn_LINK_ERR
  ⟨0x60C, 1, 0x4, [ro 0 16, ro 16 16]⟩,  -- STNn_HEAD_ID
  ⟨0x610, 1, 0x4, [ro 0 16, ro 16 6, ro 22 3]⟩ ]  -- STNn_HEAD_INFO

/-- A station (24 R483). -/
def stnRegsB : List RegDef := [
  ⟨0x614, 1, 0x4, [ro 0 8, ro 8 3, ro 16 16]⟩,  -- STNn_HEAD_STAT
  ⟨0x618, 1, 0x4, [ro 0 16, ro 16 16]⟩,  -- STNn_WIN_STAT
  ⟨0x61C, 1, 0x4, [ro 0 32]⟩,  -- STNn_WIN_CNT
  ⟨0x620, 1, 0x4, [ro 0 16, ro 16 8, ro 24 8]⟩,  -- STNn_TRIM_STAT
  ⟨0x640, 12, 0x4, [ro 0 16, ro 16 16]⟩,  -- STNn_FACET_STATf
  ⟨0x67C, 1, 0x4, [wo 0 1, mbz 1 31]⟩,  -- STNn_STAT_CLR
  ⟨0x700, 34, 0x4, [ro 0 32]⟩,  -- STNn_EMIT_DOTS_e
  ⟨0x800, 34, 0x4, [ro 0 16]⟩,  -- STNn_EMIT_LOST_e
  ⟨0x900, 34, 0x4, [ro 0 16]⟩,  -- STNn_DUTY_SUM_e
  ⟨0xA00, 272, 0x4, [ro 0 28]⟩ ]  -- STNn_APC_HIST_e_k

/-- A station (24 R483). -/
def stnRegs : List RegDef := stnRegsA ++ stnRegsB

end RegMap

/-- The blocks of BAR0 (24 R478, 16 R355). -/
inductive Block where
  | sys | afe | que | dma | hv | loop | axs | ss | enc | grp | path | level | drv | stn
  deriving DecidableEq, Repr

def Block.regs : Block → List RegDef
  | .sys => RegMap.sysRegs | .afe => RegMap.afeRegs | .que => RegMap.queRegs | .dma => RegMap.dmaRegs
  | .hv => RegMap.hvRegs | .loop => RegMap.loopRegs | .axs => RegMap.axsRegs | .ss => RegMap.ssRegs
  | .enc => RegMap.encRegs | .grp => RegMap.grpRegs | .path => RegMap.pathRegs | .level => RegMap.levelRegs
  | .drv => RegMap.drvRegs | .stn => RegMap.stnRegs

/-- The shared words of the axis block (16 R355): `o` is the offset above 0x40 in axis `n`'s window. -/
def locateShared (n o : Nat) : Option (Block × Nat × Nat) :=
  if n < 8 then some (.ss, 8 * n + o / 8, o % 8)
  else if n < 10 then some (.enc, 4 * (n - 8) + o / 16, o % 16)
  else if n < 12 then some (.grp, 4 * (n - 10) + o / 16, o % 16)
  else if n < 15 then
    let w := 16 * (n - 12) + o / 4
    some (.path, w / 3, 4 * (w % 3) + o % 4)
  else if n = 15 then some (.level, 0, o)
  else none

/-- The block, instance and offset that hold a lower-half address (24 R478). -/
def locate (a : Nat) : Option (Block × Nat × Nat) :=
  if a < 0x1000 then some (.sys, 0, a)
  else if a < 0x2000 then some (.afe, 0, a - 0x1000)
  else if a < 0x2400 then some (.que, (a - 0x2000) / 0x20, (a - 0x2000) % 0x20)
  else if a < 0x3000 then none
  else if a < 0x3200 then some (.dma, (a - 0x3000) / 0x20, (a - 0x3000) % 0x20)
  else if a < 0x4000 then none
  else if a < 0x4240 then some (.hv, (a - 0x4000) / 0x18, (a - 0x4000) % 0x18)
  else if a < 0x5000 then none
  else if a < 0x5600 then some (.loop, (a - 0x5000) / 0x40, (a - 0x5000) % 0x40)
  else if a < 0x6000 then none
  else if a < 0x6C00 then
    let n := (a - 0x6000) / 0x80
    let o := (a - 0x6000) % 0x80
    if o < 0x40 then some (.axs, n, o) else locateShared n (o - 0x40)
  else if a < 0x8000 then none
  else if a < 0x9200 then some (.drv, (a - 0x8000) / 0x180, (a - 0x8000) % 0x180)
  else if a < 0x10000 then none
  else if a < 0x15000 then some (.stn, (a - 0x10000) / 0x1000, (a - 0x10000) % 0x1000)
  else none

/-- The register position of a row that an offset names: its index within the row. -/
def RegDef.index (r : RegDef) (o : Nat) : Option Nat :=
  if r.off ≤ o ∧ (o - r.off) % r.stride = 0 ∧ (o - r.off) / r.stride < r.count then some ((o - r.off) / r.stride) else none

/-- The row and index at an offset of a block. -/
def findReg : List RegDef → Nat → Option (RegDef × Nat)
  | [], _ => none
  | r :: rs, o => match r.index o with
    | some i => some (r, i)
    | none => findReg rs o

/-- The register at an address: its block, instance, offset and fields; none where BAR0 is unimplemented. -/
structure Pos where
  block  : Block
  inst   : Nat
  off    : Nat
  fields : List FieldDef
  deriving DecidableEq, Repr

def posOf (a : Nat) : Option Pos :=
  match locate a with
  | none => none
  | some (b, n, o) => match findReg b.regs o with
    | none => none
    | some (r, _) => some ⟨b, n, o, r.fields⟩

/-- The word that a list of fields holds when each takes its table reset value. -/
def fieldsReset : List FieldDef → Nat
  | [] => 0
  | f :: fs => f.reset <<< f.lsb ||| fieldsReset fs

/-- The default TYPE of a queue (03 R55). -/
def queueType (n : Nat) : Nat :=
  if n < 8 then 1 else if n < 16 then 2 else if n < 21 then 4 else if n = 21 then 3 else if n = 22 then 5
  else if n = 23 then 6 else 0

/-- Reset values that the tables give per instance: QUEn_CFG (03 R55, R56), STNn_DRUM_CFG (09 R204), STNn_HEAD_OFSe
(11 R238), DRVn_CFG (14 R312), HVn_CFG (17 R372), FZn_CFG and THn_CFG (17 R372). -/
def resetExtra (b : Block) (n o : Nat) : Nat :=
  match b with
  | .que => if o = 8 then
      queueType n ||| n <<< 8 ||| (if n = 0 then 1 <<< 13 else 0) |||
        (if 16 ≤ n ∧ n ≤ 20 then (n - 16) <<< 14 else 0)
    else 0
  | .stn => if o = 0x10 then n else if 0x200 ≤ o ∧ o < 0x288 then (o - 0x200) / 4 else 0
  | .drv => if o = 0 then
      (if 5 ≤ n ∧ n ≤ 10 then 1 <<< 1 ||| (n - 5) <<< 2 else 0) ||| (if n < 5 then 1 <<< 5 else 0)
    else 0
  | .hv => if o = 0 then n else 0
  | .sys =>
    if 0x200 ≤ o ∧ o < 0x240 ∧ o % 16 = 0 then (o - 0x200) / 16 ||| (20 + (o - 0x200) / 16) <<< 8
    else if 0x240 ≤ o ∧ o < 0x280 ∧ o % 8 = 0 then 120 + (o - 0x240) / 8 else 0
  | _ => 0

/-- The word that the writable fields (RW and RWS) of the register at `a` hold after reset. -/
def resetWord (a : Nat) : Word :=
  match posOf a with
  | none => 0
  | some p => BitVec.ofNat 32 (fieldsReset p.fields ||| resetExtra p.block p.inst p.off)

/-- A field of a register, as the meanings name it. -/
structure FieldRef where
  addr  : Nat
  lsb   : Nat
  width : Nat
  deriving DecidableEq, Repr

def Reg.SYS_ID : Nat := 0x0
def Reg.SYS_REV : Nat := 0x4
def Reg.SYS_SERIAL_LO : Nat := 0x8
def Reg.SYS_SERIAL_HI : Nat := 0xC
def Reg.SYS_ENGINE_ID : Nat := 0x10
def Reg.SYS_TIME_LO : Nat := 0x14
def Reg.SYS_TIME_HI : Nat := 0x18
def Reg.SYS_MODE : Nat := 0x20
def Reg.SYS_HALT : Nat := 0x24
def Reg.SYS_MODE_CFG : Nat := 0x28
def Reg.SYS_BOOT : Nat := 0x2C
def Reg.SYS_FUNC_RESET : Nat := 0x30
def Reg.SYS_FUNC_RESET_STATE : Nat := 0x34
def Reg.SYS_MASTER_STN : Nat := 0x38
def Reg.SYS_KEY_CFG : Nat := 0x40
def Reg.SYS_KEY_STATE : Nat := 0x44
def Reg.SYS_ARB_SEQ : Nat := 0x48
def Reg.SYS_WRITE_REFUSED : Nat := 0x4C
def Reg.MGMT_SYNC_ERR : Nat := 0x50
def Reg.SYS_TUMBLER_APPLY : Nat := 0x54
def Reg.SYS_TUMBLER_STAT : Nat := 0x58
def Reg.SYS_TUMBLER_CFG : Nat := 0x5C
def Reg.SHT_PATH_CFG : Nat := 0x60
def Reg.SHT_GATE_CFG : Nat := 0x64
def Reg.SHT_LINK_CFG : Nat := 0x68
def Reg.SHT_HOLD_CFG : Nat := 0x6C
def Reg.SHT_OUTCOME_CFG : Nat := 0x70
def Reg.SHT_RECORD_SEQ : Nat := 0x74
def Reg.SYS_DMA_CFG : Nat := 0x80
def Reg.SYS_DMA_STAT : Nat := 0x84
def Reg.SYS_SHX_STAT : Nat := 0x88
def Reg.SYS_MEM_ALLOC : Nat := 0x8C
def Reg.SYS_MEM_LIVE : Nat := 0x90
def Reg.SYS_DEC_CFG : Nat := 0x94
def Reg.SYS_DEC_STAT : Nat := 0x98
def Reg.SYS_FEED_STAT : Nat := 0x9C
def Reg.SYS_STAGE_STAT : Nat := 0xA0
def Reg.SYS_STAGE_STALE : Nat := 0xA4
def Reg.SYS_MEM_SCRUB_CFG : Nat := 0xA8
def Reg.SYS_MEM_SCRUB_STAT : Nat := 0xAC
def Reg.SYS_MEM_CNT : Nat := 0xB0
def Reg.SYS_MEM_LAST : Nat := 0xB4
def Reg.SYS_PLAN_CFG : Nat := 0xC0
def Reg.SYS_PLAN_STAT : Nat := 0xC4
def Reg.SYS_LOOP_STAT : Nat := 0xC8
def Reg.SYS_BUS_CFG : Nat := 0xD0
def Reg.SYS_BUS_CFG2 : Nat := 0xD4
def Reg.SYS_BUS_STAT : Nat := 0xD8
def Reg.SYS_BUS_FLT : Nat := 0xDC
def Reg.SYS_SUPPLY_STAT : Nat := 0xE0
def Reg.SYS_SUPPLY_V5 : Nat := 0xE4
def Reg.SYS_DOMAIN_CTL : Nat := 0xE8
def Reg.SYS_DOMAIN_STATE : Nat := 0xEC
def Reg.SYS_SAFETY_STAT : Nat := 0xF0
def Reg.SYS_PAIR_CFG : Nat := 0x100
def Reg.SYS_PAIR_STAT : Nat := 0x104
def Reg.SYS_PAIR_CONV_LO : Nat := 0x108
def Reg.SYS_PAIR_CONV_HI : Nat := 0x10C
def Reg.SYS_PAIR_ACK : Nat := 0x110
def Reg.SYS_PAIR_CNT : Nat := 0x114
def Reg.SYS_NV_CFG : Nat := 0x120
def Reg.SYS_NV_STAT : Nat := 0x124
def Reg.SYS_AUDIT_SEQ : Nat := 0x128
def Reg.SYS_AUDIT_HELD : Nat := 0x12C
def Reg.SYS_SVC_CHAL (i : Nat) : Nat := 0x130 + 0x4 * i
def Reg.SYS_GPIO_OUT : Nat := 0x160
def Reg.SYS_GPIO_OE : Nat := 0x164
def Reg.SYS_GPIO_IN : Nat := 0x168
def Reg.FZ_CFG (i : Nat) : Nat := 0x200 + 0x10 * i
def Reg.FZ_SET (i : Nat) : Nat := 0x204 + 0x10 * i
def Reg.FZ_PROT (i : Nat) : Nat := 0x208 + 0x10 * i
def Reg.FZ_STAT (i : Nat) : Nat := 0x20C + 0x10 * i
def Reg.TH_CFG (i : Nat) : Nat := 0x240 + 0x8 * i
def Reg.TH_TEMP (i : Nat) : Nat := 0x244 + 0x8 * i
def Reg.SHT_SLOT_STATE (i : Nat) : Nat := 0x300 + 0x10 * i
def Reg.SHT_SLOT_ID (i : Nat) : Nat := 0x304 + 0x10 * i
def Reg.SHT_SLOT_FLAGS (i : Nat) : Nat := 0x308 + 0x10 * i
def Reg.AFE_CAL_CFG : Nat := 0x1000
def Reg.AFE_CAL_CFG2 : Nat := 0x1004
def Reg.AFE_CH_ADDR : Nat := 0x1008
def Reg.AFE_CH_DATA : Nat := 0x100C
def Reg.AFE_TEMP : Nat := 0x1010
def Reg.AFE_CAL_STAT : Nat := 0x1014
def Reg.AFE_READ_SEL : Nat := 0x1018
def Reg.AFE_READ : Nat := 0x101C
def Reg.AFE_READ_RAW : Nat := 0x1020
def Reg.AFE_STAT_CLR : Nat := 0x1024
def Reg.AFEB_STAT (i : Nat) : Nat := 0x1040 + 0x20 * i
def Reg.AFEB_CAL_TJ (i : Nat) : Nat := 0x1044 + 0x20 * i
def Reg.AFEB_FRAMES (i : Nat) : Nat := 0x1048 + 0x20 * i
def Reg.AFEB_LATE (i : Nat) : Nat := 0x104C + 0x20 * i
def Reg.AFEB_SLOTS (i : Nat) : Nat := 0x1050 + 0x20 * i
def Reg.AFEB_SLICE (i : Nat) : Nat := 0x1100 + 0x4 * i
def Reg.AFEB_DIAG_s_0 (i : Nat) : Nat := 0x1200 + 0x20 * i
def Reg.AFEB_DIAG_s_1 (i : Nat) : Nat := 0x1204 + 0x20 * i
def Reg.AFEB_DIAG_s_2 (i : Nat) : Nat := 0x1208 + 0x20 * i
def Reg.AFEB_DIAG_s_3 (i : Nat) : Nat := 0x120C + 0x20 * i
def Reg.AFEB_DIAG_s_4 (i : Nat) : Nat := 0x1210 + 0x20 * i
def Reg.AFEB_DIAG_s_5 (i : Nat) : Nat := 0x1214 + 0x20 * i
def Reg.QUE_BASE_LO (n : Nat) : Nat := 0x2000 + 0x20 * n + 0x0
def Reg.QUE_BASE_HI (n : Nat) : Nat := 0x2000 + 0x20 * n + 0x4
def Reg.QUE_CFG (n : Nat) : Nat := 0x2000 + 0x20 * n + 0x8
def Reg.QUE_WB_LO (n : Nat) : Nat := 0x2000 + 0x20 * n + 0xC
def Reg.QUE_WB_HI (n : Nat) : Nat := 0x2000 + 0x20 * n + 0x10
def Reg.QUE_CTL (n : Nat) : Nat := 0x2000 + 0x20 * n + 0x14
def Reg.QUE_PTR (n : Nat) : Nat := 0x2000 + 0x20 * n + 0x18
def Reg.QUE_STAT (n : Nat) : Nat := 0x2000 + 0x20 * n + 0x1C
def Reg.DMA_CFG (n : Nat) : Nat := 0x3000 + 0x20 * n + 0x0
def Reg.DMA_STATE (n : Nat) : Nat := 0x3000 + 0x20 * n + 0x4
def Reg.DMA_CUR_LO (n : Nat) : Nat := 0x3000 + 0x20 * n + 0x8
def Reg.DMA_CUR_HI (n : Nat) : Nat := 0x3000 + 0x20 * n + 0xC
def Reg.DMA_DONE (n : Nat) : Nat := 0x3000 + 0x20 * n + 0x10
def Reg.DMA_BYTES_LO (n : Nat) : Nat := 0x3000 + 0x20 * n + 0x14
def Reg.DMA_BYTES_HI (n : Nat) : Nat := 0x3000 + 0x20 * n + 0x18
def Reg.DMA_ERR (n : Nat) : Nat := 0x3000 + 0x20 * n + 0x1C
def Reg.HV_CFG (n : Nat) : Nat := 0x4000 + 0x18 * n + 0x0
def Reg.HV_SET (n : Nat) : Nat := 0x4000 + 0x18 * n + 0x4
def Reg.HV_REG (n : Nat) : Nat := 0x4000 + 0x18 * n + 0x8
def Reg.HV_ARC (n : Nat) : Nat := 0x4000 + 0x18 * n + 0xC
def Reg.HV_STAT (n : Nat) : Nat := 0x4000 + 0x18 * n + 0x10
def Reg.HV_CNT (n : Nat) : Nat := 0x4000 + 0x18 * n + 0x14
def Reg.LOOP_CFG (n : Nat) : Nat := 0x5000 + 0x40 * n + 0x0
def Reg.LOOP_INSEL01 (n : Nat) : Nat := 0x5000 + 0x40 * n + 0x4
def Reg.LOOP_INSEL23 (n : Nat) : Nat := 0x5000 + 0x40 * n + 0x8
def Reg.LOOP_OUTSEL (n : Nat) : Nat := 0x5000 + 0x40 * n + 0xC
def Reg.LOOP_INT (n : Nat) : Nat := 0x5000 + 0x40 * n + 0x10
def Reg.LOOP_REF_CFG (n : Nat) : Nat := 0x5000 + 0x40 * n + 0x14
def Reg.LOOP_COEF_ADDR (n : Nat) : Nat := 0x5000 + 0x40 * n + 0x18
def Reg.LOOP_COEF_DATA (n : Nat) : Nat := 0x5000 + 0x40 * n + 0x1C
def Reg.LOOP_OSC (n : Nat) : Nat := 0x5000 + 0x40 * n + 0x20
def Reg.LOOP_OSC_AMP (n : Nat) : Nat := 0x5000 + 0x40 * n + 0x24
def Reg.LOOP_PROF_V (n : Nat) : Nat := 0x5000 + 0x40 * n + 0x28
def Reg.LOOP_PROF_A (n : Nat) : Nat := 0x5000 + 0x40 * n + 0x2C
def Reg.LOOP_PROF_J (n : Nat) : Nat := 0x5000 + 0x40 * n + 0x30
def Reg.LOOP_STAT (n : Nat) : Nat := 0x5000 + 0x40 * n + 0x34
def Reg.LOOP_REF (n : Nat) : Nat := 0x5000 + 0x40 * n + 0x38
def Reg.LOOP_CNT (n : Nat) : Nat := 0x5000 + 0x40 * n + 0x3C
def Reg.AXS_CFG (n : Nat) : Nat := 0x6000 + 0x80 * n + 0x0
def Reg.AXS_SCALE (n : Nat) : Nat := 0x6000 + 0x80 * n + 0x4
def Reg.AXS_VMAX (n : Nat) : Nat := 0x6000 + 0x80 * n + 0x8
def Reg.AXS_ACC (n : Nat) : Nat := 0x6000 + 0x80 * n + 0xC
def Reg.AXS_JERK (n : Nat) : Nat := 0x6000 + 0x80 * n + 0x10
def Reg.AXS_STOP (n : Nat) : Nat := 0x6000 + 0x80 * n + 0x14
def Reg.AXS_ESTOP (n : Nat) : Nat := 0x6000 + 0x80 * n + 0x18
def Reg.AXS_COIL (n : Nat) : Nat := 0x6000 + 0x80 * n + 0x1C
def Reg.AXS_I (n : Nat) : Nat := 0x6000 + 0x80 * n + 0x20
def Reg.AXS_LA (n : Nat) : Nat := 0x6000 + 0x80 * n + 0x24
def Reg.AXS_LA2 (n : Nat) : Nat := 0x6000 + 0x80 * n + 0x28
def Reg.AXS_POS_LO (n : Nat) : Nat := 0x6000 + 0x80 * n + 0x2C
def Reg.AXS_POS_HI (n : Nat) : Nat := 0x6000 + 0x80 * n + 0x30
def Reg.AXS_VEL (n : Nat) : Nat := 0x6000 + 0x80 * n + 0x34
def Reg.AXS_STAT (n : Nat) : Nat := 0x6000 + 0x80 * n + 0x38
def Reg.AXS_ENC_CPS (n : Nat) : Nat := 0x6000 + 0x80 * n + 0x3C
def Reg.SS_CFG (n : Nat) : Nat := 0x6040 + 0x80 * (n / 8) + 8 * (n % 8) + 0x0
def Reg.SS_WIN (n : Nat) : Nat := 0x6040 + 0x80 * (n / 8) + 8 * (n % 8) + 0x4
def Reg.ENC_CFG (n : Nat) : Nat := 0x6440 + 0x80 * (n / 4) + 16 * (n % 4) + 0x0
def Reg.ENC_COUNT_LO (n : Nat) : Nat := 0x6440 + 0x80 * (n / 4) + 16 * (n % 4) + 0x4
def Reg.ENC_COUNT_HI (n : Nat) : Nat := 0x6440 + 0x80 * (n / 4) + 16 * (n % 4) + 0x8
def Reg.ENC_STAT (n : Nat) : Nat := 0x6440 + 0x80 * (n / 4) + 16 * (n % 4) + 0xC
def Reg.GRP_V (n : Nat) : Nat := 0x6540 + 0x80 * (n / 4) + 16 * (n % 4) + 0x0
def Reg.GRP_A (n : Nat) : Nat := 0x6540 + 0x80 * (n / 4) + 16 * (n % 4) + 0x4
def Reg.GRP_J (n : Nat) : Nat := 0x6540 + 0x80 * (n / 4) + 16 * (n % 4) + 0x8
def Reg.GRP_STAT (n : Nat) : Nat := 0x6540 + 0x80 * (n / 4) + 16 * (n % 4) + 0xC
def Reg.PATH_TRIG (n : Nat) : Nat := 0x6000 + 0x80 * (12 + (3 * n + 0) / 16) + 0x40 + 4 * ((3 * n + 0) % 16)
def Reg.PATH_DELAY (n : Nat) : Nat := 0x6000 + 0x80 * (12 + (3 * n + 1) / 16) + 0x40 + 4 * ((3 * n + 1) % 16)
def Reg.PATH_VALUE (n : Nat) : Nat := 0x6000 + 0x80 * (12 + (3 * n + 2) / 16) + 0x40 + 4 * ((3 * n + 2) % 16)
def Reg.SS_LEVEL_LO : Nat := 0x67C0
def Reg.SS_LEVEL_HI : Nat := 0x67C4
def Reg.PATH_STAT : Nat := 0x67C8
def Reg.DRV_CFG (n : Nat) : Nat := 0x8000 + 0x180 * n + 0x0
def Reg.DRV_MOTOR0 (n : Nat) : Nat := 0x8000 + 0x180 * n + 0x4
def Reg.DRV_MOTOR1 (n : Nat) : Nat := 0x8000 + 0x180 * n + 0x8
def Reg.DRV_PWM (n : Nat) : Nat := 0x8000 + 0x180 * n + 0xC
def Reg.DRV_CURLOOP (n : Nat) : Nat := 0x8000 + 0x180 * n + 0x10
def Reg.DRV_I_LIMIT (n : Nat) : Nat := 0x8000 + 0x180 * n + 0x14
def Reg.DRV_ID_LIMIT (n : Nat) : Nat := 0x8000 + 0x180 * n + 0x18
def Reg.DRV_CAP_CTL (n : Nat) : Nat := 0x8000 + 0x180 * n + 0x1C
def Reg.DRV_START (n : Nat) : Nat := 0x8000 + 0x180 * n + 0x20
def Reg.DRV_START2 (n : Nat) : Nat := 0x8000 + 0x180 * n + 0x24
def Reg.DRV_OBS (n : Nat) : Nat := 0x8000 + 0x180 * n + 0x28
def Reg.DRV_ZC (n : Nat) : Nat := 0x8000 + 0x180 * n + 0x2C
def Reg.DRV_RAMP (n : Nat) : Nat := 0x8000 + 0x180 * n + 0x30
def Reg.DRV_STOP_RAMP (n : Nat) : Nat := 0x8000 + 0x180 * n + 0x34
def Reg.DRV_ESTOP (n : Nat) : Nat := 0x8000 + 0x180 * n + 0x38
def Reg.DRV_RUN_SPEED (n : Nat) : Nat := 0x8000 + 0x180 * n + 0x3C
def Reg.DRV_STAT (n : Nat) : Nat := 0x8000 + 0x180 * n + 0x40
def Reg.DRV_SPEED (n : Nat) : Nat := 0x8000 + 0x180 * n + 0x44
def Reg.DRV_CURRENT (n : Nat) : Nat := 0x8000 + 0x180 * n + 0x48
def Reg.DRV_FAULT (n : Nat) : Nat := 0x8000 + 0x180 * n + 0x4C
def Reg.DRV_ANGLE (n : Nat) : Nat := 0x8000 + 0x180 * n + 0x50
def Reg.DRV_EMF (n : Nat) : Nat := 0x8000 + 0x180 * n + 0x54
def Reg.DRV_VOLT (n : Nat) : Nat := 0x8000 + 0x180 * n + 0x58
def Reg.DRV_ENC_SPEED (n : Nat) : Nat := 0x8000 + 0x180 * n + 0x5C
def Reg.DRV_OBS_RESID (n : Nat) : Nat := 0x8000 + 0x180 * n + 0x60
def Reg.DRV_STARTS (n : Nat) : Nat := 0x8000 + 0x180 * n + 0x64
def Reg.DRV_TRIPS (n : Nat) : Nat := 0x8000 + 0x180 * n + 0x68
def Reg.DRV_FB_TIME (n : Nat) : Nat := 0x8000 + 0x180 * n + 0x6C
def Reg.DRV_FW_TIME (n : Nat) : Nat := 0x8000 + 0x180 * n + 0x70
def Reg.DRV_PEAK_I (n : Nat) : Nat := 0x8000 + 0x180 * n + 0x74
def Reg.DRV_TRIP_SNAP (n : Nat) : Nat := 0x8000 + 0x180 * n + 0x78
def Reg.DRV_STAT_CLR (n : Nat) : Nat := 0x8000 + 0x180 * n + 0x7C
def Reg.DRV_CAP (n i : Nat) : Nat := 0x8000 + 0x180 * n + 0x80 + 0x4 * i
def Reg.STN_SCAN_CFG (n : Nat) : Nat := 0x10000 + 0x1000 * n + 0x0
def Reg.STN_START (n : Nat) : Nat := 0x10000 + 0x1000 * n + 0x4
def Reg.STN_PERIOD_NOM (n : Nat) : Nat := 0x10000 + 0x1000 * n + 0x8
def Reg.STN_HINGE_OFS (n : Nat) : Nat := 0x10000 + 0x1000 * n + 0xC
def Reg.STN_DRUM_CFG (n : Nat) : Nat := 0x10000 + 0x1000 * n + 0x10
def Reg.STN_DRUM_CPL (n : Nat) : Nat := 0x10000 + 0x1000 * n + 0x14
def Reg.STN_FACET (n i : Nat) : Nat := 0x10000 + 0x1000 * n + 0x18 + 0x4 * i
def Reg.STN_BD_CFG (n : Nat) : Nat := 0x10000 + 0x1000 * n + 0x48
def Reg.STN_BD_STAT (n : Nat) : Nat := 0x10000 + 0x1000 * n + 0x4C
def Reg.STN_PERIOD (n : Nat) : Nat := 0x10000 + 0x1000 * n + 0x50
def Reg.STN_SWEEP_LO (n : Nat) : Nat := 0x10000 + 0x1000 * n + 0x54
def Reg.STN_SWEEP_HI (n : Nat) : Nat := 0x10000 + 0x1000 * n + 0x58
def Reg.STN_LINE_ERR (n : Nat) : Nat := 0x10000 + 0x1000 * n + 0x5C
def Reg.STN_BD_CNT (n : Nat) : Nat := 0x10000 + 0x1000 * n + 0x60
def Reg.STN_SIG_MEAS (n i : Nat) : Nat := 0x10000 + 0x1000 * n + 0x64 + 0x4 * i
def Reg.STN_LINE_CFG (n : Nat) : Nat := 0x10000 + 0x1000 * n + 0x100
def Reg.STN_PLL_CFG (n : Nat) : Nat := 0x10000 + 0x1000 * n + 0x104
def Reg.STN_CLK_OUT01 (n : Nat) : Nat := 0x10000 + 0x1000 * n + 0x108
def Reg.STN_CLK_OUT23 (n : Nat) : Nat := 0x10000 + 0x1000 * n + 0x10C
def Reg.STN_PIX_TARGET (n : Nat) : Nat := 0x10000 + 0x1000 * n + 0x110
def Reg.STN_PIX_RATE (n : Nat) : Nat := 0x10000 + 0x1000 * n + 0x114
def Reg.STN_PIX_RATE_LIVE (n : Nat) : Nat := 0x10000 + 0x1000 * n + 0x118
def Reg.STN_PLL_CTL (n : Nat) : Nat := 0x10000 + 0x1000 * n + 0x11C
def Reg.STN_PLL_STAT (n : Nat) : Nat := 0x10000 + 0x1000 * n + 0x120
def Reg.STN_PLL_VCTL (n : Nat) : Nat := 0x10000 + 0x1000 * n + 0x124
def Reg.STN_BAND (n i : Nat) : Nat := 0x10000 + 0x1000 * n + 0x180 + 0x4 * i
def Reg.STN_HEAD_OFS (n i : Nat) : Nat := 0x10000 + 0x1000 * n + 0x200 + 0x4 * i
def Reg.STN_PLAN_STAT (n : Nat) : Nat := 0x10000 + 0x1000 * n + 0x288
def Reg.STN_PLAN_ID (n : Nat) : Nat := 0x10000 + 0x1000 * n + 0x28C
def Reg.STN_SLOT_VALID_LO (n : Nat) : Nat := 0x10000 + 0x1000 * n + 0x290
def Reg.STN_SLOT_VALID_HI (n : Nat) : Nat := 0x10000 + 0x1000 * n + 0x294
def Reg.STN_ALT_LO (n : Nat) : Nat := 0x10000 + 0x1000 * n + 0x298
def Reg.STN_ALT_SLOW_LO (n : Nat) : Nat := 0x10000 + 0x1000 * n + 0x29C
def Reg.STN_ALT_HI (n : Nat) : Nat := 0x10000 + 0x1000 * n + 0x2A0
def Reg.STN_PLAN_DIAG (n : Nat) : Nat := 0x10000 + 0x1000 * n + 0x2A4
def Reg.STN_PLAN_CNT (n : Nat) : Nat := 0x10000 + 0x1000 * n + 0x2A8
def Reg.STN_LANE_MAP (n i : Nat) : Nat := 0x10000 + 0x1000 * n + 0x2C0 + 0x4 * i
def Reg.STN_SEG_CTL (n : Nat) : Nat := 0x10000 + 0x1000 * n + 0x300
def Reg.STN_SEG_ADDR (n : Nat) : Nat := 0x10000 + 0x1000 * n + 0x304
def Reg.STN_SEG_PHASE (n : Nat) : Nat := 0x10000 + 0x1000 * n + 0x308
def Reg.STN_DCT_ADDR (n : Nat) : Nat := 0x10000 + 0x1000 * n + 0x30C
def Reg.STN_DCT_DATA (n : Nat) : Nat := 0x10000 + 0x1000 * n + 0x310
def Reg.STN_PRIME_CFG (n : Nat) : Nat := 0x10000 + 0x1000 * n + 0x314
def Reg.STN_DUTY_CFG (n : Nat) : Nat := 0x10000 + 0x1000 * n + 0x318
def Reg.STN_DUTY_EMIT_LO (n : Nat) : Nat := 0x10000 + 0x1000 * n + 0x31C
def Reg.STN_DUTY_EMIT_HI (n : Nat) : Nat := 0x10000 + 0x1000 * n + 0x320
def Reg.STN_DUTY_CNT (n : Nat) : Nat := 0x10000 + 0x1000 * n + 0x324
def Reg.STN_APC_CFG (n : Nat) : Nat := 0x10000 + 0x1000 * n + 0x328
def Reg.STN_APC_CFG2 (n : Nat) : Nat := 0x10000 + 0x1000 * n + 0x32C
def Reg.STN_EMIT_FAIL_LO (n : Nat) : Nat := 0x10000 + 0x1000 * n + 0x330
def Reg.STN_EMIT_FAIL_HI (n : Nat) : Nat := 0x10000 + 0x1000 * n + 0x334
def Reg.STN_EMIT_MARK (n : Nat) : Nat := 0x10000 + 0x1000 * n + 0x338
def Reg.STN_EMIT_LAST (n : Nat) : Nat := 0x10000 + 0x1000 * n + 0x33C
def Reg.STN_APC (n i : Nat) : Nat := 0x10000 + 0x1000 * n + 0x400 + 0x4 * i
def Reg.STN_APC_SMP (n i : Nat) : Nat := 0x10000 + 0x1000 * n + 0x500 + 0x4 * i
def Reg.STN_LINK_CFG (n : Nat) : Nat := 0x10000 + 0x1000 * n + 0x600
def Reg.STN_LINK_STAT (n : Nat) : Nat := 0x10000 + 0x1000 * n + 0x604
def Reg.STN_LINK_ERR (n : Nat) : Nat := 0x10000 + 0x1000 * n + 0x608
def Reg.STN_HEAD_ID (n : Nat) : Nat := 0x10000 + 0x1000 * n + 0x60C
def Reg.STN_HEAD_INFO (n : Nat) : Nat := 0x10000 + 0x1000 * n + 0x610
def Reg.STN_HEAD_STAT (n : Nat) : Nat := 0x10000 + 0x1000 * n + 0x614
def Reg.STN_WIN_STAT (n : Nat) : Nat := 0x10000 + 0x1000 * n + 0x618
def Reg.STN_WIN_CNT (n : Nat) : Nat := 0x10000 + 0x1000 * n + 0x61C
def Reg.STN_TRIM_STAT (n : Nat) : Nat := 0x10000 + 0x1000 * n + 0x620
def Reg.STN_FACET_STAT (n i : Nat) : Nat := 0x10000 + 0x1000 * n + 0x640 + 0x4 * i
def Reg.STN_STAT_CLR (n : Nat) : Nat := 0x10000 + 0x1000 * n + 0x67C
def Reg.STN_EMIT_DOTS (n i : Nat) : Nat := 0x10000 + 0x1000 * n + 0x700 + 0x4 * i
def Reg.STN_EMIT_LOST (n i : Nat) : Nat := 0x10000 + 0x1000 * n + 0x800 + 0x4 * i
def Reg.STN_DUTY_SUM (n i : Nat) : Nat := 0x10000 + 0x1000 * n + 0x900 + 0x4 * i
def Reg.STN_APC_HIST (n i : Nat) : Nat := 0x10000 + 0x1000 * n + 0xA00 + 0x4 * i

def Fld.WARM_MAX : FieldRef := ⟨Reg.SYS_MODE_CFG, 0, 10⟩
def Fld.SETTLE_HOLD : FieldRef := ⟨Reg.SYS_MODE_CFG, 10, 10⟩
def Fld.SAFE_STOP_MAX : FieldRef := ⟨Reg.SYS_MODE_CFG, 20, 8⟩
def Fld.MASTER_STN : FieldRef := ⟨Reg.SYS_MASTER_STN, 0, 3⟩
def Fld.KEY_LEASE : FieldRef := ⟨Reg.SYS_KEY_CFG, 0, 14⟩
def Fld.KEY_CLAIM_WINDOW : FieldRef := ⟨Reg.SYS_KEY_CFG, 14, 6⟩
def Fld.RELAY_EN : FieldRef := ⟨Reg.SYS_KEY_CFG, 20, 1⟩
def Fld.TUMBLER_TIMEOUT : FieldRef := ⟨Reg.SYS_TUMBLER_CFG, 0, 16⟩
def Fld.PITCH : FieldRef := ⟨Reg.SHT_PATH_CFG, 0, 20⟩
def Fld.PICK_LEAD : FieldRef := ⟨Reg.SHT_PATH_CFG, 20, 12⟩
def Fld.PREFILL_LINES : FieldRef := ⟨Reg.SHT_GATE_CFG, 0, 10⟩
def Fld.STAGE_LEAD_MIN : FieldRef := ⟨Reg.SHT_GATE_CFG, 10, 8⟩
def Fld.DECOMP_MARGIN : FieldRef := ⟨Reg.SHT_GATE_CFG, 18, 14⟩
def Fld.LINK_RATE : FieldRef := ⟨Reg.SHT_LINK_CFG, 0, 14⟩
def Fld.REG_HOLD_MAX : FieldRef := ⟨Reg.SHT_HOLD_CFG, 0, 12⟩
def Fld.PICK_WAIT_MAX : FieldRef := ⟨Reg.SHT_HOLD_CFG, 12, 12⟩
def Fld.SPEED_ERR_PURGE : FieldRef := ⟨Reg.SHT_OUTCOME_CFG, 0, 8⟩
def Fld.EMIT_LOST_PURGE : FieldRef := ⟨Reg.SHT_OUTCOME_CFG, 8, 8⟩
def Fld.DIVERT_SS : FieldRef := ⟨Reg.SHT_OUTCOME_CFG, 16, 6⟩
def Fld.PURGE_PATH : FieldRef := ⟨Reg.SHT_OUTCOME_CFG, 22, 1⟩
def Fld.CPL_TIMEOUT : FieldRef := ⟨Reg.SYS_DMA_CFG, 0, 10⟩
def Fld.WIN0 : FieldRef := ⟨Reg.SYS_MEM_ALLOC, 0, 4⟩
def Fld.WIN1 : FieldRef := ⟨Reg.SYS_MEM_ALLOC, 4, 4⟩
def Fld.WIN2 : FieldRef := ⟨Reg.SYS_MEM_ALLOC, 8, 4⟩
def Fld.WIN3 : FieldRef := ⟨Reg.SYS_MEM_ALLOC, 12, 4⟩
def Fld.WIN4 : FieldRef := ⟨Reg.SYS_MEM_ALLOC, 16, 4⟩
def Fld.SCRATCH : FieldRef := ⟨Reg.SYS_MEM_ALLOC, 20, 4⟩
def Fld.ENGINE_TIMEOUT : FieldRef := ⟨Reg.SYS_DEC_CFG, 0, 10⟩
def Fld.STRIKES : FieldRef := ⟨Reg.SYS_DEC_CFG, 10, 4⟩
def Fld.STRIKE_WINDOW : FieldRef := ⟨Reg.SYS_DEC_CFG, 14, 10⟩
def Fld.SCRUB_PERIOD : FieldRef := ⟨Reg.SYS_MEM_SCRUB_CFG, 0, 8⟩
def Fld.LOOKAHEAD_EN : FieldRef := ⟨Reg.SYS_MEM_SCRUB_CFG, 8, 1⟩
def Fld.BASE_N : FieldRef := ⟨Reg.SYS_PLAN_CFG, 0, 6⟩
def Fld.SLOW_EN : FieldRef := ⟨Reg.SYS_PLAN_CFG, 6, 1⟩
def Fld.CHOP_OFF : FieldRef := ⟨Reg.SYS_BUS_CFG, 0, 8⟩
def Fld.CHOP_ON : FieldRef := ⟨Reg.SYS_BUS_CFG, 8, 8⟩
def Fld.OV1 : FieldRef := ⟨Reg.SYS_BUS_CFG, 16, 8⟩
def Fld.OV2 : FieldRef := ⟨Reg.SYS_BUS_CFG, 24, 8⟩
def Fld.CHOP_IMIN : FieldRef := ⟨Reg.SYS_BUS_CFG2, 0, 8⟩
def Fld.CHOP_DETECT : FieldRef := ⟨Reg.SYS_BUS_CFG2, 8, 8⟩
def Fld.CHOP_TEST : FieldRef := ⟨Reg.SYS_BUS_CFG2, 16, 1⟩
def Fld.STN_ON : FieldRef := ⟨Reg.SYS_DOMAIN_CTL, 0, 5⟩
def Fld.DOMAIN_REFUSED : FieldRef := ⟨Reg.SYS_DOMAIN_STATE, 16, 1⟩
def Fld.HB_MISS : FieldRef := ⟨Reg.SYS_PAIR_CFG, 0, 4⟩
def Fld.FENCE_WAIT : FieldRef := ⟨Reg.SYS_PAIR_CFG, 4, 8⟩
def Fld.ACK_TIMEOUT : FieldRef := ⟨Reg.SYS_PAIR_CFG, 12, 8⟩
def Fld.SYNC_MAX : FieldRef := ⟨Reg.SYS_PAIR_CFG, 20, 10⟩
def Fld.AUTO_SYNC : FieldRef := ⟨Reg.SYS_PAIR_CFG, 30, 1⟩
def Fld.TH_EXT : FieldRef := ⟨Reg.SYS_PAIR_CFG, 31, 1⟩
def Fld.STORE_MIN : FieldRef := ⟨Reg.SYS_NV_CFG, 0, 12⟩
def Fld.GPIO_OUT : FieldRef := ⟨Reg.SYS_GPIO_OUT, 0, 32⟩
def Fld.GPIO_OE : FieldRef := ⟨Reg.SYS_GPIO_OE, 0, 32⟩
def Fld.FZ_CFG_TH (i : Nat) : FieldRef := ⟨Reg.FZ_CFG i, 0, 4⟩
def Fld.FZ_TH2 (i : Nat) : FieldRef := ⟨Reg.FZ_CFG i, 4, 4⟩
def Fld.FZ_SLOT (i : Nat) : FieldRef := ⟨Reg.FZ_CFG i, 8, 5⟩
def Fld.FZ_SS_IN (i : Nat) : FieldRef := ⟨Reg.FZ_CFG i, 13, 6⟩
def Fld.FZ_SS_OUT (i : Nat) : FieldRef := ⟨Reg.FZ_CFG i, 19, 6⟩
def Fld.FZ_AUTO (i : Nat) : FieldRef := ⟨Reg.FZ_CFG i, 25, 1⟩
def Fld.FZ_BAND (i : Nat) : FieldRef := ⟨Reg.FZ_CFG i, 26, 6⟩
def Fld.FZ_RUN (i : Nat) : FieldRef := ⟨Reg.FZ_SET i, 0, 16⟩
def Fld.FZ_STBY (i : Nat) : FieldRef := ⟨Reg.FZ_SET i, 16, 16⟩
def Fld.FZ_RISE_S (i : Nat) : FieldRef := ⟨Reg.FZ_PROT i, 0, 8⟩
def Fld.FZ_RISE_MIN (i : Nat) : FieldRef := ⟨Reg.FZ_PROT i, 8, 8⟩
def Fld.FZ_KA_KHZ (i : Nat) : FieldRef := ⟨Reg.FZ_PROT i, 16, 8⟩
def Fld.FZ_ZC_DELAY (i : Nat) : FieldRef := ⟨Reg.FZ_PROT i, 24, 8⟩
def Fld.FZ_FAULT (i : Nat) : FieldRef := ⟨Reg.FZ_STAT i, 13, 1⟩
def Fld.TH_CFG_CH (i : Nat) : FieldRef := ⟨Reg.TH_CFG i, 0, 8⟩
def Fld.TH_BETA (i : Nat) : FieldRef := ⟨Reg.TH_CFG i, 8, 16⟩
def Fld.TH_RES25 (i : Nat) : FieldRef := ⟨Reg.TH_CFG i, 24, 8⟩
def Fld.CAL_DT : FieldRef := ⟨Reg.AFE_CAL_CFG, 0, 8⟩
def Fld.CAL_PERIOD : FieldRef := ⟨Reg.AFE_CAL_CFG, 8, 8⟩
def Fld.DRIFT_TOL : FieldRef := ⟨Reg.AFE_CAL_CFG, 16, 8⟩
def Fld.OFS_LIMIT : FieldRef := ⟨Reg.AFE_CAL_CFG, 24, 8⟩
def Fld.GAIN_LIMIT : FieldRef := ⟨Reg.AFE_CAL_CFG2, 0, 8⟩
def Fld.CHECK_TOL : FieldRef := ⟨Reg.AFE_CAL_CFG2, 8, 8⟩
def Fld.HV_ZERO_S : FieldRef := ⟨Reg.AFE_CAL_CFG2, 16, 8⟩
def Fld.AUTOZERO_EN : FieldRef := ⟨Reg.AFE_CAL_CFG2, 24, 1⟩
def Fld.AFE_CH_ADDR_CHANNEL : FieldRef := ⟨Reg.AFE_CH_ADDR, 0, 8⟩
def Fld.AFE_WORD : FieldRef := ⟨Reg.AFE_CH_ADDR, 8, 1⟩
def Fld.AFE_AUTO_INC : FieldRef := ⟨Reg.AFE_CH_ADDR, 9, 1⟩
def Fld.AFE_DATA : FieldRef := ⟨Reg.AFE_CH_DATA, 0, 32⟩
def Fld.AFE_READ_SEL_CHANNEL : FieldRef := ⟨Reg.AFE_READ_SEL, 0, 8⟩
def Fld.QUE_BASE_LO_ADDR_LO (n : Nat) : FieldRef := ⟨Reg.QUE_BASE_LO n, 6, 26⟩
def Fld.QUE_BASE_HI_ADDR_HI (n : Nat) : FieldRef := ⟨Reg.QUE_BASE_HI n, 0, 32⟩
def Fld.QUE_TYPE (n : Nat) : FieldRef := ⟨Reg.QUE_CFG n, 0, 4⟩
def Fld.QUE_SIZE_LOG2 (n : Nat) : FieldRef := ⟨Reg.QUE_CFG n, 4, 4⟩
def Fld.QUE_VECTOR (n : Nat) : FieldRef := ⟨Reg.QUE_CFG n, 8, 5⟩
def Fld.QUE_URGENT (n : Nat) : FieldRef := ⟨Reg.QUE_CFG n, 13, 1⟩
def Fld.QUE_STATION (n : Nat) : FieldRef := ⟨Reg.QUE_CFG n, 14, 3⟩
def Fld.QUE_WB_LO_ADDR_LO (n : Nat) : FieldRef := ⟨Reg.QUE_WB_LO n, 2, 30⟩
def Fld.QUE_WB_HI_ADDR_HI (n : Nat) : FieldRef := ⟨Reg.QUE_WB_HI n, 0, 32⟩
def Fld.QUE_ENABLE (n : Nat) : FieldRef := ⟨Reg.QUE_CTL n, 0, 1⟩
def Fld.QUE_IRQ_EN (n : Nat) : FieldRef := ⟨Reg.QUE_CTL n, 1, 1⟩
def Fld.QUE_COAL_COUNT (n : Nat) : FieldRef := ⟨Reg.QUE_CTL n, 2, 8⟩
def Fld.QUE_COAL_TIME (n : Nat) : FieldRef := ⟨Reg.QUE_CTL n, 10, 10⟩
def Fld.QUE_DOORBELL_ERR (n : Nat) : FieldRef := ⟨Reg.QUE_STAT n, 0, 1⟩
def Fld.QUE_DOORBELL_OFF (n : Nat) : FieldRef := ⟨Reg.QUE_STAT n, 1, 1⟩
def Fld.QUE_FETCH_ERR (n : Nat) : FieldRef := ⟨Reg.QUE_STAT n, 2, 1⟩
def Fld.QUE_WRITE_ERR (n : Nat) : FieldRef := ⟨Reg.QUE_STAT n, 3, 1⟩
def Fld.QUE_FULL_SEEN (n : Nat) : FieldRef := ⟨Reg.QUE_STAT n, 4, 1⟩
def Fld.DMA_WEIGHT (n : Nat) : FieldRef := ⟨Reg.DMA_CFG n, 0, 2⟩
def Fld.DMA_OUTSTANDING (n : Nat) : FieldRef := ⟨Reg.DMA_CFG n, 2, 6⟩
def Fld.DMA_BUS (n : Nat) : FieldRef := ⟨Reg.DMA_ERR n, 0, 1⟩
def Fld.DMA_DESC (n : Nat) : FieldRef := ⟨Reg.DMA_ERR n, 1, 1⟩
def Fld.DMA_POWER (n : Nat) : FieldRef := ⟨Reg.DMA_ERR n, 2, 1⟩
def Fld.HV_MON_CH (n : Nat) : FieldRef := ⟨Reg.HV_CFG n, 0, 8⟩
def Fld.HV_UNIT (n : Nat) : FieldRef := ⟨Reg.HV_CFG n, 8, 1⟩
def Fld.HV_POL (n : Nat) : FieldRef := ⟨Reg.HV_CFG n, 9, 1⟩
def Fld.HV_REG_EN (n : Nat) : FieldRef := ⟨Reg.HV_CFG n, 10, 1⟩
def Fld.HV_AUTO (n : Nat) : FieldRef := ⟨Reg.HV_CFG n, 11, 1⟩
def Fld.HV_SERVE (n : Nat) : FieldRef := ⟨Reg.HV_CFG n, 12, 3⟩
def Fld.HV_FULL (n : Nat) : FieldRef := ⟨Reg.HV_CFG n, 16, 16⟩
def Fld.HV_SET (n : Nat) : FieldRef := ⟨Reg.HV_SET n, 0, 16⟩
def Fld.HV_RAMP (n : Nat) : FieldRef := ⟨Reg.HV_SET n, 16, 16⟩
def Fld.HV_KI (n : Nat) : FieldRef := ⟨Reg.HV_REG n, 0, 8⟩
def Fld.HV_CORR_MAX (n : Nat) : FieldRef := ⟨Reg.HV_REG n, 8, 8⟩
def Fld.HV_TOL (n : Nat) : FieldRef := ⟨Reg.HV_REG n, 16, 8⟩
def Fld.HV_SETTLE (n : Nat) : FieldRef := ⟨Reg.HV_REG n, 24, 8⟩
def Fld.HV_ARC_DEV (n : Nat) : FieldRef := ⟨Reg.HV_ARC n, 0, 8⟩
def Fld.HV_ARC_OFF (n : Nat) : FieldRef := ⟨Reg.HV_ARC n, 8, 8⟩
def Fld.HV_ARC_LIMIT (n : Nat) : FieldRef := ⟨Reg.HV_ARC n, 16, 8⟩
def Fld.HV_FAULT (n : Nat) : FieldRef := ⟨Reg.HV_STAT n, 18, 1⟩
def Fld.LOOP_NX (n : Nat) : FieldRef := ⟨Reg.LOOP_CFG n, 0, 4⟩
def Fld.LOOP_NM (n : Nat) : FieldRef := ⟨Reg.LOOP_CFG n, 4, 3⟩
def Fld.LOOP_NY (n : Nat) : FieldRef := ⟨Reg.LOOP_CFG n, 7, 3⟩
def Fld.LOOP_EN (n : Nat) : FieldRef := ⟨Reg.LOOP_CFG n, 10, 1⟩
def Fld.LOOP_SYNC (n : Nat) : FieldRef := ⟨Reg.LOOP_CFG n, 11, 1⟩
def Fld.LOOP_SYNC_DRV (n : Nat) : FieldRef := ⟨Reg.LOOP_CFG n, 12, 4⟩
def Fld.LOOP_SAMPLE (n : Nat) : FieldRef := ⟨Reg.LOOP_CFG n, 16, 16⟩
def Fld.LOOP_INDEX0 (n : Nat) : FieldRef := ⟨Reg.LOOP_INSEL01 n, 0, 12⟩
def Fld.LOOP_KIND0 (n : Nat) : FieldRef := ⟨Reg.LOOP_INSEL01 n, 12, 4⟩
def Fld.LOOP_INDEX1 (n : Nat) : FieldRef := ⟨Reg.LOOP_INSEL01 n, 16, 12⟩
def Fld.LOOP_KIND1 (n : Nat) : FieldRef := ⟨Reg.LOOP_INSEL01 n, 28, 4⟩
def Fld.LOOP_OUT0 (n : Nat) : FieldRef := ⟨Reg.LOOP_OUTSEL n, 0, 8⟩
def Fld.LOOP_OUT1 (n : Nat) : FieldRef := ⟨Reg.LOOP_OUTSEL n, 8, 8⟩
def Fld.LOOP_OUT2 (n : Nat) : FieldRef := ⟨Reg.LOOP_OUTSEL n, 16, 8⟩
def Fld.LOOP_OUT3 (n : Nat) : FieldRef := ⟨Reg.LOOP_OUTSEL n, 24, 8⟩
def Fld.LOOP_INT_EN (n : Nat) : FieldRef := ⟨Reg.LOOP_INT n, 0, 8⟩
def Fld.LOOP_INT_OUT (n : Nat) : FieldRef := ⟨Reg.LOOP_INT n, 8, 16⟩
def Fld.LOOP_INT_POL (n : Nat) : FieldRef := ⟨Reg.LOOP_INT n, 24, 8⟩
def Fld.LOOP_REF_MODE (n : Nat) : FieldRef := ⟨Reg.LOOP_REF_CFG n, 0, 2⟩
def Fld.LOOP_REF_STN (n : Nat) : FieldRef := ⟨Reg.LOOP_REF_CFG n, 2, 3⟩
def Fld.LOOP_REF_SLOT (n : Nat) : FieldRef := ⟨Reg.LOOP_REF_CFG n, 5, 5⟩
def Fld.LOOP_INDEX (n : Nat) : FieldRef := ⟨Reg.LOOP_COEF_ADDR n, 0, 8⟩
def Fld.LOOP_AUTO_INC (n : Nat) : FieldRef := ⟨Reg.LOOP_COEF_ADDR n, 8, 1⟩
def Fld.LOOP_DATA (n : Nat) : FieldRef := ⟨Reg.LOOP_COEF_DATA n, 0, 32⟩
def Fld.LOOP_OSC_SRC (n : Nat) : FieldRef := ⟨Reg.LOOP_OSC n, 0, 4⟩
def Fld.LOOP_OSC_COUNT (n : Nat) : FieldRef := ⟨Reg.LOOP_OSC n, 4, 6⟩
def Fld.LOOP_OSC_HALT (n : Nat) : FieldRef := ⟨Reg.LOOP_OSC n, 10, 1⟩
def Fld.LOOP_OSC_WIN (n : Nat) : FieldRef := ⟨Reg.LOOP_OSC n, 16, 16⟩
def Fld.LOOP_OSC_AMP (n : Nat) : FieldRef := ⟨Reg.LOOP_OSC_AMP n, 0, 16⟩
def Fld.LOOP_V_MAX (n : Nat) : FieldRef := ⟨Reg.LOOP_PROF_V n, 0, 32⟩
def Fld.LOOP_A (n : Nat) : FieldRef := ⟨Reg.LOOP_PROF_A n, 0, 32⟩
def Fld.LOOP_J (n : Nat) : FieldRef := ⟨Reg.LOOP_PROF_J n, 0, 32⟩
def Fld.LOOP_OSC_SEEN (n : Nat) : FieldRef := ⟨Reg.LOOP_STAT n, 18, 1⟩
def Fld.AXS_EN (n : Nat) : FieldRef := ⟨Reg.AXS_CFG n, 0, 1⟩
def Fld.AXS_MICRO (n : Nat) : FieldRef := ⟨Reg.AXS_CFG n, 1, 4⟩
def Fld.AXS_GROUP (n : Nat) : FieldRef := ⟨Reg.AXS_CFG n, 5, 4⟩
def Fld.AXS_ENC_EN (n : Nat) : FieldRef := ⟨Reg.AXS_CFG n, 9, 1⟩
def Fld.AXS_ENC_SEL (n : Nat) : FieldRef := ⟨Reg.AXS_CFG n, 10, 3⟩
def Fld.AXS_DIR (n : Nat) : FieldRef := ⟨Reg.AXS_CFG n, 13, 1⟩
def Fld.AXS_PERIOD (n : Nat) : FieldRef := ⟨Reg.AXS_CFG n, 14, 13⟩
def Fld.AXS_SCALE (n : Nat) : FieldRef := ⟨Reg.AXS_SCALE n, 0, 32⟩
def Fld.AXS_VMAX (n : Nat) : FieldRef := ⟨Reg.AXS_VMAX n, 0, 32⟩
def Fld.AXS_ACC (n : Nat) : FieldRef := ⟨Reg.AXS_ACC n, 0, 32⟩
def Fld.AXS_JERK (n : Nat) : FieldRef := ⟨Reg.AXS_JERK n, 0, 32⟩
def Fld.AXS_STOP_DEC (n : Nat) : FieldRef := ⟨Reg.AXS_STOP n, 0, 16⟩
def Fld.AXS_STOP_JERK (n : Nat) : FieldRef := ⟨Reg.AXS_STOP n, 16, 16⟩
def Fld.AXS_ESTOP_DEC (n : Nat) : FieldRef := ⟨Reg.AXS_ESTOP n, 0, 16⟩
def Fld.AXS_RS (n : Nat) : FieldRef := ⟨Reg.AXS_COIL n, 0, 16⟩
def Fld.AXS_LS (n : Nat) : FieldRef := ⟨Reg.AXS_COIL n, 16, 16⟩
def Fld.AXS_I_HOLD (n : Nat) : FieldRef := ⟨Reg.AXS_I n, 0, 8⟩
def Fld.AXS_I_RUN_MIN (n : Nat) : FieldRef := ⟨Reg.AXS_I n, 8, 8⟩
def Fld.AXS_I_RUN_MAX (n : Nat) : FieldRef := ⟨Reg.AXS_I n, 16, 8⟩
def Fld.AXS_I_STEP (n : Nat) : FieldRef := ⟨Reg.AXS_I n, 24, 8⟩
def Fld.AXS_LA_LO (n : Nat) : FieldRef := ⟨Reg.AXS_LA n, 0, 8⟩
def Fld.AXS_LA_HI (n : Nat) : FieldRef := ⟨Reg.AXS_LA n, 8, 8⟩
def Fld.AXS_LA_STALL (n : Nat) : FieldRef := ⟨Reg.AXS_LA n, 16, 8⟩
def Fld.AXS_STALL_MS (n : Nat) : FieldRef := ⟨Reg.AXS_LA n, 24, 8⟩
def Fld.AXS_LA_VMIN (n : Nat) : FieldRef := ⟨Reg.AXS_LA2 n, 0, 16⟩
def Fld.AXS_HOLD_DELAY (n : Nat) : FieldRef := ⟨Reg.AXS_LA2 n, 16, 8⟩
def Fld.AXS_STALL_ERR (n : Nat) : FieldRef := ⟨Reg.AXS_LA2 n, 24, 8⟩
def Fld.AXS_SHORT_SEEN (n : Nat) : FieldRef := ⟨Reg.AXS_STAT n, 7, 1⟩
def Fld.AXS_ENC_CPS (n : Nat) : FieldRef := ⟨Reg.AXS_ENC_CPS n, 0, 32⟩
def Fld.SS_ROLE (n : Nat) : FieldRef := ⟨Reg.SS_CFG n, 0, 3⟩
def Fld.SS_POL (n : Nat) : FieldRef := ⟨Reg.SS_CFG n, 3, 1⟩
def Fld.SS_FILT (n : Nat) : FieldRef := ⟨Reg.SS_CFG n, 4, 6⟩
def Fld.SS_NIP (n : Nat) : FieldRef := ⟨Reg.SS_CFG n, 10, 1⟩
def Fld.SS_REF (n : Nat) : FieldRef := ⟨Reg.SS_CFG n, 11, 1⟩
def Fld.SS_TRAIL_MAX (n : Nat) : FieldRef := ⟨Reg.SS_CFG n, 12, 16⟩
def Fld.SS_EXP (n : Nat) : FieldRef := ⟨Reg.SS_WIN n, 0, 16⟩
def Fld.SS_TOL (n : Nat) : FieldRef := ⟨Reg.SS_WIN n, 16, 8⟩
def Fld.SS_JAM (n : Nat) : FieldRef := ⟨Reg.SS_WIN n, 24, 8⟩
def Fld.ENC_FILT (n : Nat) : FieldRef := ⟨Reg.ENC_CFG n, 0, 4⟩
def Fld.ENC_DIR (n : Nat) : FieldRef := ⟨Reg.ENC_CFG n, 4, 1⟩
def Fld.ENC_BACKSLACK (n : Nat) : FieldRef := ⟨Reg.ENC_CFG n, 5, 8⟩
def Fld.ENC_ZPOL (n : Nat) : FieldRef := ⟨Reg.ENC_CFG n, 13, 1⟩
def Fld.GRP_V (n : Nat) : FieldRef := ⟨Reg.GRP_V n, 0, 32⟩
def Fld.GRP_A (n : Nat) : FieldRef := ⟨Reg.GRP_A n, 0, 32⟩
def Fld.GRP_J (n : Nat) : FieldRef := ⟨Reg.GRP_J n, 0, 32⟩
def Fld.PATH_EN (n : Nat) : FieldRef := ⟨Reg.PATH_TRIG n, 0, 1⟩
def Fld.PATH_EVENT (n : Nat) : FieldRef := ⟨Reg.PATH_TRIG n, 1, 2⟩
def Fld.PATH_SENSOR (n : Nat) : FieldRef := ⟨Reg.PATH_TRIG n, 3, 6⟩
def Fld.PATH_UNIT (n : Nat) : FieldRef := ⟨Reg.PATH_TRIG n, 9, 1⟩
def Fld.PATH_ENC (n : Nat) : FieldRef := ⟨Reg.PATH_TRIG n, 10, 3⟩
def Fld.PATH_AXIS (n : Nat) : FieldRef := ⟨Reg.PATH_TRIG n, 13, 5⟩
def Fld.PATH_MODE (n : Nat) : FieldRef := ⟨Reg.PATH_TRIG n, 18, 1⟩
def Fld.PATH_DELAY (n : Nat) : FieldRef := ⟨Reg.PATH_DELAY n, 0, 32⟩
def Fld.PATH_VALUE (n : Nat) : FieldRef := ⟨Reg.PATH_VALUE n, 0, 32⟩
def Fld.DRV_EN (n : Nat) : FieldRef := ⟨Reg.DRV_CFG n, 0, 1⟩
def Fld.DRV_ENC_EN (n : Nat) : FieldRef := ⟨Reg.DRV_CFG n, 1, 1⟩
def Fld.DRV_ENC_SEL (n : Nat) : FieldRef := ⟨Reg.DRV_CFG n, 2, 3⟩
def Fld.DRV_FW_EN (n : Nat) : FieldRef := ⟨Reg.DRV_CFG n, 5, 1⟩
def Fld.DRV_POLES (n : Nat) : FieldRef := ⟨Reg.DRV_CFG n, 6, 4⟩
def Fld.DRV_DIR (n : Nat) : FieldRef := ⟨Reg.DRV_CFG n, 10, 1⟩
def Fld.DRV_RS (n : Nat) : FieldRef := ⟨Reg.DRV_MOTOR0 n, 0, 16⟩
def Fld.DRV_LS (n : Nat) : FieldRef := ⟨Reg.DRV_MOTOR0 n, 16, 16⟩
def Fld.DRV_KE (n : Nat) : FieldRef := ⟨Reg.DRV_MOTOR1 n, 0, 16⟩
def Fld.DRV_MAX_RPM (n : Nat) : FieldRef := ⟨Reg.DRV_MOTOR1 n, 16, 16⟩
def Fld.DRV_PERIOD (n : Nat) : FieldRef := ⟨Reg.DRV_PWM n, 0, 14⟩
def Fld.DRV_DEAD (n : Nat) : FieldRef := ⟨Reg.DRV_PWM n, 14, 8⟩
def Fld.DRV_KP (n : Nat) : FieldRef := ⟨Reg.DRV_CURLOOP n, 0, 16⟩
def Fld.DRV_KI (n : Nat) : FieldRef := ⟨Reg.DRV_CURLOOP n, 16, 16⟩
def Fld.DRV_I_MAX (n : Nat) : FieldRef := ⟨Reg.DRV_I_LIMIT n, 0, 16⟩
def Fld.DRV_I_TRIP (n : Nat) : FieldRef := ⟨Reg.DRV_I_LIMIT n, 16, 16⟩
def Fld.DRV_ID_FW_MAX (n : Nat) : FieldRef := ⟨Reg.DRV_ID_LIMIT n, 0, 16⟩
def Fld.DRV_ID_FB (n : Nat) : FieldRef := ⟨Reg.DRV_ID_LIMIT n, 16, 16⟩
def Fld.DRV_SEL (n : Nat) : FieldRef := ⟨Reg.DRV_CAP_CTL n, 0, 2⟩
def Fld.DRV_DECIM (n : Nat) : FieldRef := ⟨Reg.DRV_CAP_CTL n, 2, 8⟩
def Fld.DRV_ON_TRIP (n : Nat) : FieldRef := ⟨Reg.DRV_CAP_CTL n, 10, 1⟩
def Fld.DRV_CATCH_MIN (n : Nat) : FieldRef := ⟨Reg.DRV_START n, 0, 16⟩
def Fld.DRV_REV_MAX (n : Nat) : FieldRef := ⟨Reg.DRV_START n, 16, 16⟩
def Fld.DRV_ALIGN_MS (n : Nat) : FieldRef := ⟨Reg.DRV_START2 n, 0, 8⟩
def Fld.DRV_ALIGN_I (n : Nat) : FieldRef := ⟨Reg.DRV_START2 n, 8, 8⟩
def Fld.DRV_HANDOVER (n : Nat) : FieldRef := ⟨Reg.DRV_START2 n, 16, 16⟩
def Fld.DRV_OBS_RES (n : Nat) : FieldRef := ⟨Reg.DRV_OBS n, 0, 8⟩
def Fld.DRV_EMF_TOL (n : Nat) : FieldRef := ⟨Reg.DRV_OBS n, 8, 8⟩
def Fld.DRV_OBS_TIME (n : Nat) : FieldRef := ⟨Reg.DRV_OBS n, 16, 8⟩
def Fld.DRV_ACC_PLAUS (n : Nat) : FieldRef := ⟨Reg.DRV_OBS n, 24, 8⟩
def Fld.DRV_ZC_MIN (n : Nat) : FieldRef := ⟨Reg.DRV_ZC n, 0, 16⟩
def Fld.DRV_ENC_TOL (n : Nat) : FieldRef := ⟨Reg.DRV_ZC n, 16, 8⟩
def Fld.DRV_ACC (n : Nat) : FieldRef := ⟨Reg.DRV_RAMP n, 0, 16⟩
def Fld.DRV_JERK (n : Nat) : FieldRef := ⟨Reg.DRV_RAMP n, 16, 16⟩
def Fld.DRV_STOP_DEC (n : Nat) : FieldRef := ⟨Reg.DRV_STOP_RAMP n, 0, 16⟩
def Fld.DRV_STOP_JERK (n : Nat) : FieldRef := ⟨Reg.DRV_STOP_RAMP n, 16, 16⟩
def Fld.DRV_ESTOP_DEC (n : Nat) : FieldRef := ⟨Reg.DRV_ESTOP n, 0, 16⟩
def Fld.DRV_RUN_RPM (n : Nat) : FieldRef := ⟨Reg.DRV_RUN_SPEED n, 0, 16⟩
def Fld.DRV_CODE (n : Nat) : FieldRef := ⟨Reg.DRV_FAULT n, 0, 8⟩
def Fld.STN_FACETS (n : Nat) : FieldRef := ⟨Reg.STN_SCAN_CFG n, 0, 4⟩
def Fld.STN_BD_EDGE (n : Nat) : FieldRef := ⟨Reg.STN_SCAN_CFG n, 4, 1⟩
def Fld.STN_SYNC_EMITTER (n : Nat) : FieldRef := ⟨Reg.STN_SCAN_CFG n, 5, 6⟩
def Fld.STN_SYNC_ALT (n : Nat) : FieldRef := ⟨Reg.STN_SCAN_CFG n, 11, 6⟩
def Fld.STN_START_DOTS (n : Nat) : FieldRef := ⟨Reg.STN_START n, 0, 16⟩
def Fld.STN_START_FINE (n : Nat) : FieldRef := ⟨Reg.STN_START n, 16, 6⟩
def Fld.STN_PERIOD_NOM (n : Nat) : FieldRef := ⟨Reg.STN_PERIOD_NOM n, 0, 20⟩
def Fld.STN_SWEEPS (n : Nat) : FieldRef := ⟨Reg.STN_HINGE_OFS n, 0, 16⟩
def Fld.STN_HINGE_OFS_PHASE (n : Nat) : FieldRef := ⟨Reg.STN_HINGE_OFS n, 16, 10⟩
def Fld.STN_DRUM_ENC (n : Nat) : FieldRef := ⟨Reg.STN_DRUM_CFG n, 0, 3⟩
def Fld.STN_DRUM_DIR (n : Nat) : FieldRef := ⟨Reg.STN_DRUM_CFG n, 3, 1⟩
def Fld.STN_DRUM_CPL (n : Nat) : FieldRef := ⟨Reg.STN_DRUM_CPL n, 0, 32⟩
def Fld.STN_START_ADJ (n i : Nat) : FieldRef := ⟨Reg.STN_FACET n i, 0, 16⟩
def Fld.STN_SIG (n i : Nat) : FieldRef := ⟨Reg.STN_FACET n i, 16, 16⟩
def Fld.STN_BD_WIN (n : Nat) : FieldRef := ⟨Reg.STN_BD_CFG n, 0, 8⟩
def Fld.STN_SYNC_LEAD (n : Nat) : FieldRef := ⟨Reg.STN_BD_CFG n, 8, 10⟩
def Fld.STN_COAST_MAX (n : Nat) : FieldRef := ⟨Reg.STN_BD_CFG n, 18, 4⟩
def Fld.STN_SIG_TOL (n : Nat) : FieldRef := ⟨Reg.STN_BD_CFG n, 22, 4⟩
def Fld.STN_SIG_MARGIN (n : Nat) : FieldRef := ⟨Reg.STN_BD_CFG n, 26, 6⟩
def Fld.STN_LINE_KDOTS (n : Nat) : FieldRef := ⟨Reg.STN_LINE_CFG n, 0, 6⟩
def Fld.STN_SEGMENTS (n : Nat) : FieldRef := ⟨Reg.STN_LINE_CFG n, 6, 6⟩
def Fld.STN_REF_DIV (n : Nat) : FieldRef := ⟨Reg.STN_PLL_CFG n, 0, 5⟩
def Fld.STN_N_FB (n : Nat) : FieldRef := ⟨Reg.STN_PLL_CFG n, 5, 12⟩
def Fld.STN_BAND (n : Nat) : FieldRef := ⟨Reg.STN_PLL_CFG n, 17, 5⟩
def Fld.STN_CP_I (n : Nat) : FieldRef := ⟨Reg.STN_PLL_CFG n, 22, 5⟩
def Fld.STN_PLL_MODE (n : Nat) : FieldRef := ⟨Reg.STN_PLL_CFG n, 27, 1⟩
def Fld.STN_DIV0 (n : Nat) : FieldRef := ⟨Reg.STN_CLK_OUT01 n, 0, 8⟩
def Fld.STN_DELAY0 (n : Nat) : FieldRef := ⟨Reg.STN_CLK_OUT01 n, 8, 7⟩
def Fld.STN_EN0 (n : Nat) : FieldRef := ⟨Reg.STN_CLK_OUT01 n, 15, 1⟩
def Fld.STN_DIV1 (n : Nat) : FieldRef := ⟨Reg.STN_CLK_OUT01 n, 16, 8⟩
def Fld.STN_DELAY1 (n : Nat) : FieldRef := ⟨Reg.STN_CLK_OUT01 n, 24, 7⟩
def Fld.STN_EN1 (n : Nat) : FieldRef := ⟨Reg.STN_CLK_OUT01 n, 31, 1⟩
def Fld.STN_DIV2 (n : Nat) : FieldRef := ⟨Reg.STN_CLK_OUT23 n, 0, 8⟩
def Fld.STN_DELAY2 (n : Nat) : FieldRef := ⟨Reg.STN_CLK_OUT23 n, 8, 7⟩
def Fld.STN_EN2 (n : Nat) : FieldRef := ⟨Reg.STN_CLK_OUT23 n, 15, 1⟩
def Fld.STN_DIV3 (n : Nat) : FieldRef := ⟨Reg.STN_CLK_OUT23 n, 16, 8⟩
def Fld.STN_DELAY3 (n : Nat) : FieldRef := ⟨Reg.STN_CLK_OUT23 n, 24, 7⟩
def Fld.STN_EN3 (n : Nat) : FieldRef := ⟨Reg.STN_CLK_OUT23 n, 31, 1⟩
def Fld.STN_TARGET_KHZ (n : Nat) : FieldRef := ⟨Reg.STN_PIX_TARGET n, 0, 18⟩
def Fld.STN_MAG (n : Nat) : FieldRef := ⟨Reg.STN_PIX_RATE n, 0, 16⟩
def Fld.STN_BAND_MARGIN (n : Nat) : FieldRef := ⟨Reg.STN_PLL_CTL n, 0, 5⟩
def Fld.STN_RELOCK_MAX (n : Nat) : FieldRef := ⟨Reg.STN_PLL_CTL n, 5, 8⟩
def Fld.STN_MAG_CLAMPED (n : Nat) : FieldRef := ⟨Reg.STN_PLL_STAT n, 4, 1⟩
def Fld.STN_BAND_LO (n i : Nat) : FieldRef := ⟨Reg.STN_BAND n i, 0, 12⟩
def Fld.STN_BAND_HI (n i : Nat) : FieldRef := ⟨Reg.STN_BAND n i, 12, 12⟩
def Fld.STN_BAND_VALID (n i : Nat) : FieldRef := ⟨Reg.STN_BAND n i, 31, 1⟩
def Fld.STN_HEAD_OFS (n i : Nat) : FieldRef := ⟨Reg.STN_HEAD_OFS n i, 0, 10⟩
def Fld.STN_FINE_EN (n : Nat) : FieldRef := ⟨Reg.STN_SEG_CTL n, 3, 1⟩
def Fld.STN_SEGMENT (n : Nat) : FieldRef := ⟨Reg.STN_SEG_ADDR n, 0, 5⟩
def Fld.STN_EMITTER (n : Nat) : FieldRef := ⟨Reg.STN_SEG_ADDR n, 5, 6⟩
def Fld.STN_SEG_ADDR_AUTO_INC (n : Nat) : FieldRef := ⟨Reg.STN_SEG_ADDR n, 11, 1⟩
def Fld.STN_SEG_PHASE_PHASE (n : Nat) : FieldRef := ⟨Reg.STN_SEG_PHASE n, 0, 10⟩
def Fld.STN_HOP (n : Nat) : FieldRef := ⟨Reg.STN_SEG_PHASE n, 10, 4⟩
def Fld.STN_LEVEL (n : Nat) : FieldRef := ⟨Reg.STN_DCT_ADDR n, 0, 4⟩
def Fld.STN_COLUMN (n : Nat) : FieldRef := ⟨Reg.STN_DCT_ADDR n, 4, 6⟩
def Fld.STN_DCT_ADDR_AUTO_INC (n : Nat) : FieldRef := ⟨Reg.STN_DCT_ADDR n, 10, 1⟩
def Fld.STN_CODE (n : Nat) : FieldRef := ⟨Reg.STN_DCT_DATA n, 0, 6⟩
def Fld.STN_PRIME_GAP (n : Nat) : FieldRef := ⟨Reg.STN_PRIME_CFG n, 0, 6⟩
def Fld.STN_PRIME_W (n : Nat) : FieldRef := ⟨Reg.STN_PRIME_CFG n, 6, 4⟩
def Fld.STN_PRIME_CODE (n : Nat) : FieldRef := ⟨Reg.STN_PRIME_CFG n, 10, 6⟩
def Fld.STN_PRIME_CEIL (n : Nat) : FieldRef := ⟨Reg.STN_PRIME_CFG n, 16, 6⟩
def Fld.STN_EMIT_DUTY_MAX (n : Nat) : FieldRef := ⟨Reg.STN_DUTY_CFG n, 0, 8⟩
def Fld.STN_HEAD_DUTY_MAX (n : Nat) : FieldRef := ⟨Reg.STN_DUTY_CFG n, 8, 8⟩
def Fld.STN_DUTY_CLAMP (n : Nat) : FieldRef := ⟨Reg.STN_DUTY_CFG n, 16, 6⟩
def Fld.STN_DUTY_EN (n : Nat) : FieldRef := ⟨Reg.STN_DUTY_CFG n, 22, 1⟩
def Fld.STN_APC_EN (n : Nat) : FieldRef := ⟨Reg.STN_APC_CFG n, 0, 1⟩
def Fld.STN_APC_CODE (n : Nat) : FieldRef := ⟨Reg.STN_APC_CFG n, 1, 6⟩
def Fld.STN_APC_DOTS (n : Nat) : FieldRef := ⟨Reg.STN_APC_CFG n, 7, 10⟩
def Fld.STN_APC_DELAY (n : Nat) : FieldRef := ⟨Reg.STN_APC_CFG n, 17, 10⟩
def Fld.STN_APC_GAIN (n : Nat) : FieldRef := ⟨Reg.STN_APC_CFG2 n, 0, 8⟩
def Fld.STN_APC_STEP (n : Nat) : FieldRef := ⟨Reg.STN_APC_CFG2 n, 8, 8⟩
def Fld.STN_APC_FAIL (n : Nat) : FieldRef := ⟨Reg.STN_APC_CFG2 n, 16, 8⟩
def Fld.STN_EMIT_FAIL_LO_FAILED (n : Nat) : FieldRef := ⟨Reg.STN_EMIT_FAIL_LO n, 0, 32⟩
def Fld.STN_EMIT_FAIL_HI_FAILED (n : Nat) : FieldRef := ⟨Reg.STN_EMIT_FAIL_HI n, 0, 2⟩
def Fld.STN_DAC (n i : Nat) : FieldRef := ⟨Reg.STN_APC n i, 0, 12⟩
def Fld.STN_TARGET (n i : Nat) : FieldRef := ⟨Reg.STN_APC n i, 12, 12⟩
def Fld.STN_SWING (n : Nat) : FieldRef := ⟨Reg.STN_LINK_CFG n, 0, 4⟩
def Fld.STN_PRE (n : Nat) : FieldRef := ⟨Reg.STN_LINK_CFG n, 4, 4⟩
def Fld.STN_TX_INV (n : Nat) : FieldRef := ⟨Reg.STN_LINK_CFG n, 8, 4⟩
def Fld.STN_RX_INV (n : Nat) : FieldRef := ⟨Reg.STN_LINK_CFG n, 12, 1⟩
def Fld.STN_RET_TIMEOUT (n : Nat) : FieldRef := ⟨Reg.STN_LINK_CFG n, 13, 8⟩

end Sys2Proof
end

