-- ==== Sys2Proof/Machine/State.lean ====
section
/-! DEFINITION. The state of the LMF-5032-A1 as plain data, the reasons a step can stop, and the state after reset.
Registers that software writes (immediate fields and the shadows of tumbler groups) stand in `regs`, the live words of
the tumbler groups in `live`, both keyed by BAR0 address and both listing only words that differ from their reset
value (24 R478, R480). Everything else the manual gives the machine has its own field. -/

namespace Sys2Proof.Machine

/-- The model raises no fault: every condition the manual names is a status, an event, a halt cause or a cause bit.
Kept closed and empty. -/
inductive Fault where
  deriving DecidableEq, Repr

/-- The reasons a command is refused. -/
inductive Refusal where
  /-- Raised by no meaning; only an arm of exec whose command has no meaning yet would carry it. Safe: the machine stops. -/
  | notModelled (mnemonic : String)
  deriving DecidableEq, Repr

/-- The six modes (00 R5, 05 R102). -/
inductive Mode where
  | dormant | standby | warming | ready | printing | service
  deriving DecidableEq, Repr, Inhabited

/-- The roles of a paired chip (00 R6, 20 R403). -/
inductive Role where
  | unpaired | lead | shadow
  deriving DecidableEq, Repr, Inhabited

/-- A command that has been accepted and is not yet completed (03 R70). `notes` keeps what its rule must remember:
items finished, the mask still waited for, the place a result goes. -/
structure Cmd where
  op    : Nat
  p     : Packet
  seq   : Nat
  notes : List Nat
  ours  : Bool              -- false on a SHADOW for a command of the LEAD's (20 R405)
  taken : Bool              -- this chip has become LEAD since the packet was accepted (03 R69)
  deriving DecidableEq, Repr, Inhabited

/-- A completion (03 R69), with the queue and master it is meant for. -/
structure Completion where
  tag    : Nat
  status : Nat
  op     : Nat
  sq     : Nat
  flags  : Nat
  result : Nat
  sqHead : Nat
  arbSeq : Nat
  cq     : Nat
  master : Nat
  deriving DecidableEq, Repr, Inhabited

/-- An event (03 R75). -/
structure Event where
  code     : Nat
  severity : Nat
  inst     : Nat
  seq      : Nat
  time     : Nat
  epoch    : Half
  slot     : Nat
  data     : List Byte
  deriving DecidableEq, Repr, Inhabited

/-- A completion record of a sheet (02 R49). -/
structure Record where
  state    : Nat
  slot     : Nat
  location : Nat
  sheetId  : Nat
  jobId    : Nat
  seq      : Nat
  tPick    : Nat
  tHinge   : Nat
  tClose   : Nat
  flags    : Nat
  gap      : Nat
  retries  : Nat
  lost     : Nat
  speedErr : Int
  stations : Nat
  epoch    : Half
  deriving DecidableEq, Repr, Inhabited

/-- A data request (08 R173). -/
structure DataRequest where
  kind    : Nat
  station : Nat
  slot    : Nat
  sheetId : Nat
  band    : Nat
  first   : Nat
  length  : Nat
  ofs     : Nat
  seq     : Nat
  status  : Nat
  deriving DecidableEq, Repr, Inhabited

/-- An audit entry (22 R453). -/
structure AuditEntry where
  kind     : Nat
  master   : Nat
  inst     : Nat
  seq      : Nat
  time     : Nat
  oldEpoch : Half
  newEpoch : Half
  slot     : Nat
  status   : Nat
  old      : List Byte
  new      : List Byte
  bootNo   : Nat
  deriving DecidableEq, Repr, Inhabited

/-- What the device writes into a ring in host memory (03 R55). -/
inductive Entry where
  | completion (c : Completion)
  | event (e : Event)
  | record (r : Record)
  | request (d : DataRequest)
  | audit (a : AuditEntry)
  deriving DecidableEq, Repr

/-- A message on the mirror link that this chip sends (20 R408). -/
inductive MirrorOut where
  | heartbeat (b : Beat)
  | posting (e : Entry)
  | posted (queue index : Nat)
  | arb (seq op : Nat) (p : Packet) (verdict : Nat)
  | journal (c : JournalChange)
  | config (c : ConfigChange)
  | digest (sweeps : List Nat)
  | snapshot (header original : List Byte)
  | relayPacket (p : Packet) (op : Nat)
  | relayCompletion (c : Completion)
  | loopin (slot : Nat) (inputs : List Int) (r1 r2 : Int)
  | ack (msg : Nat)
  deriving DecidableEq, Repr

/-- What a station sends on its beam link (13 R267, R275). Codes are listed by lane; what is not listed is 0. -/
inductive BeamPart where
  | training                                   -- T1 begins
  | trainDone
  | sof (sync : Bool) (sweep : Nat)
  | header (bytes : List Byte)
  | slots (segment first count : Nat) (codes : List (Nat × List Nat))
  | segEnd (segment sweep : Nat) (codes : List (Nat × List Nat))
  | time (start sweep : Nat) (coast : Bool) (dotUi : Nat)
  | program (sweep : Nat) (bytes : List Byte)
  | syncOff (sweep : Nat)
  deriving DecidableEq, Repr

/-- What leaves the device, in order. A part of a beam link's stream stands with the tick at which it leaves. A `hostBlock` is a valid Sahhex block with the 32 bytes `header` that decodes to `original`:
with RAW set its payload is the original (07 R142), else the tokens the device's compressor chooses are not specified (07
R158). -/
inductive Output where
  | post (queue index addr : Nat) (e : Entry)
  | writeBack (queue addr value : Nat)
  | msix (vector : Nat)
  | hostWrite (addr : Nat) (bytes : List Byte)
  | hostBlock (addr : Nat) (header original : List Byte)
  | poisoned (addr length : Nat)
  | flushRead
  | mgmt (frame : List Byte)
  | beam (station tick : Nat) (part : BeamPart)
  | keepAlive (zone start stop khz : Nat)
  | mirror (m : MirrorOut)
  deriving DecidableEq, Repr

/-- A hardware queue beside its ring group, whose words stand in `regs` and `live` (03 R56). -/
structure Queue where
  head     : Nat
  tail     : Nat
  stat     : Nat
  irqCount : Nat
  oldest   : Option Nat
  doorbell : Bool        -- after a takeover: the host has rung this queue again (20 R422)
  deriving DecidableEq, Repr, Inhabited

/-- What the device holds because a ring is full, disabled or not there (03 R62, R497). `cancels` are the SHEET_CANCEL commands
whose sheet has closed, with RECORD_SEQ of its record and their RESULT: they complete once that record is posted (02 R36). -/
structure Holding where
  completions   : List Completion
  events        : List Event
  eventsDropped : Nat
  records       : List Record
  requests      : List DataRequest
  audits        : List AuditEntry
  auditsDropped : Nat
  cancels       : List (Nat × Nat × Cmd)
  deriving DecidableEq, Repr, Inhabited

/-- The management port (03 R81-R83). -/
structure MgmtPort where
  items      : List Entry
  last       : Option Entry
  syncErrors : Nat
  deriving DecidableEq, Repr, Inhabited

/-- A claim waiting in a claim window (04 R91). -/
structure Claim where
  master : Nat
  prio   : Nat
  cmd    : Cmd
  deriving DecidableEq, Repr, Inhabited

/-- The key (04 R90-R95). `holder` is 3 for none. `epochs` are the former epochs, each with the time at which it ended: an event's
KEY_EPOCH is that of its TIME (03 R75). -/
structure Key where
  holder     : Nat
  lapsed     : Bool
  renewed    : Nat
  epoch      : Half
  windowOpen : Bool
  windowEnds : Nat
  claims     : List Claim
  service    : Bool
  epochs     : List (Nat × Half)
  deriving DecidableEq, Repr, Inhabited

/-- The arbiter cycle (04 R86): the tick of the last one, the masters it has taken a packet from, and the queues last served among
the URGENT and among the other SUBMISSION queues (03 R63). -/
structure Arbiter where
  tick       : Nat
  taken      : List Nat
  lastUrgent : Nat
  lastOther  : Nat
  deriving DecidableEq, Repr, Inhabited

/-- The service credential exchange (22 R451, R452). -/
structure Credential where
  words    : List Byte       -- SYS_SVC_CHAL0-9, 40 bytes
  live     : Bool
  master   : Nat
  epoch    : Half
  drawn    : Nat
  nextPart : Nat
  answer   : List Byte
  failures : List Nat
  lockout  : Option Nat
  deriving DecidableEq, Repr, Inhabited

/-- Which stop is running (05 R106, R107). -/
inductive Stopping where
  | none | orderly | safe | bridgesOff
  deriving DecidableEq, Repr, Inhabited

/-- Modes, halts and WARMING (05 R102-R116). -/
structure Modes where
  mode      : Mode
  memReady  : Bool
  draining  : Bool
  stopping  : Stopping
  stopStart : Nat
  haltMask  : Half
  haltFirst : Nat
  warmDone  : List WarmStep
  warmStart : Nat
  allHeld   : Option Nat
  waking    : Bool
  initBusy  : Bool
  overlays  : Bool
  deriving DecidableEq, Repr, Inhabited

/-- Per-function resets (05 R117). -/
structure Resets where
  busy    : Nat
  started : List Nat         -- when each function's reset began
  rearm   : List (Nat × Nat) -- slots to be closed again after a LOOPS reset, with its time
  deriving DecidableEq, Repr, Inhabited

/-- Boot (05 R111-R114). -/
structure Boot where
  phase       : Nat
  patchValid  : Bool
  patchRegion : Nat
  profile     : Nat
  patchVer    : Nat
  strap       : Bool
  present     : Bool
  released    : Nat
  deriving DecidableEq, Repr, Inhabited

/-- Where one band of a sheet stands (08 R172-R176). -/
inductive BandState where
  | waiting | requested | staged | decoding | decoded | shed
  deriving DecidableEq, Repr, Inhabited

/-- One band of a sheet's index (07 R149, R150), with its place in the feed. -/
structure Band where
  station  : Nat
  band     : Nat
  first    : Nat
  lines    : Nat
  comp     : Nat
  last     : Bool
  raw      : Bool
  state    : BandState
  ofs      : Nat
  reqSeq   : Nat
  again    : Option Nat
  verdicts : List (Nat × Nat)
  block    : List Byte
  deriving DecidableEq, Repr, Inhabited

/-- What one sheet sensor has seen of one sheet, with the words latched at the pick (16 R350). -/
structure Track where
  sensor : Nat
  cfg    : Word
  win    : Word
  lead   : Option Nat
  trail  : Option Nat
  deriving DecidableEq, Repr, Inhabited

/-- One path step of a sheet, latched at the pick, and its event's time and axis position (16 R354). -/
structure StepTrack where
  step  : Nat
  trig  : Word
  delay : Word
  value : Word
  event : Option (Nat × Int)
  encAt : Int
  fired : Bool
  deriving DecidableEq, Repr, Inhabited

/-- An interlace plan (11 R225). -/
structure Plan where
  forEmitter : Nat
  n          : Nat
  passes     : Nat
  cycle      : Nat
  lanes      : List Nat
  phases     : List Nat
  tiles      : List Word
  ofsCrc     : Nat
  planId     : Nat
  image      : List Byte
  deriving DecidableEq, Repr, Inhabited

/-- Where a sheet's image stands on one of its stations: its first sweep, the station's sweep count there, the sheet sweep `k`
in progress, whether its
last line is written, the line error at its first and last sweep (09 R202, 11 R222), the plans it has left with the sweep
at which each was left (11 R234), the image lines it has lost (12 R261), whether it has underrun, and whether a station reset
has ended its writing (05 R117). -/
structure Imaging where
  station  : Nat
  started  : Bool
  firstK   : Int
  sweep0   : Nat
  k        : Int
  finished : Bool
  eFirst   : Int
  eLast    : Int
  past     : List (Plan × Int)
  lost     : List Int
  underrun : Bool
  cut      : Bool
  deriving DecidableEq, Repr, Inhabited

/-- The states of an occupied slot (02 R32). -/
inductive SheetState where
  | accepted | picked | registered | imaging | finishing | closing
  deriving DecidableEq, Repr, Inhabited

/-- A sheet in a slot (02 R28-R49). `cfg` holds SHT_PATH_CFG, SHT_GATE_CFG, SHT_HOLD_CFG and SHT_OUTCOME_CFG as latched
at the pick; `causes` the cause bits with their stamps (02 R45); `proj` the projected Hinge (02 R30); `gap` the time lost
at gates, in ticks; `gateFail` the tick of its first failed Hinge gate. -/
structure Sheet where
  state      : SheetState
  id         : Nat
  job        : Nat
  stations   : Nat
  indexAddr  : Nat
  order      : Nat
  bands      : List Band
  causes     : List (Nat × Nat)
  linesLost  : Nat
  retries    : Nat
  gap        : Nat
  tPick      : Nat
  tHinge     : Nat
  tClose     : Nat
  location   : Nat
  cancel     : Bool
  jammed     : Bool
  everPicked : Bool
  pastHinge  : Bool
  shed       : Bool
  schedHinge : Nat
  proj       : Nat
  gateFail   : Option Nat
  registered : Nat
  diverted   : Option Bool
  cfg        : List Word
  tracks     : List Track
  steps      : List StepTrack
  imaging    : List Imaging
  finalState : Nat
  deriving DecidableEq, Repr, Inhabited

/-- The sheet plane beside the slots (02 R30, R39-R41). `blank` is the sheet held at registration by R41. -/
structure SheetPlane where
  slots      : List (Option Sheet)
  nextOrder  : Nat
  lastHinge  : Option Nat
  starved    : Option Nat
  starvedUp  : Bool
  blank      : Option Sheet
  blankRun   : Bool
  hingeReady : Option Nat
  hingeMsg   : Option Nat          -- the mirror message of that gate's decision, and the slot and message of a pick gate's (20 R410)
  pickWait   : Option (Nat × Nat)
  recordSeq  : Nat
  deriving DecidableEq, Repr, Inhabited

/-- A descriptor being moved (06 R121). -/
structure Desc where
  hostAddr : Nat
  ofs      : Nat
  length   : Nat
  next     : Nat
  flags    : Nat
  id       : Nat
  stale    : Bool
  target   : Option (Nat × Nat)    -- the slot and band that a STAGING descriptor answers
  req      : Nat                   -- REQ_SEQ of the request it answers
  line     : List Byte             -- its first line, whose header was checked
  staged   : Bool                  -- its last line is committed
  deriving DecidableEq, Repr, Inhabited

/-- A descriptor list on a channel (06 R119). -/
structure DmaList where
  cmd   : Cmd
  next  : Nat
  count : Nat
  seen  : Nat
  good  : Nat
  deriving DecidableEq, Repr, Inhabited

/-- A band whose descriptor has finished while its last line is not yet committed (06 R127, R129): slot, index, REQ_SEQ, and its
first line. -/
structure Landing where
  slot : Nat
  idx  : Nat
  req  : Nat
  line : List Byte
  deriving DecidableEq, Repr, Inhabited

/-- A DMA channel (06 R138). -/
structure Channel where
  lists   : List DmaList
  landing : List Landing
  cur     : Option Desc
  curAddr : Nat
  done    : Nat
  bytes   : Nat
  err     : Nat
  last    : Nat
  deriving DecidableEq, Repr, Inhabited

/-- The DMA engine and the scratch region (06 R125, R131-R138). `scratch` holds the bytes that are not zero,
`written` the lines whose bit is set, both rising. -/
structure Dma where
  channels   : List Channel
  stopped    : Bool
  draining   : Bool
  unexpected : Nat
  busErrors  : Nat
  scratch    : List Host.Cell
  written    : List Nat
  deriving DecidableEq, Repr, Inhabited

/-- A decompression engine (08 R166-R168). `cfg` is SYS_DEC_CFG as it stood at its last dispatch (08 R179). -/
structure Engine where
  active  : Bool
  job     : Option (Nat × Nat)     -- slot and band index within the sheet
  since   : Nat
  redo    : Bool                   -- a re-decode for the lookahead (18 R381)
  due     : Int                    -- the deadline of its block
  cfg     : Word
  strikes : List Nat
  deriving DecidableEq, Repr, Inhabited

/-- A reservation in the staging ring, in the order taken (08 R172). -/
structure Reservation where
  slot     : Nat
  idx      : Nat
  sheetId  : Nat
  ofs      : Nat
  length   : Nat
  skipped  : Nat
  released : Bool
  deriving DecidableEq, Repr, Inhabited

/-- The feed (08 R162-R179, 07 R161). `redo` are the blocks to be decoded again for their window lines, with their deadlines
(18 R381). -/
structure Feed where
  engines      : List Engine
  redo         : List (Nat × Nat × Int)
  ring         : List Reservation
  ringHead     : Nat
  reqSeq       : Nat
  stale        : Nat
  redispatched : Nat
  hdrRejects   : Nat
  condemned    : Nat
  verifyRaw    : Nat
  winMiB       : List Nat
  scratchMiB   : Nat
  shedLoad     : Bool
  deriving DecidableEq, Repr, Inhabited

/-- A decoded line in a station's window ring (08 R164, R165); `ready` once a retrace has begun after its verdict. -/
structure WinLine where
  sheetId : Nat
  line    : Nat
  bytes   : List Byte
  bad     : Bool
  ready   : Bool
  deriving DecidableEq, Repr, Inhabited

/-- The tracking states of a station (09 R192). -/
inductive Tracking where
  | off | acquire | track | coast | slew | check | mismatch | lost
  deriving DecidableEq, Repr, Inhabited

/-- Beam detect, sweeps and the line error (09). Times of edges are in fine steps of the station's own count. -/
structure Scan where
  state      : Tracking
  facet      : Nat
  coasted    : Nat
  slew       : Int
  period     : Int
  lastEdge   : Nat
  runStart   : Nat
  runFacet   : Nat
  run        : List Int
  checkHits  : List (Nat × Nat)     -- sheets imaged in the CHECK sweeps, with the stamps (09 R197)
  window     : Bool
  sweeps     : Nat
  linesSince : Nat
  baseCnt    : Int
  drumCnt    : Int
  err        : Int
  overArmed  : Bool
  underArmed : Bool
  phaseErr   : Int
  missing    : Nat
  spurious   : Nat
  sigMeas    : List Int
  facetMiss  : List Nat
  facetErr   : List Int
  edgeTick   : Nat
  prevTick   : Nat
  lineTick   : Nat
  anchored   : Bool                 -- the last edge used was an accepted one
  known      : Bool                 -- in MISMATCH: the identity is found
  based      : Bool                 -- BASE_CNT has been set (09 R200)
  toBase     : Bool                 -- it is to be set at the next edge with the drum loop closed
  windowAt   : Nat                  -- when the sync window opened
  lastSeen   : Option Nat           -- the place of the last edge taken, in the sync window or outside (09 R182)
  trackRun   : Nat                  -- periods at the end of `run` that were measured in TRACK
  deriving DecidableEq, Repr, Inhabited

/-- A station PLL (10 R208-R220). `base` and `magLive` are the two parts of the ramp in use, `trying` says that the present lock sequence
is attempted. Of the phase interpolator: `pi` its position, `ramp` the 30-bit phase, `turned` the ramp moves asked for, `backlog` the
net of requests that wait, the alignment to `alignTo` (a place in the dot, of 64) due in `alignIn` dot periods (0 for none), and
`turnDots` the dot periods counted since `turnTick`. -/
structure Pll where
  enabled    : Bool
  locked     : Bool
  relocking  : Bool
  survey     : Bool
  clamped    : Bool
  bandLive   : Nat
  pi         : Nat
  unlocks    : Nat
  vctl       : Nat
  started    : Nat
  base       : Int
  magLive    : Int
  ramp       : Int
  turned     : Int
  backlog    : Int
  alignIn    : Nat
  alignTo    : Nat
  turnTick   : Nat
  turnDots   : Nat
  trying     : Bool
  halted     : Bool
  deriving DecidableEq, Repr, Inhabited

/-- A plan slot (11 R229, 18 R377). -/
structure PlanSlot where
  plan     : Option Plan
  valid    : Bool
  resident : Bool
  deriving DecidableEq, Repr, Inhabited

/-- A copy of an alternate in the plan working buffer (11 R233). `later` while it goes on in the next retrace. -/
structure PlanCopy where
  emitter : Nat
  later   : Bool
  slot    : PlanSlot
  deriving DecidableEq, Repr, Inhabited

/-- The plans of a station and its failover (11 R229-R238). -/
structure Plans where
  slots       : List PlanSlot
  source      : Nat
  switchWait  : Bool
  copying     : Option PlanCopy
  diagReason  : Nat
  diagSlot    : Nat
  diagDetail  : Nat
  failovers   : Nat
  blankSweeps : Nat
  deriving DecidableEq, Repr, Inhabited

/-- A mark that waits for an end of active scan (12 R260). -/
structure Mark where
  emitter : Nat
  kind    : Nat
  first   : Nat
  deriving DecidableEq, Repr, Inhabited

/-- One emitter of a station: APC, failure, statistics and its duty windows (12 R254-R263, 24 R486). -/
structure Emitter where
  sample   : Nat
  smpSweep : Nat
  fresh    : Bool
  lastPass : Nat
  hist     : List Nat
  failed   : Bool
  gone     : Bool                 -- blanked: the mark has taken effect
  firstBad : Nat
  dots     : Nat
  lost     : Nat
  windows  : List Nat
  weight   : Nat
  dutySum  : Nat
  clamp    : Bool
  deriving DecidableEq, Repr, Inhabited

/-- The dot pipeline of a station (12). Segment banks, drive-code tables and the trim bank are canonical lists whose
unlisted entries are 0. `sending` holds the codes of the line in progress before the duty guard, by emitter, and `sentTo` how
many of its slots are sent. -/
structure Pipe where
  segLive    : List (Nat × Nat)
  segShadow  : List (Nat × Nat)
  swapWait   : Bool
  bank       : Nat
  dctLive    : List (Nat × Nat)
  dctShadow  : List (Nat × Nat)
  trim       : List Host.Cell
  trimLoaded : List Bool
  trimBad    : List Nat            -- words whose parity fails (18 R383)
  trimStuck  : List Nat
  reloads    : List (Nat × Nat)    -- word, time of each reload (18 R385)
  parityErrs : Nat
  reloadCnt  : Nat
  emitters   : List Emitter
  marks      : List Mark
  headWins   : List Nat
  headWeight : Nat
  headClamp  : Bool
  headDuty   : Nat
  clamps     : Nat
  clampSweep : Nat
  clampAt    : Nat                -- the sweep last counted in `clampSweep`
  dutyCfg    : Nat                -- STNn_DUTY_CFG as in force in the sub-window of the emitters, and in that of the head (12 R263)
  dutyHead   : Nat
  lastEmit   : Nat
  lastKind   : Nat
  repeats    : Nat
  lastFirst  : Nat
  calMask    : Nat
  calSamples : List (Nat × Nat)
  apcPair    : Nat
  sending    : List (Nat × List Nat)
  sentTo     : Nat
  sent       : List (Nat × List Nat)   -- the codes sent of the line in progress, by emitter
  deriving DecidableEq, Repr, Inhabited

/-- The states and training steps of a beam link (13 R275, R284). -/
inductive LinkState where
  | down | t0 | t1 | t2 | wait | up | loopback
  deriving DecidableEq, Repr, Inhabited

/-- What a past sweep sent: its count, the segments that carried a code above 0, the lowest nominal line and the sheet
imaged, with the line-start stamp (13 R279). -/
structure SentSweep where
  sweep    : Nat
  segments : Nat
  low      : Int
  sheetId  : Option Nat
  time     : Nat
  deriving DecidableEq, Repr, Inhabited

/-- The sweep frame that a station sends (13 R267, R270): SYNC or LINE, when its SOF and its TIME block leave, R in UI of the time base,
and whether its line has started. -/
structure Frame where
  sync   : Bool
  sofAt  : Nat
  timeAt : Nat
  r      : Nat
  lined  : Bool
  deriving DecidableEq, Repr, Inhabited

/-- The beam link of a station (13). `txCfg` holds SWING, PRE and the polarity bits as in force since T0 (13 R284). -/
structure Link where
  state      : LinkState
  retLocked  : Bool
  helloSeen  : Bool
  laserEn    : Bool
  trainings  : Nat
  segErrors  : Nat
  retErrors  : Nat
  vendor     : Nat
  model      : Nat
  fw         : Nat
  emitters   : Nat
  caps       : Nat
  temp       : Int
  flags      : Nat
  headFaults : Nat
  sent       : List SentSweep
  loopEnds   : Nat
  since      : Nat               -- when the present training step began
  txCfg      : Nat
  blocksAt   : Nat               -- when the blocks of this training began
  upAt       : Nat               -- when the link came UP
  lastMsg    : Nat               -- the last good message
  frame      : Option Frame
  deriving DecidableEq, Repr, Inhabited

/-- A station (09-13, 21 R435-R438). -/
structure Station where
  powered  : Bool
  pending  : Option Nat
  scan     : Scan
  pll      : Pll
  plans    : Plans
  pipe     : Pipe
  link     : Link
  window   : List WinLine
  underrun : Nat
  nextRead : Int
  inReset  : Bool
  surveyTj : Int
  deriving DecidableEq, Repr, Inhabited

/-- The run of the whole engine (11 R231, R236, R238). `slowStep` is 0 when no speed-changing failover runs; `baseN` is
BASE_N as read at entry to WARMING. -/
structure Run where
  baseN       : Nat
  runN        : Nat
  slowStep    : Nat
  slowStation : Nat
  slowEmitter : Nat
  slowN       : Nat
  deriving DecidableEq, Repr, Inhabited

/-- The states of a drive (14 R312). -/
inductive DriveState where
  | off | listen | start | run | fallback | fluxBrake | tripped
  deriving DecidableEq, Repr, Inhabited

/-- A move of a drive or of a loop slot, with the limits it latched (14 R303, 15 R327). -/
structure SpeedMove where
  target : Int
  vmax   : Int
  acc    : Int
  jerk   : Int
  stop   : Bool
  estop  : Bool
  deriving DecidableEq, Repr, Inhabited

/-- Capture and statistics of a drive (24 R486). -/
structure DriveStats where
  angle    : Nat
  encAngle : Nat
  emf      : Nat
  expected : Nat
  vd       : Int
  vq       : Int
  encSpeed : Int
  resid    : Nat
  failing  : Nat
  normal   : Nat
  caught   : Nat
  trips    : List Nat
  fbTime   : Nat
  fwTime   : Nat
  peak     : Nat
  snapVbus : Nat
  snapCode : Nat
  snapRpm  : Int
  cap      : List (Int × Int)
  capNext  : Nat
  capDone  : Bool
  capRun   : Bool
  capLeft  : Option Nat
  capSkip  : Nat
  deriving DecidableEq, Repr, Inhabited

/-- A three-phase drive (14). `idCmd` and `iqCmd` are the demands its current loops get (14 R287, R296, R306). -/
structure Drive where
  state     : DriveState
  pending   : Bool
  fwActive  : Bool
  distrust  : Bool
  catchKind : Nat
  bridge    : Bool
  speed     : Int
  id        : Int
  iq        : Int
  iqDemand  : Int
  idCmd     : Int
  iqCmd     : Int
  vd        : Int               -- the voltages of the current loops in mV, their integrators in 10⁻⁷ mV (14 R286)
  vq        : Int
  sumD      : Int
  sumQ      : Int
  duties    : List Nat          -- the phases' on-times in force, in 10 ns, and those from the next period on
  nextDuty  : List Nat
  cut       : Int
  code      : Nat
  fallbacks : Nat
  target    : Int
  revAction : Nat
  attempts  : Nat
  aligning  : Bool
  waiting   : Bool
  plausible : Nat
  agree     : Nat
  missed    : Nat
  failTicks : List Nat
  encAgree  : Nat
  lowPhase  : Nat
  restSince : Option Nat
  move      : Option SpeedMove
  stats     : DriveStats
  zcTimes   : List Nat
  since     : Nat                -- when the listen, the alignment or the frequency stepping began (14 R298, R301)
  sixStep   : Nat                -- the six-step commutation's step, and when it advances next (14 R293)
  stepAt    : Option Nat
  tracedMs  : Nat                -- the last millisecond traced (03 R78)
  offAt     : Nat                -- when the bridge last went off (19 R398)
  deriving DecidableEq, Repr, Inhabited

/-- VBUS and the brake chopper (14 R308-R312). `gateAt` and `gateV` are the time and the VBUS of the gate's last change, `copyOn` and
`copyOff` the companion die's copy of CHOP_ON and CHOP_OFF from the loss of the telemetry link on, in 25 mV. -/
structure Bus where
  vbus     : Nat
  gate     : Bool
  gateAt   : Nat
  gateV    : Nat
  chopper  : Nat
  noRegen  : Bool
  brkI     : Nat
  linkUp   : Bool
  linkSince : Nat
  copyOn   : Nat
  copyOff  : Nat
  deriving DecidableEq, Repr, Inhabited

/-- The states of a loop slot (15 R322). -/
inductive LoopState where
  | off | opened | closed | fenced
  deriving DecidableEq, Repr, Inhabited

/-- What drives a slot's reference (15 R326, R329). -/
inductive RefTake where
  | none | beltStop | frozenRatio (ratio : Int) | held
  deriving DecidableEq, Repr, Inhabited

/-- A loop engine slot (15). References are fixed-point with 32 fractional bits. -/
structure Loop where
  state     : LoopState
  coefLive  : List (Nat × Word)
  coefShadow : List (Nat × Word)
  x         : List Int
  u         : List Int
  sat       : List Int
  frozen    : Nat
  r         : Int
  r1        : Int
  r2        : Int
  rin       : Int
  move      : Option SpeedMove
  take      : RefTake
  closeInit : Option Nat
  oscSign   : Int
  samples   : Nat
  reversals : List Nat
  oscSeen   : Bool
  satCount  : Nat
  oscCount  : Nat
  accSat    : Nat
  loopin    : Option (List Word × Word × Word)
  deriving DecidableEq, Repr, Inhabited

/-- What an axis move is (16 R334, R335, R339, R342, R354). -/
inductive MoveKind where
  | relative | absolute | velocity | member (group : Nat) | path | search | homing | stop
  deriving DecidableEq, Repr, Inhabited

/-- A queued or running axis move (16 R334-R342). Once it has started, `segs` is its plan: changes of the path speed from
`va` to `vb` under the latched limits `acc` and `jerk`, each with its length in ticks (`va = vb` a cruise); a path of
length `path` carries the axis `value` microsteps. `cmd` is the arbiter sequence number of the command it serves. -/
structure AxisMove where
  kind   : MoveKind
  value  : Int
  cmd    : Option Nat
  source : Nat
  offset : Int
  limit  : Nat
  acc    : Nat
  jerk   : Nat
  path   : Nat
  segs   : List (Int × Int × Nat)
  deriving DecidableEq, Repr, Inhabited

/-- The states of an axis (16 R356). -/
inductive AxisState where
  | off | hold | move | velocity | stopping | stalled
  deriving DecidableEq, Repr, Inhabited

/-- A stepper axis (16 R331-R345). `pos` and `vel` are those of tick `anchor`, when the present state or move began;
`theta` is the quantised electrical angle in 1/1,024 turn; `stall1` and `stall2` say since when the tests of R345 hold. -/
structure Axis where
  state     : AxisState
  pos       : Int
  vel       : Int
  anchor    : Nat
  queue     : List AxisMove
  cur       : Option AxisMove
  homed     : Bool
  shortSeen : Bool
  current   : Nat
  angle     : Nat
  latched   : Option Int
  stall1    : Option Nat
  stall2    : Option Nat
  theta     : Nat
  dutyA     : Int                -- the duties in force and the next ones, in 10 ns, signed (16 R331)
  dutyB     : Int
  nextA     : Int
  nextB     : Int
  sumA      : Int                -- the integrators of the phase loops, in mV / 113,000
  sumB      : Int
  lastA     : Int                -- the last phase samples, in 10 mA
  lastB     : Int
  emfAlong  : Int                -- the back-EMF summed over a millisecond, along and across the commanded current (16 R343)
  emfAcross : Int
  energised : Bool
  offAt     : Nat
  deriving DecidableEq, Repr, Inhabited

/-- An interpolation group (16 R339, R356). -/
structure Group where
  state  : Nat
  leader : Nat
  cmd    : Option Nat
  deriving DecidableEq, Repr, Inhabited

/-- An encoder (16 R346, R347). -/
structure Encoder where
  count      : Int
  high       : Int
  fall       : Int
  raised     : Bool
  smallBacks : Nat
  reversals  : Nat
  qerr       : Nat
  a          : Bool
  b          : Bool
  deriving DecidableEq, Repr, Inhabited

/-- The paper path beside axes and sheets (16 R352, R356). -/
structure Path where
  level    : List Bool
  jams     : Nat
  drops    : Nat
  regLate  : Nat
  offNominal : Nat                -- lead edges inside a jam window but outside its nominal window (16 R351)
  deriving DecidableEq, Repr, Inhabited

/-- An HV channel (17 R357-R363). -/
structure Hv where
  en       : Bool
  t        : Nat
  ramp     : Option (Nat × Nat)       -- toward, rate per ms, as latched
  lastRate : Nat
  rampAt   : Nat
  disabling : Bool
  settled  : Bool
  fault    : Bool
  mon      : Nat
  corr     : Int
  duty     : Nat
  arcPause : Bool
  arcs     : Nat
  arcTimes : List Nat
  rampEnd  : Option Nat
  inSince  : Option Nat
  offAt    : Nat
  deriving DecidableEq, Repr, Inhabited

/-- A heater zone (17 R364-R368). -/
structure Zone where
  enabled  : Bool
  p        : Nat
  accum    : Nat
  firing   : Bool
  inBand   : Bool
  bandUp   : Bool
  fault    : Bool
  highFrom : Option (Nat × Int)
  deriving DecidableEq, Repr, Inhabited

/-- A thermistor input (17 R372, 19 R400). -/
structure Therm where
  temp  : Int
  opened : Bool
  short : Bool
  point : Option (Nat × Nat × Int)
  deriving DecidableEq, Repr, Inhabited

/-- Mains and safety inputs (17 R364, R369). -/
structure Safety where
  interlock : Bool
  overtemp  : Bool
  zcLost    : Bool
  halfUs    : Nat
  lastZc    : Nat           -- the last crossing accepted
  lastEdge  : Nat           -- the last crossing that can begin a half-period
  timerAt   : Nat           -- when the 10 ms timer last ran out
  deriving DecidableEq, Repr, Inhabited

/-- Memory integrity (18). `failing` lists the lines whose check fails, with the source code of R379 that each is to be
corrected from. -/
structure Integrity where
  failing       : List (Nat × Nat)
  position      : Nat
  passes        : Nat
  corrected     : Nat
  superseded    : Nat
  uncorrectable : Nat
  lastLine      : Nat
  lastSource    : Nat
  master        : List Host.Cell        -- the trim master's cells that are not 0
  resident      : List Bool             -- emitters of the trim master, 34 a station
  changed       : List Bool             -- changed by TRIM_WRITE since the last load or STORE_TRIM
  deriving DecidableEq, Repr, Inhabited

/-- An AFE bank (19 R391-R396, R402). `waiting` are the slices a running cycle has still to calibrate, `again` a trigger that is
kept, `cycleRet` the slices the present cycle has retired. `diag` holds for each slice DRIFT, C0, CBG, CHECK, SUSPENDS and
CAUSE, CONVS, DRIFT_MAX (24 R486). -/
structure Bank where
  inService : Nat
  retired   : Nat
  suspended : Nat
  spare     : Nat
  calSlice  : Nat
  stale     : Bool
  frame     : Nat
  again     : Bool
  waiting   : List Nat
  calTj     : Int
  cycles    : Nat
  lastCycle : Nat
  ofs       : List Int
  gain      : List Int
  frames    : Nat
  late      : Nat
  withheld  : Nat
  timed     : Nat
  scan      : Nat
  diag      : List (List Int)
  cycleRet  : Nat
  deriving DecidableEq, Repr, Inhabited

/-- An AFE channel's latest result and its table entries (19 R397, R398). -/
structure AfeChannel where
  value      : Int
  at_        : Nat
  raw        : Nat
  slice      : Nat
  corrected  : Int
  gainLive   : Word
  ofsLive    : Word
  gainShadow : Word
  ofsShadow  : Word
  written    : Bool
  deriving DecidableEq, Repr, Inhabited

/-- The analogue front end (19). -/
structure Afe where
  banks       : List Bank
  channels    : List AfeChannel
  tj          : Int
  zeroRejects : Nat
  suspensions : Nat
  hotRaised   : Bool
  thExt       : Bool            -- TH_EXT as in force in the scan frame (20 R418, R427)
  deriving DecidableEq, Repr, Inhabited

/-- The pair (20). `unacked` are the mirror messages not yet acknowledged, with their send time. -/
structure Pair where
  role       : Role
  paired     : Bool
  lanes      : Nat
  synced     : Bool
  syncing    : Bool
  syncStart  : Nat
  peerRole   : Nat
  dboltIn    : Bool
  dboltOut   : Bool
  leadOut    : Bool
  reason     : Nat
  lastBeat   : Option Beat
  beatAt     : Nat
  beats      : Nat
  msgSent    : Nat
  msgApplied : Nat
  unacked    : List (Nat × Nat)
  fenceFrom  : Option Nat
  mirrored   : List Entry          -- entries mirrored and not marked POSTED
  drives     : Nat
  stations   : Nat
  axes       : Bool
  acked      : Bool
  slots      : Nat
  digestRun  : List Nat
  ackLag     : Nat
  takeovers  : Nat
  unsyncs    : Nat
  msgErrors  : Nat
  deriving DecidableEq, Repr, Inhabited

/-- An entry that a SYNCED LEAD has decided and mirrored and whose acknowledgement has not come (20 R410): the message
that mirrored it, and whether the host and the management port are to have it. -/
structure Waiting where
  msg   : Nat
  entry : Entry
  host  : Bool
  mgmt  : Bool
  deriving DecidableEq, Repr

/-- The rest of the pair: relay, planned exchange, resynchronisation (04 R85, 20 R413, R422, R424). -/
structure PairWork where
  awaiting   : List Waiting
  relayed    : List Packet
  switching  : Bool
  blockFails : Nat
  snapshot   : List Byte
  waitBells  : Bool
  quiet      : Option Nat          -- PAIRLINK reset: heartbeat loss suppressed until then
  mirroring  : Bool                -- the step is of an arbiter step of the LEAD's
  atBeat     : Bool                -- this chip was SYNCED at the last heartbeat it received (20 R419)
  deriving DecidableEq, Repr, Inhabited

/-- The supply (21). -/
structure Supply where
  vin      : Nat
  warning  : Bool
  vinHigh  : Bool
  warnings : Nat
  v5       : Nat
  temp     : Int
  on       : Bool
  memPower : Bool
  refused  : Bool
  aonCopy  : List (Nat × Word)
  deriving DecidableEq, Repr, Inhabited

/-- One region of the flash (22 R442-R444). Of a TRIM or PLAN region, `raws` are the numbers of the blocks written RAW and `seed`
counts the free values of the token lengths of the others (07 R159). -/
structure Region where
  valid      : Bool
  generation : Nat
  version    : Nat
  engineId   : Nat
  body       : List Byte
  raws       : List Nat
  seed       : Nat
  deriving DecidableEq, Repr, Inhabited

/-- A fuse setting: the values of its programmed slots in order, `none` a void slot (22 R449, R450). -/
structure FuseSetting where
  slots : Nat
  used  : List (Option Nat)
  deriving DecidableEq, Repr, Inhabited

/-- Flash, fuses and the audit log (22). `profiles` hold register words; `plans` the 180 plan entries of each copy;
`trims` the cells of each trim copy that are not 0. -/
structure Nv where
  fitted    : Nat                     -- MiB of the NOR flash on the board, 0 for none
  readable  : Bool
  mib       : Nat
  regions   : List Region
  profiles  : List (List (Nat × Word))
  plans     : List (List (Nat × List Byte))
  trims     : List (List Host.Cell)
  bands     : List (List (Nat × Word))
  log       : List AuditEntry
  storing   : Option (Nat × Nat)      -- KIND and region of the store running
  storeCmd  : Nat
  fuses     : List FuseSetting
  ceilings  : List FuseSetting
  keySlots  : List (Option (List Byte))   -- SERVICE_KEY_HASH slots programmed after shipment; none = void
  acting    : List Nat                    -- the settings of codes 1 to 8 as shadowed at boot (22 R450)
  actingKey : Nat                         -- how many of `keySlots` were programmed at boot
  marks     : Nat
  auditSeq  : Nat
  held      : List AuditEntry
  lost      : Nat
  truncated : Bool
  marksFull : Bool
  bootNo    : Nat
  deriving DecidableEq, Repr, Inhabited

/-- The TAP (23 R471, R472). -/
inductive TapState where
  | reset | idle | selDR | capDR | shDR | ex1DR | pauDR | ex2DR | upDR
  | selIR | capIR | shIR | ex1IR | pauIR | ex2IR | upIR
  deriving DecidableEq, Repr, Inhabited

/-- Pins and JTAG (23). -/
structure Pins where
  resetn   : Bool
  wake     : Bool
  tap      : TapState
  irShift  : List Bool
  extest   : Bool
  deriving DecidableEq, Repr, Inhabited

/-- A waiting apply of a tumbler group (01 R20-R23, 24 R488). `cmd` is the arbiter sequence number of its APPLY, or none
for one started by register. -/
structure Apply where
  group    : Nat
  inst     : Nat
  words    : List (Nat × Word)
  tables   : List (Nat × Nat)
  deadline : Nat
  cmd      : Option Nat
  landed   : Bool
  deriving DecidableEq, Repr, Inhabited

/-- SYS_TUMBLER_STAT (24 R486) and the applies that wait. -/
structure Tumbler where
  waiting    : List Apply
  lastStatus : Nat
  group      : Nat
  inst       : Nat
  profile    : Option (Nat × List (Nat × Nat))   -- PROFILE_LOAD: its command and the groups still to apply
  deriving DecidableEq, Repr, Inhabited

/-- One record of the trace area (03 R78). -/
structure TraceRec where
  time   : Nat
  source : Nat
  inst   : Nat
  data   : List Byte
  deriving DecidableEq, Repr, Inhabited

/-- The trace (03 R78, R79). -/
structure Trace where
  running  : Bool
  sources  : Nat
  stations : Nat
  slot     : Nat
  ringMode : Bool
  records  : List TraceRec
  deriving DecidableEq, Repr, Inhabited

/-- A capture on a station (03 R80). -/
structure CaptureJob where
  station : Nat
  cmd     : Nat
  what    : Nat
  lanes   : Nat
  sweeps  : Nat
  sheetId : Nat
  addr    : Nat
  length  : Nat
  started : Bool
  done    : Nat
  written : Nat
  lines   : Nat
  dropped : Nat
  blocks  : Nat
  full    : Bool
  held    : List (Nat × Nat × List Byte)   -- lines waiting for a whole block: sheet, sheet line, bytes
  deriving DecidableEq, Repr, Inhabited

/-- The state of the device. `pending` is the model's queue of waiting commands, `freeCount` the model's counter of free
values drawn; every other field is the manual's. -/
structure State where
  pending   : List Instr
  freeCount : Nat
  now       : Nat
  regs      : List (Nat × Word)
  live      : List (Nat × Word)
  snaps     : List (Nat × Nat × Word)     -- R19: master, address of the high word, value
  refused   : Nat                          -- SYS_WRITE_REFUSED
  tumbler   : Tumbler
  queues    : List Queue
  hold      : Holding
  arrived   : List (Nat × Packet)          -- opcode and packet, waiting for the arbiter
  running   : List Cmd
  tags      : List (Nat × Nat)             -- outstanding: master, tag
  arbSeq    : Nat
  arb       : Arbiter
  eventSeq  : Nat
  hostMask  : List Byte
  mgmtMask  : List Byte
  mgmt      : MgmtPort
  key       : Key
  cred      : Credential
  modes     : Modes
  resets    : Resets
  boot      : Boot
  sheets    : SheetPlane
  dma       : Dma
  feed      : Feed
  stations  : List Station
  run       : Run
  drives    : List Drive
  bus       : Bus
  loops     : List Loop
  loopWorst : Nat
  axes      : List Axis
  groups    : List Group
  encoders  : List Encoder
  path      : Path
  hv        : List Hv
  zones     : List Zone
  therms    : List Therm
  safety    : Safety
  mem       : Integrity
  afe       : Afe
  pair      : Pair
  pairWork  : PairWork
  supply    : Supply
  nv        : Nv
  pins      : Pins
  trace     : Trace
  captures  : List CaptureJob
  outbox    : List Output
  deriving DecidableEq, Repr

/-! The state right after reset. Every register is at the reset value of its table; `regs` and `live` list nothing, so
each reads as `resetWord` of Machine/RegMap.lean. Values that the manual does not give stand in the assumption log. -/

def Queue.reset : Queue := ⟨0, 0, 0, 0, none, false⟩
def Holding.reset : Holding := ⟨[], [], 0, [], [], [], 0, []⟩
def Key.reset : Key := ⟨3, false, 0, 0, false, 0, [], false, []⟩
def Credential.reset : Credential := ⟨List.replicate 40 0, false, 3, 0, 0, 0, [], [], none⟩
def Modes.reset : Modes := ⟨.standby, false, false, .none, 0, 0, 0x1F, [], 0, none, false, false, false⟩
def Boot.reset : Boot := ⟨0, false, 0, 0, 0, false, false, 0⟩
def SheetPlane.reset : SheetPlane := ⟨List.replicate 24 none, 0, none, none, false, none, false, none, none, none, 0⟩
def Channel.reset : Channel := ⟨[], [], none, 0, 0, 0, 0, 0⟩
def Dma.reset : Dma := ⟨List.replicate 16 .reset, false, false, 0, 0, [], []⟩
def Engine.reset : Engine := ⟨true, none, 0, false, 0, 0, []⟩
def Feed.reset : Feed := ⟨List.replicate 12 .reset, [], [], 0, 0, 0, 0, 0, 0, 0, List.replicate 5 4, 8, false⟩
def Scan.reset : Scan :=
  ⟨.off, 0, 0, 0, 0, 0, 0, 0, [], [], false, 0, 0, 0, 0, 0, true, true, 0, 0, 0, List.replicate 12 0,
    List.replicate 12 0, List.replicate 12 0, 0, 0, 0, false, false, false, false, 0, none, 0⟩
def Pll.reset : Pll :=
  ⟨false, false, false, false, false, 0, 0, 0, 0, 0, 0, 0, 0, 0, 0, 0, 0, 0, 0, false, false⟩
def PlanSlot.reset : PlanSlot := ⟨none, false, false⟩
def Plans.reset : Plans := ⟨List.replicate 36 .reset, 0, false, none, 0, 0, 0, 0, 0⟩
def Emitter.reset : Emitter :=
  { sample := 0, smpSweep := 0, fresh := false, lastPass := 0, hist := [], failed := false, gone := false, firstBad := 0, dots := 0, lost := 0, windows := [], weight := 0,
    dutySum := 0, clamp := false }
def Pipe.reset : Pipe :=
  { segLive := [], segShadow := [], swapWait := false, bank := 0, dctLive := [], dctShadow := [], trim := [],
    trimLoaded := List.replicate 34 false, trimBad := [], trimStuck := [], reloads := [], parityErrs := 0,
    reloadCnt := 0, emitters := List.replicate 34 .reset, marks := [], headWins := [], headWeight := 0,
    headClamp := false, headDuty := 0, clamps := 0, clampSweep := 0, clampAt := 0, dutyCfg := 6856880, dutyHead := 6856880, lastEmit := 0x3F, lastKind := 0, repeats := 0,
    lastFirst := 0, calMask := 0, calSamples := [], apcPair := 0, sending := [],
    sentTo := 0, sent := [] }
def Link.reset : Link :=
  ⟨.down, false, false, false, 0, 0, 0, 0, 0, 0, 0, 0, 0, 0, 0, [], 0, 0, 0, 0, 0, 0, none⟩
def Station.reset : Station := ⟨true, none, .reset, .reset, .reset, .reset, .reset, [], 0, 0, false, 0⟩
def Run.reset : Run := ⟨32, 32, 0, 0, 0, 0⟩
def DriveStats.reset : DriveStats :=
  ⟨0, 0, 0, 0, 0, 0, 0, 0, 0, 0, 0, List.replicate 4 0, 0, 0, 0, 0, 0, 0, List.replicate 64 (0, 0), 0, false, false, none, 0⟩
def Drive.reset : Drive :=
  { state := .off, pending := false, fwActive := false, distrust := false, catchKind := 0, bridge := false, speed := 0,
    id := 0, iq := 0, iqDemand := 0, idCmd := 0, iqCmd := 0, vd := 0, vq := 0, sumD := 0,
    sumQ := 0, duties := [], nextDuty := [], cut := 0, code := 0, fallbacks := 0, target := 0,
    revAction := 0, attempts := 0, aligning := false, waiting := false, plausible := 0, agree := 0, missed := 0,
    failTicks := List.replicate 4 0, encAgree := 0, lowPhase := 0, restSince := none, move := none, stats := .reset,
    zcTimes := [], since := 0, sixStep := 0, stepAt := none, tracedMs := 0, offAt := 0 }
def Bus.reset : Bus := ⟨0, false, 0, 0, 0, false, 0, true, 0, 2080, 2000⟩
def Loop.reset : Loop :=
  { state := .off, coefLive := [], coefShadow := [], x := List.replicate 8 0, u := List.replicate 4 0,
    sat := List.replicate 4 0, frozen := 0, r := 0, r1 := 0, r2 := 0, rin := 0, move := none, take := .none,
    closeInit := none, oscSign := 0, samples := 0, reversals := [], oscSeen := false, satCount := 0, oscCount := 0,
    accSat := 0, loopin := none }
def Axis.reset : Axis := ⟨.off, 0, 0, 0, [], none, false, false, 0, 0, none, none, none, 0, 0, 0, 0, 0, 0, 0, 0, 0, 0, 0, false, 0⟩
def Group.reset : Group := ⟨0, 0, none⟩
def Encoder.reset : Encoder := ⟨0, 0, 0, false, 0, 0, 0, false, false⟩
def Path.reset : Path := ⟨List.replicate 64 false, 0, 0, 0, 0⟩
def Hv.reset : Hv := ⟨false, 0, none, 0, 0, false, false, false, 0, 0, 0, false, 0, [], none, none, 0⟩
def Zone.reset : Zone := ⟨false, 0, 0, false, false, false, false, none⟩
def Therm.reset : Therm := ⟨0, false, false, none⟩
def Safety.reset : Safety := ⟨false, false, false, 0, 0, 0, 0⟩
def Integrity.reset : Integrity := ⟨[], 0, 0, 0, 0, 0, 0, 0, [], List.replicate 170 false, List.replicate 170 false⟩
def Bank.reset : Bank :=
  ⟨0x0F, 0, 0, 4, 7, false, 16, false, [], 0, 0, 0, List.replicate 5 0, List.replicate 5 0, 0, 0, 0, 0, 0,
    List.replicate 5 (List.replicate 7 0), 0⟩
def AfeChannel.reset : AfeChannel := ⟨0, 0, 0, 0, 0, 0x01000000, 0, 0x01000000, 0, false⟩
def Afe.reset : Afe := ⟨List.replicate 3 .reset, List.replicate 160 .reset, 0, 0, 0, false, false⟩
def Pair.reset : Pair :=
  { role := .unpaired, paired := false, lanes := 0, synced := false, syncing := false, syncStart := 0, peerRole := 0,
    dboltIn := false, dboltOut := false, leadOut := false, reason := 0, lastBeat := none, beatAt := 0, beats := 0,
    msgSent := 0, msgApplied := 0, unacked := [], fenceFrom := none, mirrored := [], drives := 0, stations := 0,
    axes := false, acked := false, slots := 0, digestRun := List.replicate 24 0, ackLag := 0, takeovers := 0,
    unsyncs := 0, msgErrors := 0 }
def PairWork.reset : PairWork := ⟨[], [], false, 0, [], false, none, false, false⟩
def Supply.reset : Supply := ⟨0, false, false, 0, 0, 0, true, true, false, []⟩
def Region.reset : Region := ⟨false, 0, 0, 0, [], [], 0⟩
def FuseSetting.shipped (slots : Nat) : FuseSetting := ⟨slots, []⟩

/-- Flash and fuses as the model takes them before anything is stored: a 32 MiB flash with no valid region and an empty
log (log entry 9), and every fuse setting as shipped (22 R449). -/
def Nv.reset : Nv :=
  { fitted := 32, readable := false, mib := 0, regions := List.replicate 9 .reset, profiles := List.replicate 2 [],
    plans := List.replicate 2 [], trims := List.replicate 2 [], bands := List.replicate 2 [], log := [],
    storing := none, storeCmd := 0,
    fuses := [.shipped 4, .shipped 4, .shipped 4, .shipped 2, .shipped 4, .shipped 16, .shipped 2, .shipped 1],
    ceilings := List.replicate 5 (.shipped 4), keySlots := [],
    acting := [2, 5, 55, 0, 0, 0, 0, 1], actingKey := 0, marks := 0, auditSeq := 0, held := [], lost := 0,
    truncated := false, marksFull := false, bootNo := 0 }
def Pins.reset : Pins := ⟨true, false, .reset, [], false⟩
def Tumbler.reset : Tumbler := ⟨[], 0, 0, 0, none⟩
def Trace.reset : Trace := ⟨false, 0, 0, 0, false, []⟩

/-- The machine right after RESETn is released (05 R112, R113): every register at its reset value, STANDBY, the boot
phases still to run. -/
def State.reset : State :=
  { pending := [], freeCount := 0, now := 0, regs := [], live := [], snaps := [], refused := 0, tumbler := .reset,
    queues := List.replicate 32 .reset, hold := .reset, arrived := [], running := [], tags := [], arbSeq := 0, arb := ⟨0, [], 31, 31⟩,
    eventSeq := 0, hostMask := List.replicate 32 0xFF, mgmtMask := List.replicate 16 0xFF, mgmt := ⟨[], none, 0⟩,
    key := .reset, cred := .reset, modes := .reset, resets := ⟨0, List.replicate 15 0, []⟩, boot := .reset, sheets := .reset, dma := .reset,
    feed := .reset, stations := List.replicate 5 .reset, run := .reset, drives := List.replicate 12 .reset, bus := .reset,
    loops := List.replicate 24 .reset, loopWorst := 0, axes := List.replicate 24 .reset, groups := List.replicate 8 .reset,
    encoders := List.replicate 8 .reset, path := .reset, hv := List.replicate 24 .reset, zones := List.replicate 4 .reset,
    therms := List.replicate 8 .reset, safety := .reset, mem := .reset, afe := .reset, pair := .reset,
    pairWork := .reset, supply := .reset, nv := .reset, pins := .reset, trace := .reset, captures := [], outbox := [] }

end Sys2Proof.Machine
end

