-- ==== Sys2Proof/Machine/Store.lean ====
section
/-! DEFINITION. Addressed stores in one canonical form: addresses strictly rising, and no entry equal to what an
unlisted address reads as. Registers, the scratch region, trim cells, segment banks and tables are all held so. -/

namespace Sys2Proof.Machine

/-- What the store holds at `a`, where `d` is what unlisted addresses read as. -/
def Store.get {α : Type} (d : Nat → α) : List (Nat × α) → Nat → α
  | [], a => d a
  | (b, v) :: l, a => if b = a then v else Store.get d l a

/-- The store with `v` at `a`. Writing what an unlisted address reads as removes the entry. -/
def Store.put {α : Type} [DecidableEq α] (d : Nat → α) : List (Nat × α) → Nat → α → List (Nat × α)
  | [], a, v => if v = d a then [] else [(a, v)]
  | (b, w) :: l, a, v =>
    if a < b then (if v = d a then (b, w) :: l else (a, v) :: (b, w) :: l)
    else if a = b then (if v = d a then l else (a, v) :: l)
    else (b, w) :: Store.put d l a v

/-- The canonical form: every address above `lo`, rising, and no entry at its default. -/
def Store.from {α : Type} [DecidableEq α] (d : Nat → α) : Option Nat → List (Nat × α) → Bool
  | _, [] => true
  | none, (a, v) :: l => v ≠ d a && Store.from d (some a) l
  | some b, (a, v) :: l => b < a && v ≠ d a && Store.from d (some a) l

/-- A store is well-formed when it is in canonical form. -/
def Store.wf {α : Type} [DecidableEq α] (d : Nat → α) (l : List (Nat × α)) : Bool := Store.from d none l

/-- Several writes in order. -/
def Store.putAll {α : Type} [DecidableEq α] (d : Nat → α) (l : List (Nat × α)) : List (Nat × α) → List (Nat × α)
  | [] => l
  | (a, v) :: ws => Store.putAll d (Store.put d l a v) ws

/-- A store without the addresses that `p` names: they read their default again. -/
def Store.drop {α : Type} (p : Nat → Bool) (l : List (Nat × α)) : List (Nat × α) := l.filter fun c => !p c.1

end Sys2Proof.Machine
end

