-- ==== Sys2Proof/Machine/Ops.lean ====
section
/-! DEFINITION. The named operations that every meaning shares: registers, instances, time, free values, what the
device writes into its rings, events, completions and audit entries. -/

namespace Sys2Proof.Machine

/-- The outcome of a command. -/
abbrev Result := Host.Outcome State Fault Refusal

/-! Time. One tick is 10 ns (01 R13). -/

def us (n : Nat) : Nat := 100 * n
def ms (n : Nat) : Nat := 100000 * n
def sec (n : Nat) : Nat := 100000000 * n

/-- The state at tick `t`: the time base never runs backward (01 R13). -/
def State.at (s : State) (t : Nat) : State := { s with now := max s.now t }

/-! Counters stop at a limit unless their register says they wrap (24 R486). -/

def satAdd (limit v n : Nat) : Nat := if v + n ≤ limit then v + n else limit

/-! Free values: what the manual leaves open. -/

def State.drawNat (s : State) : Nat × State := (Config.freeNat s.freeCount, { s with freeCount := s.freeCount + 1 })
def State.drawInt (s : State) : Int × State := (Config.freeInt s.freeCount, { s with freeCount := s.freeCount + 1 })
def State.drawBytes (s : State) (n : Nat) : List Byte × State :=
  ((List.range n).map fun i => Config.freeByte (s.freeCount + i), { s with freeCount := s.freeCount + n })

/-! Registers (24 R478-R480). `imm` reads an immediate field, or the shadow of a tumbler field; `liv` the live value of
a tumbler field; `setImm` and `setLive` are the device's own updates. -/

def wordField (w : Word) (f : FieldRef) : Nat := bitsOf w.toNat f.lsb f.width

/-- A word with the field replaced, the value cut to the field's width. -/
def wordWith (w : Word) (f : FieldRef) (v : Nat) : Word :=
  BitVec.ofNat 32 (w.toNat - bitsOf w.toNat f.lsb f.width * 2 ^ f.lsb + v % 2 ^ f.width * 2 ^ f.lsb)

def State.reg (s : State) (a : Nat) : Word := Store.get resetWord s.regs a
def State.liveReg (s : State) (a : Nat) : Word := Store.get resetWord s.live a
def State.setReg (s : State) (a : Nat) (w : Word) : State := { s with regs := Store.put resetWord s.regs a w }
def State.setLiveReg (s : State) (a : Nat) (w : Word) : State := { s with live := Store.put resetWord s.live a w }

def State.imm (s : State) (f : FieldRef) : Nat := wordField (s.reg f.addr) f
def State.liv (s : State) (f : FieldRef) : Nat := wordField (s.liveReg f.addr) f
def State.on (s : State) (f : FieldRef) : Bool := s.imm f = 1
def State.livOn (s : State) (f : FieldRef) : Bool := s.liv f = 1
def State.immInt (s : State) (f : FieldRef) : Int := signed f.width (s.imm f)
def State.livInt (s : State) (f : FieldRef) : Int := signed f.width (s.liv f)
def State.setImm (s : State) (f : FieldRef) (v : Nat) : State := s.setReg f.addr (wordWith (s.reg f.addr) f v)

/-! Instances. An index past the end reads a reset instance and writes nothing. -/

def State.queue (s : State) (q : Nat) : Queue := s.queues.getD q .reset
def State.setQueue (s : State) (q : Nat) (f : Queue → Queue) : State := { s with queues := s.queues.modify q f }
def State.station (s : State) (n : Nat) : Station := s.stations.getD n .reset
def State.setStation (s : State) (n : Nat) (f : Station → Station) : State :=
  { s with stations := s.stations.modify n f }
def State.setPipe (s : State) (n : Nat) (f : Pipe → Pipe) : State := s.setStation n fun st => { st with pipe := f st.pipe }
def State.setScan (s : State) (n : Nat) (f : Scan → Scan) : State := s.setStation n fun st => { st with scan := f st.scan }
def State.setPll (s : State) (n : Nat) (f : Pll → Pll) : State := s.setStation n fun st => { st with pll := f st.pll }
def State.setLink (s : State) (n : Nat) (f : Link → Link) : State := s.setStation n fun st => { st with link := f st.link }
def State.scan (s : State) (n : Nat) : Scan := (s.station n).scan
def State.pipe (s : State) (n : Nat) : Pipe := (s.station n).pipe
def State.link (s : State) (n : Nat) : Link := (s.station n).link
def State.pll (s : State) (n : Nat) : Pll := (s.station n).pll
def allStations : List Nat := List.range 5
def State.drive (s : State) (n : Nat) : Drive := s.drives.getD n .reset
def State.setDrive (s : State) (n : Nat) (f : Drive → Drive) : State := { s with drives := s.drives.modify n f }
def State.loop (s : State) (n : Nat) : Loop := s.loops.getD n .reset
def State.setLoop (s : State) (n : Nat) (f : Loop → Loop) : State := { s with loops := s.loops.modify n f }
def State.axis (s : State) (n : Nat) : Axis := s.axes.getD n .reset
def State.setAxis (s : State) (n : Nat) (f : Axis → Axis) : State := { s with axes := s.axes.modify n f }
def State.group (s : State) (n : Nat) : Group := s.groups.getD n .reset
def State.setGroup (s : State) (n : Nat) (f : Group → Group) : State := { s with groups := s.groups.modify n f }
def State.encoder (s : State) (n : Nat) : Encoder := s.encoders.getD n .reset
def State.setEncoder (s : State) (n : Nat) (f : Encoder → Encoder) : State :=
  { s with encoders := s.encoders.modify n f }
def State.hvCh (s : State) (n : Nat) : Hv := s.hv.getD n .reset
def State.setHv (s : State) (n : Nat) (f : Hv → Hv) : State := { s with hv := s.hv.modify n f }
def State.zone (s : State) (n : Nat) : Zone := s.zones.getD n .reset
def State.setZone (s : State) (n : Nat) (f : Zone → Zone) : State := { s with zones := s.zones.modify n f }
def State.therm (s : State) (n : Nat) : Therm := s.therms.getD n .reset
def State.setTherm (s : State) (n : Nat) (f : Therm → Therm) : State := { s with therms := s.therms.modify n f }
def State.channel (s : State) (n : Nat) : Channel := s.dma.channels.getD n .reset
def State.setChannel (s : State) (n : Nat) (f : Channel → Channel) : State :=
  { s with dma := { s.dma with channels := s.dma.channels.modify n f } }
def State.engine (s : State) (n : Nat) : Engine := s.feed.engines.getD n .reset
def State.setEngine (s : State) (n : Nat) (f : Engine → Engine) : State :=
  { s with feed := { s.feed with engines := s.feed.engines.modify n f } }
def State.bank (s : State) (n : Nat) : Bank := s.afe.banks.getD n .reset
def State.setBank (s : State) (n : Nat) (f : Bank → Bank) : State :=
  { s with afe := { s.afe with banks := s.afe.banks.modify n f } }
def State.afeChan (s : State) (n : Nat) : AfeChannel := s.afe.channels.getD n .reset
def State.setAfeChan (s : State) (n : Nat) (f : AfeChannel → AfeChannel) : State :=
  { s with afe := { s.afe with channels := s.afe.channels.modify n f } }
def State.sheet? (s : State) (slot : Nat) : Option Sheet := s.sheets.slots.getD slot none
def State.setSheet (s : State) (slot : Nat) (f : Sheet → Sheet) : State :=
  { s with sheets := { s.sheets with slots := s.sheets.slots.modify slot (Option.map f) } }

def State.out (s : State) (o : Output) : State := { s with outbox := s.outbox ++ [o] }

/-! Modes. -/

/-- The code of a mode (05 R102). -/
def Mode.code : Mode → Nat
  | .dormant => 0 | .standby => 1 | .warming => 2 | .ready => 3 | .printing => 4 | .service => 5

def Role.code : Role → Nat
  | .unpaired => 0 | .lead => 1 | .shadow => 2

def State.mode (s : State) : Mode := s.modes.mode

/-- Out of reset and out of DORMANT: the islands run (05 R112, R102). -/
def State.up (s : State) : Bool := s.pins.resetn && s.supply.on && s.mode != .dormant

/-- A device step outside reset and DORMANT; in either nothing happens (05 R102, R112). -/
def whileUp (s : State) (f : State → State) : Result := .next (if s.up then f s else s)

/-- A step that decides for the pair: a SHADOW takes the decision from the mirror (20 R404, R406). -/
def whileLeads (s : State) (f : State → State) : Result := whileUp s fun s => if s.pair.role = .shadow then s else f s

/-! The queues (03 R55-R62). -/

def State.queueType (s : State) (q : Nat) : Nat := s.liv (Fld.QUE_TYPE q)
def State.queueOn (s : State) (q : Nat) : Bool := s.on (Fld.QUE_ENABLE q)
def State.queueSize (s : State) (q : Nat) : Nat := 2 ^ s.liv (Fld.QUE_SIZE_LOG2 q)

/-- Bytes of one entry of a queue type (03 R55). -/
def entrySize (ty : Nat) : Nat :=
  if ty = Ty.COMPLETION then 16 else if ty = Ty.EVENT ∨ ty = Ty.DATA_REQUEST then 32 else 64

def State.ringBase (s : State) (q : Nat) : Nat :=
  s.liv (Fld.QUE_BASE_LO_ADDR_LO q) * 64 + s.liv (Fld.QUE_BASE_HI_ADDR_HI q) * 2 ^ 32

def State.ringWriteBack (s : State) (q : Nat) : Nat :=
  s.liv (Fld.QUE_WB_LO_ADDR_LO q) * 4 + s.liv (Fld.QUE_WB_HI_ADDR_HI q) * 2 ^ 32

/-- The lowest-numbered queue that `p` names. -/
def findQueue (p : Nat → Bool) : Option Nat := (List.range 32).find? p

/-- The queue a completion goes to: the one its CQ names while that is a live COMPLETION queue, else the lowest-numbered
live COMPLETION queue (03 R66). -/
def State.completionQueue (s : State) (cq : Nat) : Option Nat :=
  if cq < 32 ∧ s.queueType cq = Ty.COMPLETION then some cq else findQueue fun q => s.queueType q = Ty.COMPLETION

/-- The live queue an entry belongs to, enabled or not (03 R55, R62, R497). -/
def State.queueFor (s : State) : Entry → Option Nat
  | .completion c => s.completionQueue c.cq
  | .event _ => findQueue fun q => s.queueType q = Ty.EVENT
  | .record _ => findQueue fun q => s.queueType q = Ty.SHEET_RECORD
  | .audit _ => findQueue fun q => s.queueType q = Ty.AUDIT
  | .request d => findQueue fun q => s.queueType q = Ty.DATA_REQUEST && s.liv (Fld.QUE_STATION q) = d.station

def State.ringFull (s : State) (q : Nat) : Bool := ((s.queue q).tail + 1) % s.queueSize q = (s.queue q).head

/-- Signalling of new entries under IRQ_EN, COAL_COUNT and COAL_TIME (03 R61). -/
def State.signal (s : State) (q : Nat) : State :=
  if s.on (Fld.QUE_IRQ_EN q) then
    let n := (s.queue q).irqCount + 1
    if max 1 (s.imm (Fld.QUE_COAL_COUNT q)) ≤ n then
      (s.setQueue q fun Q => { Q with irqCount := 0, oldest := none }).out (.msix (s.liv (Fld.QUE_VECTOR q)))
    else s.setQueue q fun Q => { Q with irqCount := n, oldest := Q.oldest <|> some s.now }
  else s

/-! The mirror link as far as posting needs it (20 R408-R410). -/

/-- A mirror message sent, not numbered (20 R408). -/
def State.mirror (s : State) (m : MirrorOut) : State := s.out (.mirror m)

/-- A LEAD of a SYNCED pair, which posts nothing before the SHADOW's acknowledgement (20 R410). -/
def State.syncedLead (s : State) : Bool := s.pair.role == .lead && s.pair.synced

/-- A mirror message sent that wants an acknowledgement: it takes the next number. -/
def State.sendMirror (s : State) (m : MirrorOut) : State :=
  { s with pair := { s.pair with msgSent := s.pair.msgSent + 1,
                                 unacked := s.pair.unacked ++ [(s.pair.msgSent + 1, s.now)] } }.mirror m

/-- A LEAD whose mirror runs: SYNCED, or on the way there from the first block on (20 R405, R413). -/
def State.mirrors (s : State) : Bool := s.pair.role == .lead && (s.pair.synced || s.pair.syncing)

/-- A decision mirrored while the mirror runs. -/
def State.mirrorOn (s : State) (m : MirrorOut) : State := if s.mirrors then s.sendMirror m else s

/-! The parts of an entry that posting itself settles. -/

/-- HEAD of the source SUBMISSION queue as a completion carries it (03 R69). -/
def State.sqHead (s : State) (master sq : Nat) : Nat := if master = 0 then (s.queue sq).head else 0xFFFF

/-- The SQ byte of a completion: the queue, 0xFE for the management port, 0xFD for the relay (03 R69). -/
def sqByte (master sq : Nat) : Nat := if master = 0 then sq else if master = 1 then 0xFE else 0xFD

/-- The 16 bytes of a completion (03 R69). -/
def Completion.bytes (c : Completion) : List Byte :=
  leBytes 2 c.tag ++ leBytes 2 c.status ++ leBytes 2 c.op ++ leBytes 1 c.sq ++ leBytes 1 c.flags ++ leBytes 4 c.result ++
    leBytes 2 c.sqHead ++ leBytes 2 c.arbSeq

/-- A tag is free again once its completion is written (03 R68). A DUP completion, one with TAG 0xFFFF and one of a frame that
was discarded own no tag. -/
def State.freeTag (s : State) (c : Completion) : State :=
  if c.flags % 2 = 1 ∨ c.tag = 0xFFFF ∨ c.status = St.QUEUE_FULL then s else { s with tags := s.tags.erase (c.master, c.tag) }

/-- The host's completion of which an ORPHAN_COMPLETION event carries the first 8 bytes (03 R503). -/
def orphanOf (d : List Byte) : Completion :=
  { tag := fieldAt d 0 2, status := fieldAt d 2 2, op := fieldAt d 4 2, sq := fieldAt d 6 1, flags := fieldAt d 7 1,
    result := 0, sqHead := 0, arbSeq := 0, cq := 0, master := 0 }

/-- Code, severity and masks of the event of index `i` (03 R73, R76): severities FAULT and HALT ignore both masks. -/
def eventCode (i : Nat) : Nat := (Ev.table.getD i (0, 0)).1
def eventSeverity (i : Nat) : Nat := (Ev.table.getD i (0, 0)).2
def maskBit (m : List Byte) (i : Nat) : Bool := bit (m.getD (i / 8) 0).toNat (i % 8)
def State.hostTakes (s : State) (i : Nat) : Bool := 2 ≤ eventSeverity i || maskBit s.hostMask i
def State.mgmtTakes (s : State) (i : Nat) : Bool := 2 ≤ eventSeverity i || maskBit s.mgmtMask i

/-- The tag of an orphaned completion is outstanding until its event is posted (03 R68), or is lost (log entry 22). -/
def State.freeOrphan (s : State) (e : Event) : State :=
  if e.code = eventCode Ev.ORPHAN_COMPLETION then s.freeTag (orphanOf e.data) else s

/-- An entry as it is written: a completion carries the SQ_HEAD of that moment (03 R69), and its tag is free. -/
def State.written (s : State) : Entry → Entry × State
  | .completion c => (.completion { c with sqHead := s.sqHead c.master c.sq }, s.freeTag c)
  | .event e => (.event e, s.freeOrphan e)
  | e => (e, s)

/-- One entry written into an enabled ring with room: the entry, the pointer write-back, the signal (03 R61); a SYNCED LEAD
notes it POSTED to the SHADOW (20 R405). -/
def State.writeRing (s : State) (q : Nat) (e : Entry) : State :=
  let t := (s.queue q).tail
  let t' := (t + 1) % s.queueSize q
  let w := s.written e
  let s := w.2.out (.post q t (s.ringBase q + t * entrySize (s.queueType q)) w.1)
  let s := s.setQueue q fun Q => { Q with tail := t' }
  let s := (s.out (.writeBack q (s.ringWriteBack q) t')).signal q
  if s.mirrors then s.mirror (.posted q t) else s

/-- Writes entries into ring `q` while it is enabled and has room; what is left stays in order (03 R58, R62). -/
def drain (q : Nat) : List Entry → State → State × List Entry
  | [], s => (s, [])
  | e :: es, s => if s.queueOn q && !s.ringFull q then drain q es (s.writeRing q e) else (s, e :: es)

/-! Where a decided entry goes (03 R62, R70, R82; 20 R410). -/

/-- An event put into the holding, or counted as dropped when it is full (03 R62). -/
def State.holdEvent (s : State) (e : Event) : State :=
  if s.hold.events.length < 256 then { s with hold := { s.hold with events := s.hold.events ++ [e] } }
  else { s with hold := { s.hold with eventsDropped := s.hold.eventsDropped + 1 } }.freeOrphan e

/-- An entry that may be posted now is put where it leaves from: the management port's items, the relay, the holding of its ring.
Copies of audit entries beyond 64 held are dropped (03 R62). -/
def State.place (s : State) (e : Entry) (host mgmt : Bool) : State :=
  match e with
  | .completion c =>
    if c.master = 1 then { s with mgmt := { s.mgmt with items := s.mgmt.items ++ [e] } }
    else if c.master = 2 then (s.freeTag c).mirror (.relayCompletion c)
    else { s with hold := { s.hold with completions := s.hold.completions ++ [c] } }
  | .event v =>
    let s := if mgmt then { s with mgmt := { s.mgmt with items := s.mgmt.items ++ [e] } } else s
    if host then s.holdEvent v else s.freeOrphan v
  | .record r => { s with hold := { s.hold with records := s.hold.records ++ [r] } }
  | .request d => { s with hold := { s.hold with requests := s.hold.requests ++ [d] } }
  | .audit a =>
    if s.hold.audits.length < 64 then { s with hold := { s.hold with audits := s.hold.audits ++ [a] } }
    else { s with hold := { s.hold with auditsDropped := s.hold.auditsDropped + 1 } }

/-- Whether two entries are copies of one another: the same completion, event, record or data request (20 R421). -/
def Entry.same : Entry → Entry → Bool
  | .completion a, .completion b => a.master = b.master && a.tag = b.tag && a.arbSeq = b.arbSeq
  | .event a, .event b => a.seq = b.seq
  | .record a, .record b => a.seq = b.seq
  | .request a, .request b => a.seq = b.seq && a.kind = b.kind
  | _, _ => false

/-- An entry a SHADOW keeps until it is marked POSTED (20 R405, R421). -/
def State.keep (s : State) (e : Entry) : State :=
  { s with pair := { s.pair with mirrored := s.pair.mirrored.filter (fun m => !m.same e) ++ [e] } }

/-- An entry decided and not yet posted: it waits for the acknowledgement of message `msg`. -/
def State.await (s : State) (msg : Nat) (e : Entry) (host mgmt : Bool) : State :=
  { s with pairWork := { s.pairWork with awaiting := s.pairWork.awaiting ++ [⟨msg, e, host, mgmt⟩] } }

/-- A decided entry: in a SYNCED LEAD it waits until its mirror message is acknowledged (03 R70, 20 R410), in a LEAD that has lost
its SHADOW for FENCE_WAIT (20 R410); elsewhere it is placed at once. -/
def State.decide (s : State) (e : Entry) (host mgmt : Bool) : State :=
  if s.syncedLead then
    let s := s.sendMirror (.posting e)
    s.await s.pair.msgSent e host mgmt
  else if s.pair.role = .lead ∧ s.pair.fenceFrom.isSome = true then s.await 0 e host mgmt
  else (s.mirrorOn (.posting e)).place e host mgmt

/-- The key epoch in force at a time: `epochs` holds the former ones, each with the time at which it ended (04 R90). -/
def Key.epochAt (k : Key) (time : Nat) : Half :=
  match k.epochs.find? fun x => time < x.1 with
  | some x => x.2
  | none => k.epoch

/-- An event as raised now, with the next SEQ and the key epoch of its TIME (03 R75). -/
def State.newEvent (s : State) (i inst slot : Nat) (data : List Byte) (time : Nat) : Event :=
  ⟨eventCode i, eventSeverity i, inst, (s.eventSeq + 1) % 2 ^ 32, time, s.key.epochAt time, slot, slice data 0 8⟩

/-- An event taken by neither mask: the SHADOW hears of its SEQ alone (20 R405). -/
def State.unheard (s : State) (e : Event) : State := (s.freeOrphan e).mirrorOn (.journal (.eventSeq e.seq))

/-- Takes the next SEQ and puts the event where its masks let it go, without writing any ring. A SHADOW raises none
(20 R405). -/
def State.raiseHeld (s : State) (i inst slot : Nat) (data : List Byte) : State :=
  let e := s.newEvent i inst slot data s.now
  if s.pair.role = .shadow then s.freeOrphan e
  else
    let s := { s with eventSeq := (s.eventSeq + 1) % 2 ^ 32 }
    if s.hostTakes i || s.mgmtTakes i then s.decide (.event e) (s.hostTakes i) (s.mgmtTakes i) else s.unheard e

/-- A full finding: FULL_SEEN and, once, QUEUE_FULL (03 R62). -/
def State.foundFull (s : State) (q : Nat) : State :=
  if bit (s.queue q).stat 4 then s
  else (s.setQueue q fun Q => { Q with stat := setBit Q.stat 4 }).raiseHeld Ev.QUEUE_FULL q 0xFF [BitVec.ofNat 8 q]

/-- A ring that still has entries waiting although it is enabled is full. -/
def State.checkFull (s : State) (q : Nat) (left : List Entry) : State :=
  if left.isEmpty || !s.queueOn q then s else s.foundFull q

/-- The held events, posted in SEQ order; EVENT_OVERFLOW is raised as soon as the holding has room again (03 R62). -/
def State.flushEvents (s : State) : State :=
  match findQueue fun q => s.queueType q = Ty.EVENT with
  | none => s
  | some q =>
    let (s, left) := drain q (s.hold.events.map .event) s
    let kept := left.filterMap fun (e : Entry) => match e with | .event v => some v | _ => none
    let s := { s with hold := { s.hold with events := kept } }
    let s := if s.hold.eventsDropped = 0 ∨ 256 ≤ kept.length then s
      else
        let n := s.hold.eventsDropped
        ({ s with hold := { s.hold with eventsDropped := 0 } }).raiseHeld Ev.EVENT_OVERFLOW 0xFF 0xFF (leBytes 4 n)
    s.checkFull q left

/-- The events, then what the full finding or the overflow itself added. -/
def State.flushEvents2 (s : State) : State := s.flushEvents.flushEvents

/-- The held completions: each goes to its queue when that is enabled and has room, and becomes an ORPHAN_COMPLETION
event when no COMPLETION queue is live (03 R58, R62, R66). -/
def flushCompletions : List Completion → State → State
  | [], s => s
  | c :: cs, s =>
    match s.completionQueue c.cq with
    | none => flushCompletions cs (s.raiseHeld Ev.ORPHAN_COMPLETION 0xFF 0xFF (c.bytes.take 8))
    | some q =>
      if s.queueOn q && !s.ringFull q then flushCompletions cs (s.writeRing q (.completion c))
      else flushCompletions cs
        ({ s with hold := { s.hold with completions := s.hold.completions ++ [c] } }.checkFull q [.completion c])

/-- The held data requests, each to its station's queue (03 R62). -/
def flushRequests : List DataRequest → State → State
  | [], s => s
  | d :: ds, s =>
    match s.queueFor (.request d) with
    | none => flushRequests ds { s with hold := { s.hold with requests := s.hold.requests ++ [d] } }
    | some q =>
      if s.queueOn q && !s.ringFull q then flushRequests ds (s.writeRing q (.request d))
      else flushRequests ds
        ({ s with hold := { s.hold with requests := s.hold.requests ++ [d] } }.checkFull q [.request d])

def flushRecords (s : State) : State :=
  match findQueue fun q => s.queueType q = Ty.SHEET_RECORD with
  | none => s
  | some q =>
    let (s, left) := drain q (s.hold.records.map Entry.record) s
    { s with hold := { s.hold with
      records := left.filterMap fun (e : Entry) => match e with | .record r => some r | _ => none } }.checkFull q left

def flushAudits (s : State) : State :=
  match findQueue fun q => s.queueType q = Ty.AUDIT with
  | none => s
  | some q =>
    let (s, left) := drain q (s.hold.audits.map Entry.audit) s
    { s with hold := { s.hold with
      audits := left.filterMap fun (e : Entry) => match e with | .audit a => some a | _ => none } }.checkFull q left

/-- A command's completion (03 R69). -/
def State.completionOf (s : State) (c : Cmd) (status result flags : Nat) : Completion :=
  ⟨c.p.tag, status, c.op, sqByte c.p.master c.p.sq, flags, result % 2 ^ 32, s.sqHead c.p.master c.p.sq,
    c.seq % 2 ^ 16, c.p.cq, c.p.master⟩

/-- FLAGS of a completion: TAKEOVER where the chip has become LEAD since the packet was accepted (03 R69). -/
def Cmd.flags (c : Cmd) : Nat := if c.taken then 2 else 0

/-- The record of number `n` is still to be posted (02 R50). -/
def State.recordWaits (s : State) (n : Nat) : Bool :=
  s.hold.records.any (fun r => r.seq = n) ||
    s.pairWork.awaiting.any fun (w : Waiting) => match w.entry with | .record r => r.seq = n | _ => false

/-- The cancels whose sheet's record has been posted complete (02 R36). -/
def finishCancels : List (Nat × Nat × Cmd) → State → State
  | [], s => s
  | x :: xs, s => finishCancels xs (s.decide (.completion (s.completionOf x.2.2 St.OK x.2.1 x.2.2.flags)) true false)

def flushCancels (s : State) : State :=
  let waits (x : Nat × Nat × Cmd) : Bool := !x.2.2.ours || s.recordWaits x.1
  finishCancels (s.hold.cancels.filter fun x => !waits x)
    { s with hold := { s.hold with cancels := s.hold.cancels.filter waits } }

/-- Everything held goes out as far as the rings take it (03 R58, R62, R497). A chip fenced by the Deadbolt posts nothing
(20 R414). -/
def State.flush (s : State) : State :=
  if s.pair.dboltIn then s
  else
    let s := flushCancels (flushRecords s)
    let s := flushCompletions s.hold.completions { s with hold := { s.hold with completions := [] } }
    let s := flushRequests s.hold.requests { s with hold := { s.hold with requests := [] } }
    (flushAudits s).flushEvents2

/-- An entry that may be posted now is placed, and goes out as far as its ring takes it. -/
def State.enqueue (s : State) (e : Entry) (host mgmt : Bool) : State := (s.place e host mgmt).flush

/-- The entries that a SHADOW leaves to the LEAD: records and data requests. -/
def Entry.leads : Entry → Bool
  | .record _ | .request _ => true
  | _ => false

/-- Posts an entry: at once, or once the pair lets it go (State.decide). A fenced chip posts nothing (20 R416); a SHADOW keeps
what is the LEAD's. -/
def State.deliver (s : State) (e : Entry) (host mgmt : Bool) : State :=
  if s.pair.dboltIn then s
  else if s.pair.role = .shadow ∧ e.leads = true then s.keep e
  else (s.decide e host mgmt).flush

/-- Raises the event of index `i` with the stamp `time` (03 R75, R76, R503). Only a chip that is not SHADOW raises events:
a SHADOW takes them from the mirror (20 R405). -/
def State.raiseAt (s : State) (i inst slot : Nat) (data : List Byte) (time : Nat) : State :=
  if s.pair.role = .shadow then s
  else
    let e := s.newEvent i inst slot data time
    let s := { s with eventSeq := (s.eventSeq + 1) % 2 ^ 32 }
    if s.hostTakes i || s.mgmtTakes i then s.deliver (.event e) (s.hostTakes i) (s.mgmtTakes i) else s.unheard e

def State.raise (s : State) (i inst slot : Nat) (data : List Byte) : State := s.raiseAt i inst slot data s.now

/-! Audit entries (22 R453). They are made in the journal, copied to the AUDIT queue at once, and held until they reach
flash; beyond 4,096 held they are dropped and counted (22 R454). -/

def State.audit (s : State) (kind master inst slot status : Nat) (old new : List Byte) (oldEpoch newEpoch : Half) :
    State :=
  let a : AuditEntry :=
    ⟨kind, master, inst, (s.nv.auditSeq + 1) % 2 ^ 32, s.now, oldEpoch, newEpoch, slot, status, slice old 0 16,
      slice new 0 16, s.nv.bootNo⟩
  if s.nv.held.length < 4096 then
    ({ s with nv := { s.nv with auditSeq := a.seq, held := s.nv.held ++ [a] } }).deliver (.audit a) true false
  else { s with nv := { s.nv with lost := s.nv.lost + 1 } }

/-! Completions (03 R69, R70). -/

/-- Completes a command with a status and a RESULT; FLAGS.TAKEOVER where the chip has become LEAD in the meantime. A SHADOW keeps
the completions of the LEAD's commands (20 R421). -/
def complete (c : Cmd) (status result : Nat) (s : State) : State :=
  let e := Entry.completion (s.completionOf c status result c.flags)
  if s.pair.role = .shadow ∧ c.ours = false then s.keep e else s.deliver e true false

/-- A command that goes on after its arbiter step: accepted and not yet completed (03 R70). -/
def State.start (s : State) (c : Cmd) : State := { s with running := s.running ++ [c] }

/-- Takes the accepted commands that `p` names out of `running`. -/
def State.drop (s : State) (p : Cmd → Bool) : State := { s with running := s.running.filter fun c => !p c }

/-- Completes every command of a list alike. -/
def completeAll (status : Cmd → Nat) (result : Cmd → Nat) : List Cmd → State → State
  | [], s => s
  | c :: cs, s => completeAll status result cs (complete c (status c) (result c) s)

/-- Completes the accepted commands that `p` names, in the order of their acceptance. -/
def finishWhere (p : Cmd → Bool) (status result : Cmd → Nat) (s : State) : State :=
  completeAll status result (s.running.filter p) (s.drop p)

/-- Completes the accepted command with arbiter sequence number `seq`. -/
def finish (seq status result : Nat) (s : State) : State :=
  finishWhere (fun c => c.seq = seq) (fun _ => status) (fun _ => result) s

/-- Changes what an accepted command remembers. -/
def State.noteCmd (s : State) (seq : Nat) (f : List Nat → List Nat) : State :=
  { s with running := s.running.map fun c => if c.seq = seq then { c with notes := f c.notes } else c }

/-! The trace (03 R78). -/

def State.traceOn (s : State) (source : Nat) : Bool := s.trace.running && bit s.trace.sources source

/-- One record in the trace area of 32,768 records (03 R78). -/
def State.record (s : State) (source inst : Nat) (data : List Byte) : State :=
  if s.traceOn source then
    let r : TraceRec := ⟨s.now % 2 ^ 48, source, inst, slice data 0 8⟩
    if s.trace.records.length < 32768 then { s with trace := { s.trace with records := s.trace.records ++ [r] } }
    else if s.trace.ringMode then { s with trace := { s.trace with records := s.trace.records.drop 1 ++ [r] } }
    else s
  else s

end Sys2Proof.Machine
end

