-- ==== Sys2Proof/Machine/Operands.lean ====
section
/-! DEFINITION. The operand forms of command packets: the bytes of PARAMS, the rules on TARGET and unnamed bytes
(03 R500), the packet's own layout (03 R64) and the arguments fetched from host memory (06 R499). -/

namespace Sys2Proof.Machine

/-- The little-endian field of `n` bytes at offset `o` of PARAMS. -/
def par (p : Packet) (o n : Nat) : Nat := fieldAt p.params o n

/-- The signed field of `n` bytes at offset `o` of PARAMS. -/
def parInt (p : Packet) (o n : Nat) : Int := signed (8 * n) (par p o n)

/-- Whether offset `i` lies in one of the named runs (offset, length). -/
def named (runs : List (Nat × Nat)) (i : Nat) : Bool := runs.any fun r => r.1 ≤ i && i < r.1 + r.2

/-- Every PARAMS byte outside the named runs is 0 (03 R500). -/
def onlyParams (p : Packet) (runs : List (Nat × Nat)) : Bool :=
  (List.range 48).all fun i => named runs i || p.params.getD i 0 = 0

/-- The rule names no use of TARGET (03 R500). -/
def noTarget (p : Packet) : Bool × Nat := (p.target ≠ 0xFFFF, St.BAD_TARGET)

/-- TARGET names one of `n` instances. -/
def targetBelow (p : Packet) (n : Nat) : Bool × Nat := (n ≤ p.target, St.BAD_TARGET)

/-- Every byte the rule does not name is 0 (03 R500). -/
def params (p : Packet) (runs : List (Nat × Nat)) : Bool × Nat := (!onlyParams p runs, St.BAD_PARAM)

/-- A check of PARAMS. -/
def badParam (bad : Bool) : Bool × Nat := (bad, St.BAD_PARAM)

/-- The command is accepted in the modes that `ok` names. -/
def inModes (s : State) (ok : Mode → Bool) : Bool × Nat := (!ok s.mode, St.WRONG_MODE)

/-- Refused while any halt cause is latched (05 R110). -/
def noHalt (s : State) : Bool × Nat := (s.modes.haltMask ≠ 0, St.HALT_LATCHED)

/-- Refused until INIT_MEMORY has completed OK (05 R115). -/
def needInit (s : State) : Bool × Nat := (!s.modes.memReady, St.NEED_INIT_MEMORY)

/-- The domain of the station that TARGET names is off, or going down (21 R437). -/
def stationOn (s : State) (p : Packet) : Bool × Nat :=
  (p.target < 5 && (!(s.station p.target).powered || (s.station p.target).pending.isSome), St.DOMAIN_OFF)

/-- The fetch of the command's arguments from host memory failed, or gave fewer than `n` bytes (06 R499). -/
def argsFailed (p : Packet) (n : Nat) : Bool × Nat :=
  (match p.args with | none => true | some b => b.length < n, St.BAD_PARAM)

/-- The bytes the device fetched for the command. -/
def argBytes (p : Packet) : List Byte := p.args.getD []

/-- A command's results written to host memory, ended with a flushing read (06 R127, R499). -/
def State.hostResult (s : State) (addr : Nat) (b : List Byte) : State := (s.out (.hostWrite addr b)).out .flushRead

/-- The status of a command that has written results: ABORTED_BUS where its access to host memory failed (06 R499). -/
def resultStatus (p : Packet) (host : Nat) : Nat := if host ≠ 0 ∧ p.args = none then St.ABORTED_BUS else St.OK

/-! The 64 bytes of a packet (03 R64). -/

def packetHead (op : Nat) (p : Packet) : List Byte :=
  leBytes 2 op ++ leBytes 2 p.tag ++ leBytes 2 p.epoch.toNat ++ leBytes 1 (if p.fence then 1 else 0) ++ leBytes 1 p.cq ++
    leBytes 2 p.target ++ leBytes 2 0 ++ slice p.params 0 48

/-- The packet as the sender lays it out, its CRC-32C last. -/
def encodePacket (op : Nat) (p : Packet) : List Byte :=
  packetHead op p ++ leBytes 4 (crc32c (packetHead op p)).toNat

/-- What the device reads from 64 bytes: the opcode and the packet. -/
def readPacket (master sq index : Nat) (raw : List Byte) (args : Option (List Byte)) (tick : Nat) : Nat × Packet :=
  (fieldAt raw 0 2,
    { master, sq, index, tag := fieldAt raw 2 2, epoch := BitVec.ofNat 16 (fieldAt raw 4 2), fence := bit (fieldAt raw 6 1) 0,
      cq := fieldAt raw 7 1, target := fieldAt raw 8 2, params := slice raw 0x0C 48, args, tick })

/-- Step 1 of the packet checks: the CRC-32C over bytes 0x00 to 0x3B (03 R64, R66). -/
def crcGood (raw : List Byte) : Bool := (crc32c (slice raw 0 60)).toNat = fieldAt raw 60 4

/-- Step 2 of the packet checks: TAG [15:10], FLAGS [7:1] and bytes 0x0A and 0x0B are 0 (03 R64, R66). -/
def mustBeZero (raw : List Byte) : Bool :=
  fieldAt raw 2 2 < 1024 && fieldAt raw 6 1 < 2 && fieldAt raw 0x0A 2 = 0

end Sys2Proof.Machine
end

