-- ==== Sys2Proof/Machine/Flags.lean ====
section
/-! DEFINITION. Flags: the latched halt mask (05 R109), the cause bits of sheets with their stamps (02 R44, R45), status
bits of queues and channels, and the audit entries of the key (22 R453). -/

namespace Sys2Proof.Machine

/-! Halt causes. -/

def State.latched (s : State) (cause : Nat) : Bool := s.modes.haltMask.getLsbD cause

/-- Latches a cause and raises HALT for it; a cause already latched is latched still (05 R107 step 1, R109). -/
def State.latch (s : State) (cause : Nat) : State :=
  if s.latched cause then s
  else
    let m := s.modes.haltMask ||| BitVec.ofNat 16 (2 ^ cause)
    let first := if s.modes.haltMask = 0 then cause else s.modes.haltFirst
    ({ s with modes := { s.modes with haltMask := m, haltFirst := first } }).raise Ev.HALT 0xFF 0xFF
      ([BitVec.ofNat 8 cause, 0] ++ leBytes 2 m.toNat)

/-! Cause bits of sheets. -/

/-- A cause entered with its stamp; causes accumulate and none is cleared (02 R45). The first stamp of a cause stands. -/
def Sheet.stamp (sh : Sheet) (cause time : Nat) : Sheet :=
  if sh.causes.any fun c => c.1 = cause then sh else { sh with causes := sh.causes ++ [(cause, time)] }

def Sheet.has (sh : Sheet) (cause : Nat) : Bool := sh.causes.any fun c => c.1 = cause

/-- FLAGS of a sheet (02 R44). -/
def Sheet.flags (sh : Sheet) : Nat := sh.causes.foldl (fun m c => setBit m c.1) 0

/-- The state code of SHT_SLOTs_STATE (24 R486). -/
def SheetState.code : SheetState → Nat
  | .accepted => 1 | .picked => 2 | .registered => 3 | .imaging => 4 | .finishing => 5 | .closing => 6

/-- Stamps a cause on the sheet in a slot; traced as source 1 (03 R78) and mirrored as a journal change (20 R405). -/
def State.stamp (s : State) (slot cause time : Nat) : State :=
  match s.sheet? slot with
  | none => s
  | some sh =>
    if sh.has cause then s
    else
      let s := s.setSheet slot fun sh => sh.stamp cause time
      let s := s.mirrorOn (.journal (.stamp slot cause))
      s.record 1 slot (leBytes 4 sh.id ++ leBytes 1 sh.state.code ++ leBytes 1 cause)

/-- The slots in a given condition, in rising order. -/
def State.slotsWhere (s : State) (p : Sheet → Bool) : List Nat :=
  (List.range 24).filter fun i => match s.sheet? i with | some sh => p sh | none => false

/-- Stamps a cause on every sheet that `p` names. -/
def stampAll (cause time : Nat) : List Nat → State → State
  | [], s => s
  | i :: is, s => stampAll cause time is (s.stamp i cause time)

/-- A slot changes state: traced as source 1, mirrored as a journal change. -/
def State.moveSheet (s : State) (slot : Nat) (st : SheetState) : State :=
  match s.sheet? slot with
  | none => s
  | some sh =>
    let s := s.setSheet slot fun sh => { sh with state := st }
    let s := s.mirrorOn (.journal (.state slot st.code))
    s.record 1 slot (leBytes 4 sh.id ++ leBytes 1 st.code ++ [0xFF])

/-! Status bits. -/

def num (b : Bool) : Nat := if b then 1 else 0

def State.setStat (s : State) (q i : Nat) : State := s.setQueue q fun Q => { Q with stat := setBit Q.stat i }

/-- The QUEUE_ERROR of a failed ring access: the STAT bit, ENABLE cleared, the event (03 R76, 06 R499). -/
def State.queueError (s : State) (q i : Nat) : State :=
  let s := (s.setStat q i).setImm (Fld.QUE_ENABLE q) 0
  s.raise Ev.QUEUE_ERROR q 0xFF [BitVec.ofNat 8 q, BitVec.ofNat 8 (s.queue q).stat]

/-! A write that is discarded (24 R479). -/

def State.refuse (s : State) : State := { s with refused := satAdd 0xFFFFFFFF s.refused 1 }

/-! The mode. -/

/-- Enters a mode and raises MODE_CHANGED; a SYNCED LEAD mirrors it (05 R104, 20 R405). -/
def State.enter (s : State) (m : Mode) : State :=
  if s.mode = m then s
  else
    let old := s.mode
    let s := { s with modes := { s.modes with mode := m } }
    let s := s.mirrorOn (.journal (.mode m.code))
    s.raise Ev.MODE_CHANGED 0xFF 0xFF [BitVec.ofNat 8 old.code, BitVec.ofNat 8 m.code]

/-! The audit entries of the key and of service access (22 R453): OLD and NEW hold the holder before and after. -/

def State.auditKey (s : State) (kind master oldHolder newHolder : Nat) (oldEpoch newEpoch : Half) : State :=
  s.audit kind master 0xFF 0xFF 0 [BitVec.ofNat 8 oldHolder] [BitVec.ofNat 8 newHolder] oldEpoch newEpoch

def State.auditService (s : State) (kind master status : Nat) : State :=
  s.audit kind master 0xFF 0xFF status [BitVec.ofNat 8 s.key.holder] [BitVec.ofNat 8 s.key.holder] s.key.epoch s.key.epoch

end Sys2Proof.Machine
end

