-- ==== Sys2Proof/Machine/KeyOps.lean ====
section
/-! DEFINITION. The key (04 R90-R99) as far as every arbiter step needs it: the lease, service access and what its end stops, the
changes of the key, claims and their window, and the lapses and grants that are due before an arbiter cycle. -/

namespace Sys2Proof.Machine

/-! The key (04 R90-R95), as far as every arbiter step needs it. -/

def State.lease (s : State) : Nat := ms (s.imm Fld.KEY_LEASE)

/-- Claims that lose complete with KEY_HELD (04 R92). -/
def refuseClaims : List Claim → State → State
  | [], s => s
  | k :: ks, s => refuseClaims ks (complete k.cmd St.KEY_HELD 0 s)

/-- An open claim window closes without a grant (04 R93). -/
def State.closeWindow (s : State) : State :=
  if s.key.windowOpen then
    refuseClaims s.key.claims
      { (s.drop fun c => s.key.claims.any fun k => k.cmd.seq = c.seq) with
        key := { s.key with windowOpen := false, claims := [] } }
  else s

/-- The holder's lease starts again (04 R94). -/
def State.renew (s : State) : State := { s with key := { s.key with renewed := s.now, lapsed := false } }.closeWindow

/-! The store that runs (22 R447). -/

def State.region (s : State) (r : Nat) : Region := s.nv.regions.getD r .reset
def State.setRegion (s : State) (r : Nat) (f : Region → Region) : State :=
  { s with nv := { s.nv with regions := s.nv.regions.modify r f } }

/-- The audit entry of a store (22 R453). -/
def State.auditStore (s : State) (c : Cmd) (kind r st old new : Nat) : State :=
  s.audit 9 c.p.master kind r st (leBytes 4 old) (leBytes 4 new) s.key.epoch s.key.epoch

/-- The store that runs ends; only one that ends OK has a valid region. -/
def State.endStore (s : State) (own status : Nat) : State :=
  match s.nv.storing, s.running.find? fun c => c.seq = s.nv.storeCmd with
  | some (kind, r), some c =>
    let s := { s with nv := { s.nv with storing := none } }
    let s := if own = St.OK then s.setRegion r fun g => { g with valid := true } else s
    finish c.seq status 0 (s.auditStore c kind r status (c.notes.getD 1 0) (c.notes.getD 0 0))
  | _, _ => { s with nv := { s.nv with storing := none } }

/-- A brownout warning or an NVSTORE reset stops the running store and leaves its region torn (22 R447). -/
def State.stopStore (s : State) (st : Nat) : State := if s.nv.storing.isSome then s.endStore st st else s

/-- f_vco lies in the live BAND entry, and the entry is VALID (10 R209). -/
def State.bandHolds (s : State) (n : Nat) : Bool :=
  let b := s.liv (Fld.STN_BAND n)
  let vco := 25 * s.liv (Fld.STN_N_FB n)
  let ref := s.liv (Fld.STN_REF_DIV n)
  s.on (Fld.STN_BAND_VALID n b) && s.imm (Fld.STN_BAND_LO n b) * ref ≤ vco && vco ≤ s.imm (Fld.STN_BAND_HI n b) * ref

/-- A lock sequence of an enabled PLL begins: BAND is selected and the control voltage preset to 0.6 V. With an entry that does not hold
the target it is not attempted, and counts as failed when RELOCK_MAX has passed (10 R209, R219). -/
def State.startLock (s : State) (n : Nat) : State :=
  let tries := s.bandHolds n
  s.setPll n fun p => { p with
    locked := false, started := s.now, trying := tries,
    bandLive := if tries then s.liv (Fld.STN_BAND n) else p.bandLive, vctl := if tries then 600 else p.vctl }

/-- Training starts from T0 on a powered station; SWING, PRE and the polarity bits are in force from then on (13 R275, R284). -/
def State.train (s : State) (n : Nat) : State :=
  s.setLink n fun l => { l with
    state := if (s.station n).powered then .t0 else .down, helloSeen := false, since := s.now, frame := none,
    txCfg := (s.reg (Reg.STN_LINK_CFG n)).toNat % 2 ^ 13 }

/-! The end of service access (04 R98, R99). -/

def serviceOps : List Nat := [Op.STORE_TRIM, Op.STORE_PLAN, Op.BAND_SURVEY, Op.HEAD_CAL, Op.LINK_LOOPBACK]

/-- What a station does for a SERVICE command stops: a survey leaves its PLL to lock again, a loopback its link to train. -/
def stopStationService : List Nat → State → State
  | [], s => s
  | n :: ns, s =>
    let s := if (s.pll n).survey then (s.setPll n fun p => { p with survey := false, enabled := true }).startLock n else s
    let s := if (s.pipe n).calMask ≠ 0 then s.setPipe n fun p => { p with calMask := 0, calSamples := [] } else s
    stopStationService ns (if (s.link n).state = .loopback then s.train n else s)

/-- A store of a SERVICE command stops on a chip that no longer completes it; its region is torn. -/
def State.tearStore (s : State) : State :=
  if s.running.any fun c => c.seq = s.nv.storeCmd && serviceOps.contains c.op then { s with nv := { s.nv with storing := none } }
  else s

/-- Service access ends on a chip that gives up its role: what runs for it stops, and its commands are the new LEAD's to complete
(04 R98, R99; 20 R424). -/
def State.yieldService (s : State) : State :=
  if s.key.service then stopStationService allStations { s with key := { s.key with service := false } }.tearStore else s

/-- Service access ends with a status for the SERVICE commands that still run; the mode stays. -/
def State.endService (st : Nat) (s : State) : State :=
  if s.key.service then
    let s := { s with key := { s.key with service := false } }
    let s := if s.running.any fun c => c.seq = s.nv.storeCmd && serviceOps.contains c.op then s.stopStore st else s
    finishWhere (fun c => serviceOps.contains c.op && c.ours) (fun _ => st) (fun _ => 0) (stopStationService allStations s)
  else s

/-! Changes of the key. -/

/-- The epoch after another: 0 only ever means that there has been no grant (04 R90). -/
def nextEpoch (e : Half) : Half := if e = 0xFFFF then 1 else e + 1

/-- A change of the key state that no packet makes takes an arbiter sequence number of its own (04 R87), and is traced as every
arbiter step is, without OPCODE and TAG (03 R78; log entry 28). `m` is the master concerned. -/
def State.ownStep (s : State) (m : Nat) : State :=
  let q := s.arbSeq
  ({ s with arbSeq := (q + 1) % 2 ^ 32 }).record 0 m (leBytes 2 0xFFFF ++ leBytes 2 q ++ leBytes 2 0xFFFF ++ leBytes 2 0)

/-- The key goes to master `m` with a new epoch: service access ends, a challenge is void, the lease starts (04 R90, R95, R98,
22 R452). `kind` and `about` are the audit entry's. -/
def State.passKey (m kind about : Nat) (s : State) : State :=
  let old := s.key
  let s := s.endService St.ABORTED_HOST
  let e := nextEpoch old.epoch
  let s := { s with
    key := { s.key with
      holder := m, epoch := e, renewed := s.now, lapsed := false, epochs := s.key.epochs ++ [(s.now, old.epoch)] },
    cred := { s.cred with live := false } }
  (s.auditKey kind about old.holder m old.epoch e).raise Ev.KEY_GRANTED 0xFF 0xFF
    ([BitVec.ofNat 8 m, 0] ++ leBytes 2 e.toNat)

/-- The key is released: free, the epoch unchanged (04 R95). -/
def State.releaseKey (about : Nat) (s : State) : State :=
  let old := s.key
  let s := s.endService St.ABORTED_HOST
  ({ s with key := { s.key with holder := 3, lapsed := false } }).auditKey Audit.KEY_RELEASE about old.holder 3 old.epoch old.epoch

/-- The lease lapses: the holder keeps the key, service access is dropped (04 R94). -/
def State.lapse (s : State) : State :=
  let k := s.key
  let s := ({ s.ownStep k.holder with key := { k with lapsed := true } }).endService St.ABORTED_HOST
  (s.auditKey Audit.KEY_LAPSE k.holder k.holder k.holder k.epoch k.epoch).raise Ev.KEY_LAPSED 0xFF 0xFF
    [BitVec.ofNat 8 k.holder]

/-! Claims (04 R91-R93). -/

/-- The claim that wins: the highest priority, the lower arbiter sequence number between equals. Claims stand in the order of
their numbers. -/
def bestClaim : List Claim → Option Claim
  | [] => none
  | k :: ks => match bestClaim ks with
    | none => some k
    | some b => if k.prio < b.prio then some b else some k

/-- The claims of the window are settled: the winner is granted the key, the others complete with KEY_HELD. -/
def State.settleClaims (s : State) : State :=
  let ks := s.key.claims
  let s := { (s.drop fun c => ks.any fun k => k.cmd.seq = c.seq) with key := { s.key with windowOpen := false, claims := [] } }
  match bestClaim ks with
  | none => s
  | some k =>
    let s := (s.ownStep k.master).passKey k.master Audit.KEY_GRANT k.master
    refuseClaims (ks.filter fun x => x.cmd.seq ≠ k.cmd.seq) (complete k.cmd St.OK s.key.epoch.toNat s)

/-! What is due before an arbiter cycle (04 R87). -/

/-- A claim window that ended before tick `t` is settled at its end (04 R92). -/
def State.settleDue (t : Nat) (s : State) : State :=
  if s.key.windowOpen ∧ s.key.windowEnds < t then (s.at s.key.windowEnds).settleClaims else s

/-- A lease that expires by tick `t` lapses (04 R94). -/
def State.lapseDue (t : Nat) (s : State) : State :=
  if s.key.holder ≠ 3 ∧ s.key.lapsed = false ∧ s.key.renewed + s.lease ≤ t then (s.at (s.key.renewed + s.lease)).lapse else s

/-- Grants and lapses that come before the packets of the arbiter cycle at tick `t`. -/
def State.keyDue (t : Nat) (s : State) : State := (s.settleDue t).lapseDue t

end Sys2Proof.Machine
end

