-- ==== Sys2Proof/Machine/Arbiter.lean ====
section
/-! DEFINITION. The arbiter step of a command packet (03 R63, R66, R67; 04 R85-R88): which packet is taken in an arbiter cycle, the
access check, and what is made of the packet. -/

namespace Sys2Proof.Machine

/-! The arbiter step of a command packet (03 R66 steps 6 to 8, 04 R86-R88). -/

/-- The access classes of opcodes (03 R71). -/
inductive Class where
  | observer | owner | service
  deriving DecidableEq, Repr

/-- The access check (04 R88), none when it passes. -/
def State.access (s : State) (cls : Class) (p : Packet) : Option Nat :=
  if cls = .observer then none
  else if s.key.holder ≠ p.master then some St.NOT_OWNER
  else if p.epoch ≠ s.key.epoch then some St.STALE_KEY
  else if cls = .service ∧ s.key.service = false then some St.NEED_SERVICE
  else none

/-- The first check that fails gives the status. -/
def firstFail : List (Bool × Nat) → Option Nat
  | [] => none
  | (bad, st) :: cs => if bad then some st else firstFail cs

/-- Two records of the same packet: what is known of its arguments and its time aside, which change while it waits. -/
def samePacket (a b : Nat × Packet) : Bool :=
  a.1 = b.1 && a.2.master = b.2.master && a.2.sq = b.2.sq && a.2.index = b.2.index && a.2.tag = b.2.tag

/-- The packets that wait for the arbiter and reached the device before `p`: all of them while `p` does not wait itself. -/
def State.earlier (s : State) (op : Nat) (p : Packet) : List (Nat × Packet) :=
  s.arrived.takeWhile fun x => !samePacket x (op, p)

/-- Whether a packet must wait: it carries FENCE and an earlier one of its queue is not completed, or a fenced one of its
queue is earlier and not completed (03 R67). Not completed are the packets that run, that wait for the arbiter, that a SHADOW
has relayed, and the cancels that wait for a record. -/
def State.fenced (s : State) (op : Nat) (p : Packet) : Bool :=
  let holds (q : Packet) : Bool := q.master = p.master && q.sq = p.sq && (p.fence || q.fence)
  (s.running.any fun c => holds c.p) || ((s.earlier op p).any fun x => holds x.2) || s.pairWork.relayed.any holds ||
    s.hold.cancels.any fun x => holds x.2.2.p

/-! The arbiter cycle (04 R86): at most one packet of each master, the host's before the management port's before the relay's;
among the host's, URGENT queues first, round-robin (03 R63). -/

/-- A packet of the host from an URGENT queue. -/
def State.urgent (s : State) (p : Packet) : Bool := p.master = 0 && s.livOn (Fld.QUE_URGENT p.sq)

/-- How soon a master's packet has its turn: the host's queues follow one another from the queue after the one last served. -/
def State.turn (s : State) (p : Packet) : Nat :=
  if p.master ≠ 0 then 0
  else if s.urgent p then (p.sq + 31 - s.arb.lastUrgent) % 32
  else 32 + (p.sq + 31 - s.arb.lastOther) % 32

/-- The tick of the cycle in which a packet is taken: its own, or the next where its master's turn in that cycle has gone. -/
def State.cycleOf (s : State) (p : Packet) : Nat :=
  let t := max s.now p.tick
  if s.arb.tick = t ∧ (s.arb.taken.any fun m => p.master ≤ m) = true then t + 1 else t

/-- The waiting packet `x` is taken before `p`: an earlier master's in the same cycle, or one of the same master whose turn comes
first. An URGENT queue that holds a packet keeps the other queues back even while FENCE holds that packet. -/
def State.precedes (s : State) (x : Nat × Packet) (op : Nat) (p : Packet) : Bool :=
  let free : Bool := !s.fenced x.1 x.2
  x.2.tick ≤ p.tick &&
    if x.2.master = p.master then
      (s.turn x.2 < s.turn p && (free || (s.urgent x.2 && !s.urgent p))) ||
        (free && s.turn x.2 = s.turn p && (s.earlier op p).any fun y => samePacket y x)
    else free && x.2.master < p.master && !(s.arb.tick = s.cycleOf p && s.arb.taken.any fun m => x.2.master ≤ m)

/-- The packet is the one that the arbiter takes next among those that wait. -/
def State.offered (s : State) (op : Nat) (p : Packet) : Bool :=
  s.arrived.all fun x => samePacket x (op, p) || !s.precedes x op p

/-- The packet taken from those that wait for the arbiter, in the cycle of this tick. -/
def State.take (s : State) (op : Nat) (p : Packet) : State :=
  { s with
    arrived := s.arrived.eraseP fun x => samePacket x (op, p),
    arb := {
      tick := s.now, taken := (if s.arb.tick = s.now then s.arb.taken else []) ++ [p.master],
      lastUrgent := if s.urgent p then p.sq else s.arb.lastUrgent,
      lastOther := if p.master = 0 ∧ s.urgent p = false then p.sq else s.arb.lastOther } }

/-- The packet goes on waiting, in its place. -/
def State.keepWaiting (s : State) (op : Nat) (p : Packet) : State :=
  if s.arrived.any fun x => samePacket x (op, p) then s else { s with arrived := s.arrived ++ [(op, p)] }

/-- The record of one arbiter step (03 R78 source 0), its mirror message in a pair (20 R405) and the next number. -/
def State.arbStep (s : State) (op : Nat) (p : Packet) (verdict : Nat) : State :=
  let q := s.arbSeq
  let s := { s with arbSeq := (q + 1) % 2 ^ 32 }
  let s := s.mirrorOn (.arb q op p verdict)
  s.record 0 p.master (leBytes 2 op ++ leBytes 2 q ++ leBytes 2 p.tag ++ leBytes 2 verdict)

/-- The state in which the arbiter judges packet `p`: at the tick of its cycle, after the key's changes that are due, the packet
taken from those that wait. -/
def State.arbitrated (s : State) (op : Nat) (p : Packet) : State :=
  ((s.keyDue (s.cycleOf p)).at (s.cycleOf p)).take op p

/-- The effect of a packet the arbiter has taken: the access check first, then the checks of steps 7 and 8 in their order,
then `run`. An OWNER or SERVICE command that passes the access check renews the lease (04 R94). A SHADOW relays or
refuses the owner commands of its own masters (04 R85), and follows the LEAD in those it has accepted (20 R405). -/
def judge (op : Nat) (cls : Class) (p : Packet) (checks : State → List (Bool × Nat)) (run : Cmd → State → State)
    (s : State) : State :=
  let c : Cmd := ⟨op, p, s.arbSeq, [], !s.pairWork.mirroring, false⟩
  if s.pairWork.mirroring then
    run c ((if cls = .observer then s else s.renew).arbStep op p 0)
  else if s.pair.role = .shadow ∧ cls ≠ .observer then
    if p.master = 1 ∧ s.on Fld.RELAY_EN = true then
      ({ s with pairWork := { s.pairWork with relayed := s.pairWork.relayed ++ [p] } }).mirror (.relayPacket p op)
    else complete c St.NOT_LEAD 0 (s.arbStep op p St.NOT_LEAD)
  else
    match s.access cls p with
    | some st => complete c st 0 (s.arbStep op p st)
    | none =>
      let s := if cls = .observer then s else s.renew
      match firstFail (checks s) with
      | some st => complete c st 0 (s.arbStep op p st)
      | none => run c (s.arbStep op p 0)

/-- A command packet at the arbiter. Before RUN the packet is kept (05 R113); a packet that FENCE holds back, that has not its turn
yet, or that reaches a LEAD which has stopped accepting for a planned exchange, goes on waiting (03 R67, 04 R86, 20 R424). -/
def command (op : Nat) (cls : Class) (p : Packet) (checks : State → List (Bool × Nat)) (run : Cmd → State → State)
    (s : State) : Result :=
  whileUp s fun s =>
    if s.pairWork.mirroring = false ∧
        (s.boot.phase < 5 ∨ s.fenced op p = true ∨ s.offered op p = false ∨ s.pairWork.switching = true) then
      s.keepWaiting op p
    else judge op cls p checks run (s.arbitrated op p)

end Sys2Proof.Machine
end

