-- ==== Sys2Proof/Machine/LoopOps.lean ====
section
/-! DEFINITION. The loop engine's shared operations (15): fixed-point scaling, the profile generator, destinations, and
one sample of a slot. References hold 32 fractional bits, states and outputs are Q1.31, coefficients Q2.30 (R315, R326). -/

namespace Sys2Proof.Machine

/-- Division with the remainder's sign of the divisor; a divisor of 0 leaves the result open (log entry 8). -/
def divOpen (a b : Int) : Int := if b = 0 then Config.divByZero a else a / b

/-- The nearest whole number to a / b, for positive b. -/
def nearest (a b : Int) : Int := divOpen (2 * a + b) (2 * b)

/-- The sign of a number. -/
def sgn (v : Int) : Int := if v < 0 then -1 else if 0 < v then 1 else 0

/-- A value limited to a range. -/
def clampInt (lo hi v : Int) : Int := if v < lo then lo else if hi < v then hi else v

/-- Saturation to 32 bits, and whether it took place (15 R315). -/
def sat32 (v : Int) : Int × Nat :=
  if v < -(2 ^ 31 : Int) then (-(2 ^ 31 : Int), 1) else if (2 ^ 31 - 1 : Int) < v then ((2 ^ 31 - 1 : Int), 1) else (v, 0)

/-- `v × 2^-k`, rounded to nearest. -/
def roundShift (v : Int) (k : Nat) : Int := if k = 0 then v else (v + 2 ^ (k - 1)) / 2 ^ k

/-! The live coefficient group of a slot (15 R319, R320). -/

def State.coef (s : State) (n i : Nat) : Int := (Store.get (fun _ => (0 : Word)) (s.loop n).coefLive i).toInt
def State.coefNat (s : State) (n i : Nat) : Nat := (Store.get (fun _ => (0 : Word)) (s.loop n).coefLive i).toNat

/-- M[row][col] (15 R320). -/
def State.matrixAt (s : State) (n row col : Nat) : Int := s.coef n (14 * row + col)

/-- KIND and INDEX of measured input `i`, in a given set of words (15 R316). -/
def inputSel (w01 w23 : Nat) (i : Nat) : Nat × Nat :=
  let w := if i < 2 then w01 else w23
  (bitsOf w (16 * (i % 2) + 12) 4, bitsOf w (16 * (i % 2)) 12)

/-- KIND and INDEX of output `k` (15 R317). -/
def outputSel (w : Nat) (k : Nat) : Nat × Nat := (bitsOf w (8 * k + 5) 3, bitsOf w (8 * k) 5)

def State.loopInput (s : State) (n i : Nat) : Nat × Nat :=
  inputSel (s.liveReg (Reg.LOOP_INSEL01 n)).toNat (s.liveReg (Reg.LOOP_INSEL23 n)).toNat i

def State.loopOutput (s : State) (n k : Nat) : Nat × Nat := outputSel (s.liveReg (Reg.LOOP_OUTSEL n)).toNat k

/-- Whether slot `n` is enabled and delivers to destination (kind, index). -/
def State.delivers (s : State) (n kind idx : Nat) : Bool :=
  s.livOn (Fld.LOOP_EN n) && (List.range (s.liv (Fld.LOOP_NY n))).any fun k => s.loopOutput n k = (kind, idx)

/-- The slot that delivers to a destination. -/
def State.slotFor (s : State) (kind idx : Nat) : Option Nat := (List.range 24).find? fun n => s.delivers n kind idx

/-- Whether a destination is switched on: a bridge, a zone's keep-alive, an HV enable (15 R323). -/
def State.destOn (s : State) (d : Nat × Nat) : Bool :=
  if d.1 = 1 then (s.drive d.2).bridge else if d.1 = 2 then (s.zone d.2).enabled
  else if d.1 = 3 then (s.hvCh d.2).en else true

/-- Whether every destination of a slot is switched on. -/
def State.destsOn (s : State) (n : Nat) : Bool :=
  (List.range (s.liv (Fld.LOOP_NY n))).all fun k => s.destOn (s.loopOutput n k)

/-- A value sent to a destination (15 R317). -/
def State.send (s : State) (d : Nat × Nat) (v : Int) : State :=
  if d.1 = 1 then s.setDrive d.2 fun D => { D with iqDemand := v }
  else if d.1 = 2 then s.setZone d.2 fun Z => { Z with p := v.toNat }
  else if d.1 = 3 then s.setHv d.2 fun H => if H.disabling then H else { H with t := v.toNat }
  else s

/-- 0 to each of the first `k` destinations of a slot. -/
def sendZero (n : Nat) : Nat → State → State
  | 0, s => s
  | k + 1, s => (sendZero n k s).send (s.loopOutput n k) 0

/-- A slot opens: with HOLD its destinations keep what was last delivered, without it each is sent 0 (15 R323). A takeover
of its reference ends (15 R329). -/
def State.openLoop (s : State) (n : Nat) (hold : Bool) : State :=
  if (s.loop n).state = .off then s
  else
    let s := if hold then s else sendZero n (s.liv (Fld.LOOP_NY n)) s
    s.setLoop n fun L => { L with state := .opened, take := .none, move := none, closeInit := none }

/-- A slot is to close at its next sample with the given INIT (15 R324). -/
def State.closeLoop (s : State) (n init : Nat) : State :=
  if (s.loop n).state = .off then s else s.setLoop n fun L => { L with closeInit := some init }

/-- The sampling period of a slot, in ticks (15 R318). -/
def State.samplePeriod (s : State) (n : Nat) : Nat :=
  if s.livOn (Fld.LOOP_SYNC n) then s.liv (Fld.LOOP_SAMPLE n) * s.liv (Fld.DRV_PERIOD (s.liv (Fld.LOOP_SYNC_DRV n)))
  else us (s.liv (Fld.LOOP_SAMPLE n))

/-! The profile generator (15 R326, R327). -/

def q32 (v : Int) : Int := v * 2 ^ 32

/-- `v` per second over `t` ticks. -/
def overTicks (v : Int) (t : Nat) : Int := v * t / 100000000

/-- r, r′ and r″ one sample later on a move toward `m`, and whether the move has arrived (15 R327). -/
def profileStep (m : SpeedMove) (t : Nat) (r r1 r2 : Int) : Int × Int × Int × Bool :=
  if m.estop then
    if r1 = 0 then (r, 0, 0, true)
    else
      let a := -(sgn r1) * q32 m.acc
      let n1 := r1 + overTicks a t
      if sgn n1 = sgn r1 then (r + overTicks (r1 + n1) t / 2, n1, a, false) else (r + overTicks r1 t / 2, 0, 0, true)
  else
    let vt := q32 (clampInt (-m.vmax) m.vmax m.target)
    let jt := overTicks (q32 m.jerk) t
    let jtt := overTicks jt t
    let halt := r1 + divOpen (r2 * (r2.natAbs : Int)) (2 * q32 m.jerk)
    if (r2.natAbs : Int) < jt ∧ ((vt - r1).natAbs : Int) ≤ jtt then (r + overTicks vt t, vt, 0, true)
    else
      let j := if halt < vt - jtt then jt else if vt + jtt < halt then -jt
        else if 0 < r2 then -jt else if r2 < 0 then jt else 0
      let n2 := clampInt (-(q32 m.acc)) (q32 m.acc) (r2 + j)
      (r + overTicks r1 t + overTicks (overTicks (2 * r2 + n2) t) t / 6, r1 + overTicks (r2 + n2) t / 2, n2, false)

/-- The reference of a slot one sample later, and whether a move has arrived (15 R326, R327, R329). -/
def State.stepRef (s : State) (n : Nat) : State × Bool :=
  let L := s.loop n
  let t := s.samplePeriod n
  let follow (ratio : Int) (k : Nat) (src : Loop) : State :=
    s.setLoop n fun L => { L with r := L.r + overTicks L.r1 t, r1 := ratio * src.r1 / 2 ^ k, r2 := ratio * src.r2 / 2 ^ k }
  match L.take, L.move with
  | .held, _ => (s.setLoop n fun L => { L with r := L.r + overTicks L.r1 t, r2 := 0 }, false)
  | .frozenRatio q, _ => (follow q 32 (s.loop ((s.slotFor 1 10).getD 24)), false)
  | _, some m =>
    let (r, r1, r2, done) := profileStep m t L.r L.r1 L.r2
    (s.setLoop n fun L => { L with r := r, r1 := r1, r2 := r2, move := if done then none else some m }, done)
  | _, none =>
    if s.liv (Fld.LOOP_REF_MODE n) = 2 then (follow (s.coef n 0xC8) 30 (s.loop (s.liv (Fld.LOOP_REF_SLOT n))), false)
    else (s.setLoop n fun L => { L with r := L.r + overTicks L.r1 t }, false)

/-! Inputs (15 R316). Raw values carry 32 fractional bits, so that KIND 2 keeps the fraction of r. -/

def State.rawInput (s : State) (n : Nat) (sel : Nat × Nat) : Int :=
  match sel.1 with
  | 1 => q32 (s.drive sel.2).speed
  | 2 => q32 (s.encoder sel.2).count - (s.loop n).r
  | 3 => q32 (s.afeChan sel.2).value
  | 4 => q32 (s.therm sel.2).temp
  | 5 => q32 ((s.loop (sel.2 / 4)).u.getD (sel.2 % 4) 0)
  | 6 => q32 (s.drive sel.2).iq
  | 7 => q32 s.bus.vbus
  | _ => 0

/-- `raw × MANT × 2^(SHIFT − 30)`, rounded to nearest and saturated to Q1.31. -/
def scaleQ (raw mant : Int) (shift : Nat) : Int := (sat32 (roundShift (raw * mant * 2 ^ shift) 62)).1

def State.inShift (s : State) (n i : Nat) : Nat := bitsOf (s.coefNat n 0xAE) (5 * i) 5

/-- The input vector v: m0 to m3 at 8 to 11, r′ and r″ at 12 and 13 (15 R313). A FENCED slot computes from what the LEAD
sent for this sample (20 R409). -/
def State.loopVector (s : State) (n : Nat) : List Int :=
  match (s.loop n).state, (s.loop n).loopin with
  | .fenced, some (ms, a, b) => ((List.range 4).map fun i => (ms.getD i 0).toInt) ++ [a.toInt, b.toInt]
  | _, _ => ((List.range 4).map fun i =>
      if i < s.liv (Fld.LOOP_NM n) then scaleQ (s.rawInput n (s.loopInput n i)) (s.coef n (0xA8 + i)) (s.inShift n i) else 0) ++
    [scaleQ (s.loop n).r1 (s.coef n 0xAC) (s.inShift n 4), scaleQ (s.loop n).r2 (s.coef n 0xAD) (s.inShift n 5)]

/-! One computation (15 R314, R315). -/

/-- One term of `acc`: the product rounded and saturated, then the saturated addition, counting saturations. -/
def accTerm (a : Int × Nat) (m v : Int) : Int × Nat :=
  let p := sat32 (roundShift (m * v) 30)
  let t := sat32 (a.1 + p.1)
  (t.1, a.2 + p.2 + t.2)

/-- acc(row) over the columns in use, in rising number. -/
def State.acc (s : State) (n row : Nat) (v : List Int) : Int × Nat :=
  let nx := s.liv (Fld.LOOP_NX n)
  let a := (List.range nx).foldl (fun a c => accTerm a (s.matrixAt n row c) ((s.loop n).x.getD c 0)) (0, 0)
  let a := (List.range (s.liv (Fld.LOOP_NM n))).foldl (fun a i => accTerm a (s.matrixAt n row (8 + i)) (v.getD i 0)) a
  accTerm (accTerm a (s.matrixAt n row 12) (v.getD 4 0)) (s.matrixAt n row 13) (v.getD 5 0)

/-- The direction in which a destination cut the slot's last demand (15 R314); only drives report cuts (14 R287, R296). -/
def State.cutOf (s : State) (d : Nat × Nat) : Int := if d.1 = 1 then (s.drive d.2).cut else 0

/-- An output of the slot: its value after the clamp, its saturation and the saturations inside acc. -/
def State.loopOut (s : State) (n k : Nat) (v : List Int) : Int × Int × Nat :=
  let y := s.acc n (8 + k) v
  let lo := s.coef n (0xB8 + 2 * k)
  let hi := s.coef n (0xB9 + 2 * k)
  let sat := if hi < y.1 then 1 else if y.1 < lo then -1 else 0
  let cut := s.cutOf (s.loopOutput n k)
  (clampInt lo hi y.1, if cut ≠ 0 then cut else sat, y.2)

/-- A state of the slot one sample later: its value, whether it was held, and the saturations inside acc. -/
def State.loopNext (s : State) (n i : Nat) (v sat : List Int) : Int × Bool × Nat :=
  let xn := s.acc n i v
  let x := (s.loop n).x.getD i 0
  if bit (s.liv (Fld.LOOP_INT_EN n)) i then
    let d := sat.getD (bitsOf (s.liv (Fld.LOOP_INT_OUT n)) (2 * i) 2) 0
    let d := if bit (s.liv (Fld.LOOP_INT_POL n)) i then -d else d
    if (0 < d ∧ x < xn.1) ∨ (d < 0 ∧ xn.1 < x) then (x, true, xn.2) else (xn.1, false, xn.2)
  else (xn.1, false, xn.2)

/-- What output `k` delivers (15 R317). -/
def State.scaleOut (s : State) (n k : Nat) (u : Int) : Int :=
  roundShift (u * s.coef n (0xB0 + k) * 2 ^ bitsOf (s.coefNat n 0xB4) (5 * k) 5) 61

/-- Delivers the first `k` outputs. -/
def deliverOutputs (n : Nat) (u : List Int) : Nat → State → State
  | 0, s => s
  | k + 1, s =>
    let s := deliverOutputs n u k s
    s.send (s.loopOutput n k) (s.scaleOut n k (u.getD k 0))

/-- CTRL cycles of a slot (15 R318). -/
def State.loopCycles (s : State) (n : Nat) : Nat :=
  let nx := s.liv (Fld.LOOP_NX n)
  16 + ((nx + s.liv (Fld.LOOP_NY n)) * (nx + s.liv (Fld.LOOP_NM n) + 2) + 1) / 2

/-- Whether a slot samples at this tick with slot `n` (15 R318): the same PWM instant, or a multiple of SAMPLE. -/
def State.dueWith (s : State) (n m : Nat) : Bool :=
  ((s.loop m).state = .closed || (s.loop m).state = .fenced) &&
  (if s.livOn (Fld.LOOP_SYNC n) then
    s.livOn (Fld.LOOP_SYNC m) && s.liv (Fld.LOOP_SYNC_DRV m) = s.liv (Fld.LOOP_SYNC_DRV n)
   else !s.livOn (Fld.LOOP_SYNC m) && s.now % us (s.liv (Fld.LOOP_SAMPLE m)) = 0)

/-- The latency of the slot's delivery, in 2.5 ns: 0.1 µs and the cycles of every lower-numbered slot due (15 R318). -/
def State.loopLatency (s : State) (n : Nat) : Nat :=
  40 + s.loopCycles n + ((List.range n).map fun m => if s.dueWith n m then s.loopCycles m else 0).sum

/-- The signal that the oscillation detector watches (15 R325). -/
def State.oscSignal (s : State) (n : Nat) (v : List Int) : Int :=
  let src := s.imm (Fld.LOOP_OSC_SRC n)
  if src < 4 then v.getD src 0 else if src < 12 then (s.loop n).x.getD (src - 4) 0 else (s.loop n).u.getD (src - 12) 0

/-- The detector's step: its sign, the reversals that still count, and whether it fires (15 R325). -/
def State.oscStep (s : State) (n : Nat) (v : List Int) : Int × List Nat × Bool :=
  let L := s.loop n
  let amp : Int := s.imm (Fld.LOOP_OSC_AMP n) * 2 ^ 16
  let x := s.oscSignal n v
  let sign := if amp ≤ x then 1 else if x ≤ -amp then -1 else L.oscSign
  let revs := (L.reversals ++ if L.oscSign ≠ 0 ∧ sign ≠ L.oscSign then [L.samples] else []).filter fun k =>
    L.samples < k + s.imm (Fld.LOOP_OSC_WIN n)
  let c := s.imm (Fld.LOOP_OSC_COUNT n)
  if 0 < c ∧ c ≤ revs.length then (sign, [], true) else (sign, revs, false)

/-- The computation of a CLOSED or FENCED slot: its new outputs and states, what saturated, and the detector's verdict. -/
def State.computeLoop (s : State) (n : Nat) : State × Bool :=
  let v := s.loopVector n
  let outs := (List.range (s.liv (Fld.LOOP_NY n))).map fun k => s.loopOut n k v
  let sat := outs.map fun o => o.2.1
  let nexts := (List.range (s.liv (Fld.LOOP_NX n))).map fun i => s.loopNext n i v sat
  let cnt := (outs.map fun o => o.2.2).sum + (nexts.map fun x => x.2.2).sum
  let froz := (List.range nexts.length).foldl (fun m i => if (nexts.getD i (0, false, 0)).2.1 then setBit m i else m) 0
  let s := s.setLoop n fun L => { L with
    u := slice4 (outs.map fun o => o.1), sat := slice4 sat, frozen := froz,
    x := (nexts.map fun x => x.1) ++ L.x.drop nexts.length,
    satCount := satAdd 0xFFFF L.satCount (if sat.any (· ≠ 0) then 1 else 0),
    accSat := satAdd 0xFF L.accSat cnt, samples := L.samples + 1, loopin := none,
    rin := v.getD 4 0 }
  let o := s.oscStep n v
  let s := s.setLoop n fun L => { L with
    oscSign := o.1, reversals := o.2.1, oscSeen := L.oscSeen || o.2.2,
    oscCount := satAdd 0xFF L.oscCount (if o.2.2 then 1 else 0) }
  ({ s with loopWorst := max s.loopWorst (min 0xFFFF (s.loopLatency n)) }, o.2.2)
where
  /-- A list of four, padded with 0. -/
  slice4 (l : List Int) : List Int := (l ++ List.replicate 4 0).take 4

/-- The states a slot closes with (15 R324). -/
def State.initStates (s : State) (n init : Nat) : List Int :=
  if init = 0 then List.replicate 8 0
  else if init = 1 then (s.loop n).x
  else (List.range 8).map fun i => s.coef n (0xC0 + i)

/-- A move of the reference of slot `n` (15 R327). -/
def State.refMove (s : State) (n : Nat) (m : SpeedMove) : State := s.setLoop n fun L => { L with move := some m }

/-- The move of slot `n` on its own limits (15 R327). -/
def State.profileMove (s : State) (n : Nat) (target : Int) : SpeedMove :=
  ⟨target, s.imm (Fld.LOOP_V_MAX n), s.imm (Fld.LOOP_A n), s.imm (Fld.LOOP_J n), false, false⟩

end Sys2Proof.Machine
end

