-- ==== Sys2Proof/Machine/DriveOps.lean ====
section
/-! DEFINITION. The three-phase drives' shared operations (14): bridges, starts, moves, trips without their safe-stop, and
the chopper. Speeds are in 1/16 rpm, currents in 10 mA. -/

namespace Sys2Proof.Machine

/-- The state code of DRVn_STAT (14 R312). -/
def DriveState.code : DriveState → Nat
  | .off => 0 | .listen => 1 | .start => 2 | .run => 3 | .fallback => 4 | .fluxBrake => 5 | .tripped => 6

/-- A drive that runs: RUN, FALLBACK or FLUX_BRAKE (14 R302). -/
def Drive.running (d : Drive) : Bool := d.state = .run || d.state = .fallback || d.state = .fluxBrake

/-- The motion commands of 03 R72, which a safe-stop completes with ABORTED_STOP (05 R107). -/
def motionOps : List Nat :=
  [Op.DRIVE_START, Op.DRIVE_SPEED, Op.DRIVE_BRAKE, Op.MOVE, Op.GROUP_MOVE, Op.HOME, Op.STOP, Op.EMERGENCY_STOP]

/-- The commands on drive `d` with an opcode in `ops`. STOP and EMERGENCY_STOP name a drive by PARAMS byte 0x00 = 2 (14 R304). -/
def driveCmd (ops : List Nat) (d : Nat) (c : Cmd) : Bool :=
  ops.contains c.op && c.p.target = d &&
    (c.op ≠ Op.STOP && c.op ≠ Op.EMERGENCY_STOP || par c.p 0 1 = 2)

def driveStarts : List Nat := [Op.DRIVE_START, Op.DRIVE_SPEED, Op.DRIVE_BRAKE, Op.STOP, Op.EMERGENCY_STOP]

/-- The bridge goes off and the motor coasts; a tripped drive stays tripped (14 R288, 05 R107). -/
def State.bridgeOff (s : State) (d : Nat) : State :=
  s.setDrive d fun D => { D with
    state := if D.state = .tripped then .tripped else .off, bridge := false, pending := false, fwActive := false,
    aligning := false, waiting := false, iqDemand := 0, cut := 0, move := none, restSince := none,
    offAt := if D.bridge then s.now else D.offAt }

def bridgesOff : List Nat → State → State
  | [], s => s
  | d :: ds, s => bridgesOff ds (s.bridgeOff d)

/-- A move starts from the present speed (14 R303): the reference of a slot whose targets are in rpm takes the drive's. -/
def State.rateFrom (s : State) (n d : Nat) : State :=
  if (List.range (s.liv (Fld.LOOP_NM n))).any fun i => (s.loopInput n i).1 = 2 then s
  else s.setLoop n fun L => { L with r1 := (s.drive d).speed * 2 ^ 28, r2 := 0 }

/-- A drive whose EN has become 0: its bridge is off, and a start under way ends (14 R285). The manual gives no status for a DRIVE_START so
ended; the model gives ABORTED_HOST (DESIGN CHOICE, log entry 50). -/
def State.disableDrive (s : State) (d : Nat) : State :=
  let D := s.drive d
  if s.livOn (Fld.DRV_EN d) || ((D.state = .off || D.state = .tripped) && !D.pending) then s
  else (finishWhere (driveCmd driveStarts d) (fun _ => St.ABORTED_HOST) (fun _ => 0) s).bridgeOff d

/-- Six-step or field-oriented control under the slot: RUN, the slot closing at its next sample (14 R298, 15 R322). -/
def State.driveRun (s : State) (d kind : Nat) : State :=
  let s := s.setDrive d fun D => { D with
    state := .run, bridge := s.livOn (Fld.DRV_EN d), aligning := false, waiting := false, pending := false, iqDemand := 0, catchKind := kind,
    stats := { D.stats with
      normal := satAdd 0xFFFF D.stats.normal (if kind = 0 then 1 else 0),
      caught := satAdd 0xFFFF D.stats.caught (if kind = 0 then 0 else 1) } }
  match s.slotFor 1 d with
  | none => s
  | some n => (s.rateFrom n d).closeLoop n 0

/-- The ramp to a target, under limits latched now (14 R303): it runs in the drive's slot. -/
def State.driveMove (s : State) (d : Nat) (m : SpeedMove) : State :=
  let s := s.setDrive d fun D => { D with move := some m, target := m.target }
  match s.slotFor 1 d with
  | none => s
  | some n => s.refMove n m

/-- The limits of an ordinary speed change: DRVn_RAMP and MAX_RPM (14 R303, 15 R327). -/
def State.rampMove (s : State) (d : Nat) (target : Int) : SpeedMove :=
  ⟨target, s.liv (Fld.DRV_MAX_RPM d), s.imm (Fld.DRV_ACC d), 100 * s.imm (Fld.DRV_JERK d), false, false⟩

/-- The limits of a STOP (14 R304). -/
def State.stopMove (s : State) (d : Nat) : SpeedMove :=
  ⟨0, s.liv (Fld.DRV_MAX_RPM d), s.imm (Fld.DRV_STOP_DEC d), 100 * s.imm (Fld.DRV_STOP_JERK d), true, false⟩

/-- The limits of an EMERGENCY_STOP (14 R304). -/
def State.estopMove (s : State) (d : Nat) : SpeedMove :=
  ⟨0, s.liv (Fld.DRV_MAX_RPM d), s.imm (Fld.DRV_ESTOP_DEC d), 0, true, true⟩

/-- A drive begins to listen with its bridge off (14 R298). -/
def State.listen (s : State) (d : Nat) (target : Int) (revAction : Nat) : State :=
  s.setDrive d fun D => { D with
    state := .listen, bridge := false, pending := false, target := target, revAction := revAction, attempts := 0,
    aligning := false, waiting := false, plausible := 0, zcTimes := [], since := s.now, offAt := if D.bridge then s.now else D.offAt }

/-- Alignment of a normal start (14 R301). -/
def State.align (s : State) (d : Nat) : State :=
  s.setDrive d fun D => { D with
    state := .start, bridge := s.livOn (Fld.DRV_EN d), aligning := true, waiting := false, plausible := 0, catchKind := 0,
    since := s.now }

/-- The frequency that a normal start steps at, in rpm per 100,000,000: up from 0 at ACC since its alignment (14 R301). -/
def State.stepped (s : State) (d : Nat) : Nat := s.imm (Fld.DRV_ACC d) * (s.now - (s.drive d).since)

/-- A drive flux-brakes (14 R306). -/
def State.fluxBrake (s : State) (d : Nat) : State :=
  s.setDrive d fun D => { D with state := .fluxBrake, bridge := s.livOn (Fld.DRV_EN d), fwActive := false, restSince := none }

/-- A trip without the safe-stop it causes: the bridge off, the code kept, the statistics, the event (14 R288, 24 R486). A
capture with ON_TRIP stops 32 samples later. -/
def State.tripDrive (s : State) (d code : Nat) : State :=
  let D := s.drive d
  let s := s.bridgeOff d
  let s := s.setDrive d fun E => { E with
    state := .tripped, code := code,
    stats := { E.stats with
      trips := E.stats.trips.modify (code - 1) fun v => satAdd 0xFF v 1,
      snapVbus := s.bus.vbus, snapCode := code, snapRpm := D.speed / 64,
      capLeft := if E.stats.capRun ∧ s.on (Fld.DRV_ON_TRIP d) = true ∧ E.stats.capLeft = none then some 32
        else E.stats.capLeft } }
  s.raise Ev.DRIVE_SYNC_LOST d 0xFF [BitVec.ofNat 8 d, BitVec.ofNat 8 code]

/-- Completes what runs on a tripped drive (03 R74). -/
def State.abortDrive (s : State) (d status : Nat) : State :=
  finishWhere (driveCmd driveStarts d) (fun _ => status) (fun _ => 0) s

/-- The slot of a drive follows sweeps or another slot by its REF_MODE (15 R326). -/
def State.slaved (s : State) (d : Nat) : Bool :=
  match s.slotFor 1 d with
  | some n => s.liv (Fld.LOOP_REF_MODE n) ≠ 0
  | none => false

/-- A DRIVE_START in progress on a drive completes OK, with the kind of start and the speed found (14 R298), and the ramp to
the target begins. A slaved drive started by WARMING takes its reference as configured (05 R116). -/
def State.driveStarted (s : State) (d kind : Nat) : State :=
  let s := (s.driveRun d kind)
  let s := if s.slaved d ∧ s.running.any (driveCmd [Op.DRIVE_START] d) = false then s
    else s.driveMove d (s.rampMove d (s.drive d).target)
  finishWhere (driveCmd [Op.DRIVE_START] d) (fun _ => St.OK)
    (fun c => kind + 65536 * unsigned 16 (c.notes.getD 0 0)) s

/-! Slaving of drums, belt and roller (01 R24, R25; 15 R329). -/

/-- The slot of a drive follows its configured reference again. -/
def State.slave (s : State) (d : Nat) : State :=
  match s.slotFor 1 d with
  | none => s
  | some n => s.setLoop n fun L => { L with take := .none, move := none }

/-- The slot of a drive holds its present rate (15 R329). -/
def State.holdRef (s : State) (d : Nat) : State :=
  match s.slotFor 1 d with
  | none => s
  | some n => s.setLoop n fun L => { L with take := .held, move := none, r2 := 0 }

/-- The belt's reference moves to 0 on D10's STOP limits (15 R329). -/
def State.beltStop (s : State) : State :=
  match s.slotFor 1 10 with
  | none => s
  | some n => (s.setLoop n fun L => { L with take := .beltStop }).refMove n (s.stopMove 10)

/-- A drum or the roller follows the belt at the ratio of this sample (15 R329). -/
def State.followBelt (s : State) (d : Nat) : State :=
  match s.slotFor 1 d, s.slotFor 1 10 with
  | some n, some b =>
    s.setLoop n fun L => { L with take := .frozenRatio (divOpen (L.r1 * 2 ^ 32) (s.loop b).r1), move := none }
  | _, _ => s

/-- Drums, belt and roller start to rest, the set-point of each kept for the test of rest (05 R107 steps 4 and 5). -/
def slaveStops : List Nat → State → State
  | [], s => s
  | d :: ds, s =>
    let s := s.setDrive d fun D => { D with target := D.speed / 16, restSince := none }
    slaveStops ds (if d = 10 then s else s.followBelt d)

/-- D5 to D11 brought to rest on the belt's STOP limits; the ratios are frozen before the belt's reference moves. -/
def State.mechanicsStop (s : State) : State := (slaveStops [5, 6, 7, 8, 9, 10, 11] s).beltStop

/-- A drive at rest: below 1 % of its last set-point, or its bridge off (05 R107). -/
def Drive.atRest (d : Drive) : Bool :=
  !d.bridge || d.speed = 0 || 100 * d.speed.natAbs < 16 * d.target.natAbs

/-- The speed is within 0.5 % of the target (14 R303). -/
def Drive.arrived (d : Drive) (target : Int) : Bool := 200 * (d.speed - 16 * target).natAbs ≤ 16 * target.natAbs

/-! The chopper (14 R308). -/

/-- NO_REGEN is set: FLUX_BRAKING is raised once, with the VBUS (14 R308). -/
def State.setNoRegen (s : State) : State :=
  if s.bus.noRegen then s
  else ({ s with bus := { s.bus with noRegen := true } }).raise Ev.FLUX_BRAKING 0xFF 0xFF (leBytes 2 s.bus.vbus)

/-- NO_REGEN as the link, CHOPPER and OV1 leave it (14 R308). OV1 is in 0.25 V, VBUS in 25 mV. -/
def State.judgeRegen (s : State) : State :=
  if !s.bus.linkUp || (s.bus.chopper = 1 && 10 * s.imm Fld.OV1 ≤ s.bus.vbus) then s.setNoRegen
  else if s.bus.chopper = 0 then { s with bus := { s.bus with noRegen := false } }
  else s

/-- The chopper is found faulty (14 R308). -/
def State.chopperFault (s : State) (kind : Nat) : State :=
  if s.bus.chopper = kind then s
  else (({ s with bus := { s.bus with chopper := kind } }).raise Ev.CHOPPER_FAULT 0xFF 0xFF
    (leBytes 2 s.bus.vbus ++ [BitVec.ofNat 8 kind])).judgeRegen

end Sys2Proof.Machine
end

