-- ==== Sys2Proof/Machine/AxisOps.lean ====
section
/-! DEFINITION. The stepper axes' shared operations (16): S-curve plans, queues, stops, groups, homing and encoders.
Positions are microsteps of 1/256 full step; path speeds and limits are in path units and seconds. -/

namespace Sys2Proof.Machine

/-- The integer square root by bisection on bits. -/
def isqrtBits : Nat → Nat → Nat → Nat
  | 0, _, r => r
  | b + 1, v, r => let t := r + 2 ^ b; isqrtBits b v (if t * t ≤ v then t else r)

def isqrt (v : Nat) : Nat := isqrtBits 64 v 0

/-! The S-curve (16, "The S-curve"). Times in ticks of 10 ns. -/

/-- Half of what a change spends at jerk: the length of its first part, and of its middle part. -/
def jerkParts (acc jerk dv : Nat) : Nat × Nat :=
  if acc * acc ≤ dv * jerk then
    let tj := (divOpen (acc * 100000000) jerk).toNat
    (tj, (divOpen (dv * 100000000) acc).toNat - tj)
  else (isqrt (divOpen (dv * 10000000000000000) jerk).toNat, 0)

/-- The length of a change of speed by `dv`. -/
def changeTime (acc jerk dv : Nat) : Nat := 2 * (jerkParts acc jerk dv).1 + (jerkParts acc jerk dv).2

/-- dist(v_a, v_b) = (v_a + v_b) / 2 × T. -/
def dist (acc jerk : Nat) (va vb : Int) : Int :=
  (va + vb) * changeTime acc jerk (vb - va).natAbs / 200000000

/-- The largest v in [lo, hi] that a test accepts, by bisection to 1. -/
def bisect (ok : Nat → Bool) : Nat → Nat → Nat → Nat
  | 0, lo, _ => lo
  | f + 1, lo, hi =>
    if hi ≤ lo then lo
    else
      let m := (lo + hi + 1) / 2
      if ok m then bisect ok f m hi else bisect ok f lo (m - 1)

/-- The plan of a position move of length `d` from speed `v0` ≥ 0, and whether it cannot stop in time (16 R337, R338). -/
def planLength (v acc jerk v0 d : Nat) : List (Int × Int × Nat) × Bool :=
  let ok (w : Nat) : Bool := dist acc jerk v0 w + dist acc jerk w 0 ≤ (d : Int)
  let lo := min v0 v
  if ok lo then
    let vp := bisect ok 64 lo v
    let rest := (d : Int) - dist acc jerk v0 vp - dist acc jerk vp 0
    let cruise := (divOpen (rest * 100000000) vp).toNat
    ([((v0 : Int), (vp : Int), changeTime acc jerk (Int.natAbs (vp - v0))), (vp, vp, if vp = 0 then 0 else cruise),
      (vp, 0, changeTime acc jerk vp)], false)
  else ([((v0 : Int), 0, changeTime acc jerk v0)], true)

/-- The plan of a position move by `D` from held velocity `v0`: an opposing velocity is stopped first (16 R337). The speeds
are along `D`. -/
def planMove (v acc jerk : Nat) (v0 D : Int) : List (Int × Int × Nat) × Bool :=
  let along := v0 * sgn D
  if along < 0 then
    let back := dist acc jerk along 0
    let p := planLength v acc jerk 0 (D.natAbs + back.natAbs)
    ((along, 0, changeTime acc jerk along.natAbs) :: p.1, p.2)
  else planLength v acc jerk along.toNat D.natAbs

/-- How far a change from `va` to `vb` has come after `t` ticks, and its speed then. -/
def changeAt (acc jerk : Nat) (va vb : Int) (total t : Nat) : Int × Int :=
  let s := sgn (vb - va)
  let tj := (jerkParts acc jerk (vb - va).natAbs).1
  let j (x : Nat) : Int := s * jerk * (x * x : Nat) / 20000000000000000
  let k (x : Nat) : Int := s * jerk * (x * x * x : Nat) / 6000000000000000000000000
  if t ≤ tj then (va * t / 100000000 + k t, va + j t)
  else if total ≤ t + tj then
    let u := total - t
    (dist acc jerk va vb - (vb * u / 100000000 - k u), vb - j u)
  else
    let m := t - tj
    (va * t / 100000000 + k tj + j tj * m / 100000000 + s * acc * (m * m : Nat) / 20000000000000000,
      va + j tj + s * acc * m / 100000000)

/-- How far a plan has come after `t` ticks, and its speed then. -/
def planAt (acc jerk : Nat) : List (Int × Int × Nat) → Nat → Int × Int
  | [], _ => (0, 0)
  | (va, vb, n) :: l, t =>
    if t < n then (if va = vb then (va * t / 100000000, va) else changeAt acc jerk va vb n t)
    else
      let full := if va = vb then va * n / 100000000 else dist acc jerk va vb
      match l with
      | [] => (full, vb)
      | _ => let r := planAt acc jerk l (t - n); (full + r.1, r.2)

def planTime (l : List (Int × Int × Nat)) : Nat := (l.map fun x => x.2.2).sum

/-- The length a whole plan covers. -/
def planDist (acc jerk : Nat) (l : List (Int × Int × Nat)) : Int := (planAt acc jerk l (planTime l)).1

/-! The position of an axis (16 R332). -/

/-- The displacement and velocity of a move `t` ticks after its start. -/
def AxisMove.at (m : AxisMove) (t : Nat) : Int × Int :=
  let r := planAt m.acc m.jerk m.segs t
  (divOpen (m.value * r.1) m.path, divOpen (m.value * r.2) m.path)

/-- Position and velocity of an axis at a tick. -/
def Axis.posAt (a : Axis) (t : Nat) : Int × Int :=
  match a.cur with
  | some m => let r := m.at (t - a.anchor); (a.pos + r.1, r.2)
  | none => (a.pos + a.vel * (t - a.anchor : Nat) / 100000000, a.vel)

def State.axisPos (s : State) (n : Nat) : Int := ((s.axis n).posAt s.now).1
def State.axisVel (s : State) (n : Nat) : Int := ((s.axis n).posAt s.now).2

/-- An axis taken at its present position and velocity, its move ended. -/
def State.freezeAxis (s : State) (n : Nat) : State :=
  let p := (s.axis n).posAt s.now
  s.setAxis n fun a => { a with pos := p.1, vel := p.2, anchor := s.now, cur := none }

/-- At rest: no move and no velocity. -/
def Axis.atRest (a : Axis) : Bool := a.cur = none && a.vel = 0

/-! The state code of AXSn_STAT (16 R356). -/

def AxisState.code : AxisState → Nat
  | .off => 0 | .hold => 1 | .move => 2 | .velocity => 3 | .stopping => 4 | .stalled => 5

/-! Starting a move. -/

/-- The state after a move of the axis has ended without another following. -/
def State.holdAxis (s : State) (n : Nat) : State :=
  s.setAxis n fun a => { a with state := if a.vel = 0 then .hold else .velocity, energised := true }

/-- Whether a peak speed exceeds 64 microsteps in a PWM period (16 R336). -/
def State.overPeak (s : State) (n : Nat) (v : Nat) : Bool := 6400000000 < v * s.liv (Fld.AXS_PERIOD n)

/-- A move begins on a plan; its displacement and path are set with it. -/
def State.beginMove (s : State) (n : Nat) (m : AxisMove) (st : AxisState) : State :=
  s.setAxis n fun a => { a with state := st, cur := some m, anchor := s.now, energised := true }

/-- The displacement a move asks for, from where the axis stands. -/
def State.moveBy (s : State) (n : Nat) (m : AxisMove) : Int :=
  match m.kind with
  | .absolute | .path | .homing => m.value - s.axisPos n
  | _ => m.value

/-- A stand-alone move starts under the limits of its axis, latched now, or is turned away by its peak (16 R336): the state
and whether it started. Group members start with their group. -/
def State.startMove (s : State) (n : Nat) (m : AxisMove) : State × Bool :=
  let s := s.freezeAxis n
  let v := s.imm (Fld.AXS_VMAX n)
  let acc := 16 * s.imm (Fld.AXS_ACC n)
  let jerk := 256 * s.imm (Fld.AXS_JERK n)
  let v0 := (s.axis n).vel
  match m.kind with
  | .velocity | .search =>
    if s.overPeak n m.value.natAbs then (s, false)
    else
      let segs := [(v0, m.value, changeTime acc jerk (m.value - v0).natAbs)]
      (s.beginMove n { m with
        value := 1, path := 1, acc := acc, jerk := jerk, segs := segs,
        offset := if m.kind = .search then m.offset else m.value } .move, true)
  | _ =>
    if s.overPeak n v then (s, false)
    else
      let d := s.moveBy n m
      if d = 0 ∧ v0 = 0 then
        (s.beginMove n { m with value := 0, path := 1, acc := acc, jerk := jerk, segs := [] } .move, true)
      else
        let p := planMove v acc jerk v0 d
        let s := s.setAxis n fun a => { a with shortSeen := a.shortSeen || p.2 }
        (s.beginMove n { m with
          value := if p.2 then sgn d else d, path := if p.2 then 1 else d.natAbs, acc := acc,
          jerk := jerk, segs := p.1 } .move, true)

/-- A command's move is over: it completes with a status and RESULT. -/
def State.moveOver (s : State) (m : AxisMove) (status result : Nat) : State :=
  match m.cmd with
  | none => s
  | some q => finish q status result s

/-- The next queued move of an axis starts, unless it is a group's; one turned away completes with BAD_PARAM and the one
behind it follows (16 R334, R336). -/
def startQueued : List AxisMove → Nat → State → State
  | [], n, s => (s.setAxis n fun a => { a with queue := [] }).holdAxis n
  | m :: ms, n, s =>
    match m.kind with
    | .member _ => (s.setAxis n fun a => { a with queue := m :: ms }).holdAxis n
    | _ =>
      let r := s.startMove n m
      if r.2 then r.1.setAxis n fun a => { a with queue := ms }
      else startQueued ms n (r.1.moveOver m St.BAD_PARAM 0)

/-- A move placed in an axis queue: it starts at once on an axis that has none (16 R334). -/
def State.enqueueMove (s : State) (n : Nat) (m : AxisMove) : State :=
  let a := s.axis n
  if a.cur = none ∧ a.queue = [] then startQueued [m] n s
  else s.setAxis n fun a => { a with queue := a.queue ++ [m] }

/-- Four moves may wait (16 R334). -/
def Axis.queueFull (a : Axis) : Bool := 4 ≤ a.queue.length

/-! Groups (16 R339). -/

/-- The members of a live group, in rising axis number. -/
def State.members (s : State) (g : Nat) : List Nat :=
  (List.range 24).filter fun n => s.livOn (Fld.AXS_EN n) && s.liv (Fld.AXS_GROUP n) = g

/-- A distance of a member in nanometres: microsteps over SCALE, Q16.16 microsteps per mm. -/
def State.memberNm (s : State) (n : Nat) (d : Int) : Int := divOpen (d * 65536 * 1000000) (s.liv (Fld.AXS_SCALE n))

/-- Moves that a stop takes out: the running one and every queued one complete with ABORTED_STOP (16 R340). A group's move
leaves every member. -/
def dropMoves : List AxisMove → Nat → State → State
  | [], _, s => s
  | m :: ms, status, s => dropMoves ms status (s.moveOver m status 0)

/-- Takes a group's queued or running move out of every member. -/
def dropMember (g : Nat) : List Nat → State → State
  | [], s => s
  | n :: ns, s => dropMember g ns (s.setAxis n fun a => { a with queue := a.queue.filter fun m => m.kind ≠ .member g })

/-- Every queued move of an axis completes with ABORTED_STOP, its group moves leaving the other members too. -/
def State.clearQueue (s : State) (n : Nat) : State :=
  let q := (s.axis n).queue
  let s := s.setAxis n fun a => { a with queue := [] }
  let s := q.foldl (fun s m => match m.kind with | .member g => dropMember g (s.members g) s | _ => s) s
  dropMoves q St.ABORTED_STOP s

/-- The limits of a stop of an axis: microsteps/s² and microsteps/s³ (16 R340). -/
def State.stopLimits (s : State) (n : Nat) : Nat × Nat :=
  (1024 * s.imm (Fld.AXS_STOP_DEC n), 65536 * s.imm (Fld.AXS_STOP_JERK n))

/-- A change to rest from the present velocity under given limits. -/
def State.stopFrom (s : State) (n : Nat) (lim : Nat × Nat) (m : AxisMove) : State :=
  let s := s.freezeAxis n
  let v := (s.axis n).vel
  s.beginMove n { m with
    kind := .stop, value := 1, path := 1, acc := lim.1, jerk := lim.2,
    segs := [(v, 0, changeTime lim.1 lim.2 v.natAbs)] } .stopping

/-- A move that serves nothing. -/
def AxisMove.bare : AxisMove := ⟨.stop, 0, none, 0, 0, 0, 0, 0, 1, []⟩

/-- A STOP of an axis on its STOP limits: running and queued moves complete with ABORTED_STOP (16 R340). -/
def State.stopAxis (s : State) (n : Nat) : State :=
  let a := s.axis n
  let s := s.clearQueue n
  match a.cur with
  | none => if a.vel = 0 then s else s.stopFrom n (s.stopLimits n) .bare
  | some m => if m.kind = .stop ∧ m.cmd = none then s else (s.stopFrom n (s.stopLimits n) .bare).moveOver m St.ABORTED_STOP 0

/-- An axis de-energised at once (16 R341, R345). -/
def State.deEnergise (s : State) (n : Nat) (st : AxisState) : State :=
  (s.freezeAxis n).setAxis n fun a => { a with
    state := st, vel := 0, queue := [], energised := false, homed := false, latched := none, current := 0, dutyA := 0, dutyB := 0,
    nextA := 0, nextB := 0, sumA := 0, sumB := 0, emfAlong := 0, emfAcross := 0, stall1 := none,
    stall2 := none, offAt := if a.energised then s.now else a.offAt }

def stopAxes : List Nat → State → State
  | [], s => s
  | n :: ns, s => stopAxes ns (s.stopAxis n)

/-- An axis bridge switched off at the end of a safe-stop (05 R107 step 5). -/
def axesOff : List Nat → State → State
  | [], s => s
  | n :: ns, s =>
    axesOff ns (if (s.axis n).state = .off ∨ (s.axis n).state = .stalled then s
      else (s.freezeAxis n).setAxis n fun a => { a with
        state := .off, vel := 0, energised := false, offAt := if a.energised then s.now else a.offAt })

/-! Triggers of an encoder's position (16 R347). -/

/-- A count moved by `d`, with the high-water mark and the excursion behind it. -/
def Encoder.step (e : Encoder) (d : Int) (slack : Nat) : Encoder :=
  let c := e.count + d
  if e.high < c then { e with count := c, high := c }
  else
    let f := max e.fall (e.high - c)
    if c = e.high then
      { e with count := c, fall := 0, raised := false,
               smallBacks := if 0 < f ∧ f ≤ slack then satAdd 0xFFFF e.smallBacks 1 else e.smallBacks }
    else { e with count := c, fall := f }

end Sys2Proof.Machine
end

