-- ==== Sys2Proof/Machine/CurrentLoop.lean ====
section
/-! DEFINITION. The current loops of a drive (14 R286, R287, R296): transforms, d and q loops with decoupling, the modulation limit, and the
duties of the bridge. The manual gives gains, units and the limit; the form of the loops is the usual one (log entry 50). -/

namespace Sys2Proof.Machine

/-! Angles in 1/65,536 turn, sines with 64 fractional bits (log entry 40). -/

def trigOne : Int := 2 ^ 64

/-- π. -/
def trigPi : Int := 57952155664616982739

/-- The sum 1 − x²/2! + x⁴/4! − … of `n` terms: `t` is the present term. -/
def cosSum (x2 : Int) : Nat → Nat → Int → Int
  | 0, _, _ => 0
  | n + 1, k, t => t + cosSum x2 n (k + 1) (-(t * x2 / trigOne / ((2 * k + 1) * (2 * k + 2) : Nat)))

def cosOf (angle : Nat) : Int :=
  let a : Int := signed 16 (angle % 65536)
  let x := a * trigPi / 32768
  cosSum (x * x / trigOne) 20 0 trigOne

def sinOf (angle : Nat) : Int := cosOf (angle + 49152)

/-- The angles of the three phases behind an electrical angle; DIR reverses the phase order (14 R312). -/
def phaseAngles (dir : Bool) (angle : Nat) : List Nat :=
  if dir then [angle, angle + 21845, angle + 43691] else [angle, angle + 43691, angle + 21845]

/-- The d and q parts of three phase samples. -/
def toDq (dir : Bool) (i : DriveInput) (angle : Nat) : Int × Int :=
  let x := [i.ia, i.ib, i.ic].zip (phaseAngles dir angle)
  (nearest (2 * (x.map fun p => p.1 * cosOf p.2).sum) (3 * trigOne), nearest (-(2 * (x.map fun p => p.1 * sinOf p.2).sum)) (3 * trigOne))

/-- The phase voltages of d and q parts. -/
def fromDq (dir : Bool) (d q : Int) (angle : Nat) : List Int :=
  (phaseAngles dir angle).map fun a => nearest (d * cosOf a - q * sinOf a) trigOne

/-! Voltages in mV: LS in µH, KE in mV line to line at 1,000 rpm, currents in 10 mA, speeds in 1/16 rpm. √3 is 1351/780. -/

/-- ω · LS · i. -/
def State.reactance (s : State) (d : Nat) (speed i : Int) : Int :=
  nearest (speed * (if s.liv (Fld.DRV_POLES d) = 0 then 16 else s.liv (Fld.DRV_POLES d) : Nat) * s.liv (Fld.DRV_LS d) * i * 355)
    (16 * 113 * 30 * 100000)

/-- The phase's back-EMF. -/
def State.backEmf (s : State) (d : Nat) (speed : Int) : Int := nearest (s.liv (Fld.DRV_KE d) * speed * 780) (16 * 1000 * 1351)

/-- A voltage vector is within 0.95 × VBUS / √3 (14 R287). VBUS is in 25 mV. -/
def State.modulates (s : State) (vd vq : Int) : Bool := 1200 * (vd * vd + vq * vq) ≤ ((475 * s.bus.vbus) ^ 2 : Nat)

/-- The steady voltages of a demand fit (14 R296). -/
def State.demandFits (s : State) (d : Nat) (speed id iq : Int) : Bool :=
  let rs := s.liv (Fld.DRV_RS d)
  s.modulates (nearest (rs * id) 100 - s.reactance d speed iq) (nearest (rs * iq) 100 + s.reactance d speed id + s.backEmf d speed)

/-- The least size of a negative id from `k` on that makes a demand fit, within `fuel` tries. -/
def State.leastFit (s : State) (d : Nat) (speed iq : Int) : Nat → Nat → Option Nat
  | 0, _ => none
  | fuel + 1, k => if s.demandFits d speed (-(k : Int)) iq then some k else s.leastFit d speed iq fuel (k + 1)

/-- A voltage vector brought within the limit. -/
def State.limitVolts (s : State) (vd vq : Int) : Int × Int :=
  if s.modulates vd vq then (vd, vq)
  else
    let size : Int := isqrt (1200 * (vd * vd + vq * vq)).toNat
    (divOpen (vd * (475 * s.bus.vbus : Nat)) size, divOpen (vq * (475 * s.bus.vbus : Nat)) size)

/-- The on-times of the three phases in 10 ns, the pulses centred in the period and the vector shifted to the middle of the bus. -/
def State.svmDuties (s : State) (d : Nat) (vd vq : Int) (angle : Nat) : List Nat :=
  let p : Int := s.liv (Fld.DRV_PERIOD d)
  let v := fromDq (s.livOn (Fld.DRV_DIR d)) vd vq angle
  let mid := (v.foldl max (v.headD 0) + v.foldl min (v.headD 0)) / 2
  v.map fun x => (clampInt 0 p (nearest (p * (25 * s.bus.vbus + 2 * (x - mid))) (2 * 25 * s.bus.vbus))).toNat

/-- The upper and the lower switch of each phase with DEAD at every edge: their on-times in 10 ns. -/
def State.legTimes (s : State) (d : Nat) : List (Nat × Nat) :=
  let dead := s.liv (Fld.DRV_DEAD d)
  (s.drive d).duties.map fun t => (t - dead, s.liv (Fld.DRV_PERIOD d) - t - dead)

/-- One run of the d and q loops. With the bridge off, or in six-step FALLBACK, they stand still. The integrators hold while the limit cuts
the voltage. -/
def State.currentLoops (s : State) (d angle : Nat) : State :=
  let D := s.drive d
  if !D.bridge || D.state = .fallback then
    s.setDrive d fun D => { D with vd := 0, vq := 0, sumD := 0, sumQ := 0, duties := [], nextDuty := [] }
  else
    let kp := s.liv (Fld.DRV_KP d)
    let ki : Int := s.liv (Fld.DRV_KI d) * s.liv (Fld.DRV_PERIOD d)
    let ed := D.idCmd - D.id
    let eq := D.iqCmd - D.iq
    let sumD := D.sumD + ki * ed
    let sumQ := D.sumQ + ki * eq
    let vd := nearest (100000 * kp * ed + sumD) 10000000 - s.reactance d D.speed D.iq
    let vq := nearest (100000 * kp * eq + sumQ) 10000000 + s.reactance d D.speed D.id + s.backEmf d D.speed
    let fits := s.modulates vd vq
    let v := s.limitVolts vd vq
    s.setDrive d fun D => { D with
      vd := v.1, vq := v.2, sumD := if fits then sumD else D.sumD, sumQ := if fits then sumQ else D.sumQ,
      nextDuty := s.svmDuties d v.1 v.2 angle,
      stats := { D.stats with vd := nearest v.1 10, vq := nearest v.2 10 } }

end Sys2Proof.Machine
end

