-- ==== Sys2Proof/Machine/PowerOps.lean ====
section
/-! DEFINITION. Shared operations of the high-voltage channels and heater zones (17): ramps, enables, settling, set-points
in force, and their protection. -/

namespace Sys2Proof.Machine

/-! High voltage. -/

/-- T at a tick: along the ramp under its latched rate, in units per ms (17 R357, R359). -/
def Hv.targetAt (h : Hv) (now : Nat) : Nat :=
  match h.ramp with
  | none => h.t
  | some (toward, rate) =>
    let d := rate * (now - h.rampAt) / 100000
    if h.t ≤ toward then min toward (h.t + d) else max toward (h.t - d)

/-- A ramp from the present T under a given rate (17 R359). -/
def State.rampAt (s : State) (n toward rate : Nat) : State :=
  s.setHv n fun h => { h with
    t := h.targetAt s.now, ramp := some (toward, rate), lastRate := rate, rampAt := s.now, settled := false, rampEnd := none,
    inSince := none }

/-- A ramp under RAMP, latched now. -/
def State.rampTo (s : State) (n toward : Nat) : State := s.rampAt n toward (s.imm (Fld.HV_RAMP n))

/-- HVENn goes low at once: T and the duty are 0 (17 R360, R369). -/
def State.hvOff (s : State) (n : Nat) : State :=
  s.setHv n fun h => { h with
    en := false, t := 0, ramp := none, disabling := false, settled := false, corr := 0, duty := 0, arcPause := false,
    rampEnd := none, inSince := none, offAt := if h.en then s.now else h.offAt }

def hvOffAll : List Nat → State → State
  | [], s => s
  | n :: ns, s => hvOffAll ns (s.hvOff n)

/-- HVENn rises with T = 0 and ramps to its set-point; a channel already enabled ramps from its present T (17 R360). -/
def State.hvOn (s : State) (n : Nat) : State :=
  let s := if (s.hvCh n).en then s
    else s.setHv n fun h => { h with en := true, t := 0, ramp := none, corr := 0, duty := 0, arcPause := false, arcTimes := [] }
  (s.setHv n fun h => { h with disabling := false }).rampTo n (s.imm (Fld.HV_SET n))

def hvOnAll : List Nat → State → State
  | [], s => s
  | n :: ns, s => hvOnAll ns (s.hvOn n)

/-- T is ramped to 0 and then HVENn falls (17 R360). -/
def State.hvDown (s : State) (n : Nat) : State :=
  if (s.hvCh n).en then (s.setHv n fun h => { h with disabling := true }).rampTo n 0 else s

def hvDownAll : List Nat → State → State
  | [], s => s
  | n :: ns, s => hvDownAll ns (s.hvDown n)

/-- The channels of a mask. -/
def maskList (m n : Nat) : List Nat := (List.range n).filter fun i => bit m i

/-- HV_ENABLE with ON clear completes when every named enable is low; with ON, when every named channel has settled
(17 R360). -/
def State.hvEnableDone (s : State) (c : Cmd) : Bool :=
  c.op = Op.HV_ENABLE &&
    (if bit (par c.p 3 1) 0 then (maskList (par c.p 0 3) 24).all fun n => (s.hvCh n).settled
     else (maskList (par c.p 0 3) 24).all fun n => !(s.hvCh n).en)

/-- HV commands that are now done. -/
def State.finishHv (s : State) : State := finishWhere s.hvEnableDone (fun _ => St.OK) (fun _ => 0) s

/-- Whether a running command waits on channel `n` to settle. -/
def waitsOnHv (n : Nat) (c : Cmd) : Bool :=
  (c.op = Op.HV_SET && c.p.target = n) || (c.op = Op.HV_ENABLE && bit (par c.p 3 1) 0 && bit (par c.p 0 3) n)

/-- FAULT of a channel: the commands that wait on it complete with SUPPLY_FAULT (17 R361, R362). The safe-stop is the
caller's. -/
def State.hvFault (s : State) (n : Nat) : State :=
  finishWhere (waitsOnHv n) (fun _ => St.SUPPLY_FAULT) (fun _ => 0) (s.setHv n fun h => { h with fault := true })

/-- Whether a monitor lies within TOL/256 of T (17 R361). -/
def State.hvWithin (s : State) (n : Nat) : Bool :=
  let h := s.hvCh n
  let t := h.targetAt s.now
  256 * Int.natAbs ((h.mon : Int) - t) ≤ s.imm (Fld.HV_TOL n) * t

/-- Gates that keep every HV and keep-alive output off: interlock, over-temperature, the Deadbolt, and the lost link
(17 R369, R370; 01 R10). -/
def State.gated (s : State) : Bool :=
  s.safety.interlock || s.safety.overtemp || s.pair.dboltIn || !s.bus.linkUp

/-! The brake-chopper gate (01 R9, R10; 14 R308; 23 R476). VBUS and the thresholds are in 25 mV, those of SYS_BUS_CFG in 0.25 V. -/

/-- BRK is not driven: the kill lines of the interlock and of the Deadbolt reach the gate (01 R9), a SHADOW holds BRK high-impedance
(20 R404, R414), and in DORMANT no output is driven. -/
def State.brkHeld (s : State) : Bool :=
  s.safety.interlock || s.pair.dboltIn || s.pair.role == .shadow || s.mode == .dormant

/-- The companion die's comparator: on from `hi`, off at `lo` (14 R308). -/
def comparator (hi lo : Nat) (gate : Bool) (vbus : Nat) : Bool := hi ≤ vbus || (gate && lo < vbus)

def State.setGate (s : State) (on : Bool) (vbus : Nat) : State :=
  if on = s.bus.gate then s else { s with bus := { s.bus with gate := on, gateAt := s.now, gateV := vbus } }

/-- The thresholds in force: CHOP_ON and CHOP_OFF, or the companion die's copy while the telemetry link is down (14 R308). -/
def State.gateLimits (s : State) : Nat × Nat :=
  if s.bus.linkUp then (10 * s.imm Fld.CHOP_ON, 10 * s.imm Fld.CHOP_OFF) else (s.bus.copyOn, s.bus.copyOff)

/-- The gate follows VBUS, unless it is held. -/
def State.chopperGate (s : State) (vbus : Nat) : State :=
  s.setGate (!s.brkHeld && comparator s.gateLimits.1 s.gateLimits.2 s.bus.gate vbus) vbus

/-- A cause that holds BRK takes the gate off at once. -/
def State.holdBrk (s : State) : State := if s.brkHeld then s.setGate false s.bus.vbus else s

/-- The gate in reset with the supply on: the comparator at 52.0 V and 50.0 V where PAIR_PRESENT is low, high-impedance where it is
high (23 R476); the interlock's and the Deadbolt's kill lines reach it there too (01 R9). -/
def State.resetGate (s : State) (vbus : Nat) : Bool :=
  s.supply.on && !s.boot.present && !s.safety.interlock && !s.pair.dboltIn && comparator 2080 2000 s.bus.gate vbus

/-! Heater zones. -/

/-- KAn stops: the zone no longer fires (17 R366, R369). -/
def State.zoneOff (s : State) (z : Nat) : State :=
  s.setZone z fun Z => { Z with enabled := false, firing := false, p := 0, highFrom := none }

def zonesOff : List Nat → State → State
  | [], s => s
  | z :: zs, s => zonesOff zs (s.zoneOff z)

/-- The set-point in force, in 0.01 °C: the run set-point but in STANDBY (17 R366). -/
def State.setPoint (s : State) (z : Nat) : Int :=
  if s.mode = .standby ∨ s.mode = .dormant then s.immInt (Fld.FZ_STBY z) else s.immInt (Fld.FZ_RUN z)

/-- The zone's slot moves to the set-point in force; a standby set-point of 0 stops KAn (17 R366). -/
def State.moveZone (s : State) (z : Nat) : State :=
  let n := s.imm (Fld.FZ_SLOT z)
  if s.mode = .standby ∧ s.setPoint z = 0 then s.zoneOff z
  else s.refMove n (s.profileMove n (s.setPoint z))

/-- Enabled zones move to the set-point in force at each entry to STANDBY or WARMING (17 R366). -/
def moveZones : List Nat → State → State
  | [], s => s
  | z :: zs, s => moveZones zs (if (s.zone z).enabled then s.moveZone z else s)

/-- A zone is enabled: its slot closes with INIT 0 and moves to the set-point in force (17 R366). -/
def State.zoneOn (s : State) (z : Nat) : State :=
  let s := s.setZone z fun Z => { Z with enabled := true, accum := 0, highFrom := none }
  (s.closeLoop (s.imm (Fld.FZ_SLOT z)) 0).moveZone z

def zonesOn : List Nat → State → State
  | [], s => s
  | z :: zs, s => zonesOn zs (s.zoneOn z)

/-- FAULT of a zone: KAn stops (17 R368). The safe-stop is the caller's. -/
def State.zoneFault (s : State) (z : Nat) : State := (s.zoneOff z).setZone z fun Z => { Z with fault := true }

/-- P in force: the slot's delivery while it is CLOSED, else 0 (17 R364); over an AFE reset the last P holds (17 R370). -/
def State.zoneP (s : State) (z : Nat) : Nat :=
  if bit s.resets.busy Fn.AFE ∨ (s.loop (s.imm (Fld.FZ_SLOT z))).state = .closed then (s.zone z).p else 0

/-- A half-cycle that fires toggles KAn at KA_KHZ from ZC_DELAY behind the crossing to 100 µs before the predicted next one (17 R364). -/
def State.fireZone (s : State) (z : Nat) : State :=
  let half := if s.safety.zcLost then ms 10 else us s.safety.halfUs
  s.out (.keepAlive z (s.now + us (10 * s.imm (Fld.FZ_ZC_DELAY z))) (s.now + half - us 100) (s.imm (Fld.FZ_KA_KHZ z)))

/-- One crossing for a zone: the accumulator and whether the coming half-cycle fires (17 R364). -/
def State.crossZone (s : State) (z : Nat) : State :=
  let p := s.zoneP z
  let a := (s.zone z).accum + p
  if (s.zone z).enabled && !s.gated then
    let s := if 1024 ≤ a then s.fireZone z else s
    s.setZone z fun Z => { Z with
      accum := if 1024 ≤ a then a - 1024 else a, firing := 1024 ≤ a,
      highFrom := if p < 1000 then none
        else Z.highFrom <|> some (s.now, (s.therm (s.imm (Fld.FZ_CFG_TH z))).temp) }
  else s.setZone z fun Z => { Z with firing := false, highFrom := none }

def crossZones : List Nat → State → State
  | [], s => s
  | z :: zs, s => crossZones zs (s.crossZone z)

end Sys2Proof.Machine
end

