-- ==== Sys2Proof/Machine/PlanOps.lean ====
section
/-! DEFINITION. Station geometry and interlace plans: pixel clock and sweep period, offsets, window capacity (08 R164, 09
R190, 10 R205), the plan image and its checks, first and last sweeps, alternates (11). -/

namespace Sys2Proof.Machine

/-- BD_WIN; 0 acts as 1 (09 R204). -/
def State.bdWin (s : State) (n : Nat) : Nat := max 1 (s.imm (Fld.STN_BD_WIN n))

/-! The pixel clock (10 R205). f_pix is `pixUp / pixDown` dots in a tick of 10 ns. -/

def Station.pixUp (st : Station) (nfb : Nat) : Nat := nfb * (2 ^ 24 + st.pll.base + st.pll.magLive).toNat
def pixDown (ref div : Nat) : Nat := 4 * ref * div * 2 ^ 24

def State.pixRate (s : State) (n : Nat) : Nat × Nat :=
  ((s.station n).pixUp (s.liv (Fld.STN_N_FB n)), pixDown (s.liv (Fld.STN_REF_DIV n)) (s.liv (Fld.STN_DIV0 n)))

/-- The island's own clock runs: the PLL is locked; otherwise the island runs on the 100 MHz bypass clock (10 R208). -/
def State.locked (s : State) (n : Nat) : Bool := (s.station n).pll.locked

/-- Fine steps of the island clock as ticks of the time base. -/
def State.fineTicks (s : State) (n : Nat) (fine : Int) : Int :=
  if s.locked n then divOpen (fine * (s.pixRate n).2) (64 * (s.pixRate n).1) else fine / 64

/-- Whole dot periods that fit in a run of ticks. -/
def State.tickDots (s : State) (n ticks : Nat) : Nat :=
  if s.locked n then (divOpen (ticks * (s.pixRate n).1) (s.pixRate n).2).toNat else ticks

/-- Ticks of a run of dot periods. -/
def State.dotTicks (s : State) (n : Nat) (dots : Nat) : Nat := (s.fineTicks n (64 * dots)).toNat

/-! Lines and windows. -/

/-- The live line length, in dots (10 R220). -/
def State.lineDots (s : State) (n : Nat) : Nat := 1024 * s.liv (Fld.STN_LINE_KDOTS n)

/-- W: bytes of a line (07 R139). -/
def State.lineBytes (s : State) (n : Nat) : Nat := s.lineDots n / 2

/-- The window's capacity in lines (08 R164). -/
def State.capacity (s : State) (n : Nat) : Nat :=
  (divOpen (s.feed.winMiB.getD n 0 * 2 ^ 20) (s.lineBytes n)).toNat

/-! Sweeps and offsets (09 R190, R191; 11 R231). -/

def State.master (s : State) : Nat := s.imm Fld.MASTER_STN

/-- PERIOD_NOM as RUN_N scales it, in fine steps. -/
def State.periodNom (s : State) (n : Nat) : Int :=
  divOpen (64 * s.liv (Fld.STN_PERIOD_NOM n) * s.run.runN) s.run.baseN

/-- A station that counts edges: its tracking state has passed ACQUIRE. -/
def Scan.tracking (c : Scan) : Bool := c.state ≠ .off && c.state ≠ .acquire

/-- The sweep period in force, in fine steps: PERIOD while the station tracks, else the nominal one. -/
def State.sweepFine (s : State) (n : Nat) : Int :=
  if (s.station n).scan.tracking && (s.station n).scan.period ≠ 0 then (s.station n).scan.period else s.periodNom n

/-- T_sweep: the process master's sweep period, in ticks (02 R30). -/
def State.sweepTicks (s : State) : Nat := (s.fineTicks s.master (s.sweepFine s.master)).toNat

/-- A station's offset from the master, in 1/1024 master sweep, as RUN_N scales it; the master's is 0 (09 R190, 11 R231). -/
def State.offset (s : State) (n : Nat) : Nat :=
  if n = s.master then 0
  else
    let o := 1024 * s.liv (Fld.STN_SWEEPS n) + s.liv (Fld.STN_HINGE_OFS_PHASE n)
    if s.run.runN = s.run.baseN then o
    else (divOpen (2 * o * s.run.baseN + s.run.runN) (2 * s.run.runN)).toNat

/-- The time value of an offset, in ticks. -/
def State.offsetTicks (s : State) (n : Nat) : Nat := s.offset n * s.sweepTicks / 1024

/-- The stations of a mask. -/
def stationList (mask : Nat) : List Nat := maskList mask 5

/-- The first station of a mask: the least offset, the lower number on a tie (09 R191). -/
def State.firstStation (s : State) (mask : Nat) : Nat :=
  match stationList mask with
  | [] => 0
  | n :: ns => ns.foldl (fun b m => if s.offset m < s.offset b then m else b) n

/-! Plans (11). -/

def State.headOfs (s : State) (n e : Nat) : Nat := s.liv (Fld.STN_HEAD_OFS n e)

/-- OFS_CRC of the live offsets (11 R221). -/
def State.ofsCrc (s : State) (n : Nat) : Nat :=
  (crc32c ((List.range 34).flatMap fun e => leBytes 2 (s.headOfs n e))).toNat

/-- The plan that an image of at least 0x40 bytes spells (11 R225). -/
def readPlan (b : List Byte) : Plan :=
  { forEmitter := fieldAt b 5 1, n := fieldAt b 6 1, passes := fieldAt b 7 1, cycle := fieldAt b 8 1,
    lanes := (List.range 32).map fun i => fieldAt b (0x20 + i) 1,
    phases := (List.range (32 * fieldAt b 8 1)).map fun i => fieldAt b (0x40 + i) 1,
    tiles := (List.range (32 * fieldAt b 9 1)).map fun i =>
      BitVec.ofNat 32 (fieldAt b (0x40 + 32 * fieldAt b 8 1 + 4 * i) 4),
    ofsCrc := fieldAt b 0x0C 4, planId := fieldAt b 0x10 4, image := b }

def Plan.tileCount (p : Plan) : Nat := p.tiles.length / 32

/-- The phase entry of lane `i` in sheet sweep `k` (11 R222). -/
def Plan.phase (p : Plan) (i : Nat) (k : Int) : Nat := p.phases.getD (32 * (k % p.cycle).toNat + i) 0

def Plan.rests (p : Plan) (i : Nat) (k : Int) : Bool := bit (p.phase i k) 7

/-- The mask row that lane `i` applies to line `l` in sweep `k` (11 R226). -/
def Plan.maskRow (p : Plan) (i : Nat) (k l : Int) : Word :=
  let t := p.phase i k % 16
  if t = 0 then 0xFFFFFFFF#32 else p.tiles.getD (32 * (t - 1) + (l % 32).toNat) 0

/-- The line that lane `i` writes in sweep `k`, none in REST (11 R222). -/
def Plan.lineOf (p : Plan) (ofs : Nat → Nat) (i : Nat) (k : Int) : Option Int :=
  if p.rests i k then none else some (p.n * k + ofs (p.lanes.getD i 0))

/-- The writes of line `l`: lane and sweep (11 R222). -/
def Plan.writesOf (p : Plan) (ofs : Nat → Nat) (l : Int) : List (Nat × Int) :=
  (List.range 32).filterMap fun i =>
    let d := l - ofs (p.lanes.getD i 0)
    if d % p.n = 0 && !p.rests i (d / p.n) then some (i, d / p.n) else none

/-- Highest and lowest offset among a plan's emitters. -/
def Plan.oHi (p : Plan) (ofs : Nat → Nat) : Nat := p.lanes.foldl (fun m e => max m (ofs e)) 0
def Plan.oLo (p : Plan) (ofs : Nat → Nat) : Nat := p.lanes.foldl (fun m e => min m (ofs e)) 1023

/-- The reach (11 R223). -/
def Plan.reach (p : Plan) (ofs : Nat → Nat) : Nat := p.oHi ofs - p.oLo ofs + 16

/-- The first sweep of an image of `len` lines: the lowest k at which a sheet line is written (11 R222). -/
def Plan.firstK (p : Plan) (ofs : Nat → Nat) (len : Nat) : Int :=
  let base : Int := -((p.oHi ofs / p.n : Nat) : Int)
  (((List.range (64 + 1024)).map fun j => base + (j : Int)).find? fun k =>
    (List.range 32).any fun i => match p.lineOf ofs i k with | some l => 0 ≤ l && l < (len : Int) | none => false).getD 0

/-- The last sweep of an image of `len` lines. -/
def Plan.lastK (p : Plan) (ofs : Nat → Nat) (len : Nat) : Int :=
  let top : Int := divOpen ((len : Int) - p.oLo ofs) p.n + 1
  (((List.range (64 + 1024)).map fun j => top - (j : Int)).find? fun k =>
    (List.range 32).any fun i => match p.lineOf ofs i k with | some l => 0 ≤ l && l < (len : Int) | none => false).getD 0

/-- The sweep in which line `l` is first written, and the one in which it is last written. -/
def Plan.firstWrite (p : Plan) (ofs : Nat → Nat) (l : Int) : Int :=
  match p.writesOf ofs l with
  | [] => 0
  | w :: ws => ws.foldl (fun m x => min m x.2) w.2

/-! The checks of a plan image (11 R227). Each gives the DETAIL of its first failure. -/

/-- Check 1: the offset of the first bad byte. A LENGTH that CYCLE and TILES bear out and that no plan can have is bad from its first byte on
(DESIGN CHOICE, log entry 44). -/
def planFormat (b : List Byte) (length : Nat) : Option Nat :=
  let cyc := fieldAt b 8 1
  let want := 68 + 32 * cyc + 128 * fieldAt b 9 1
  let bad (i : Nat) : Bool :=
    let v := fieldAt b i 1
    (i = 0 && v ≠ 0x50) || (i = 1 && v ≠ 0x4E) || (i = 2 && v ≠ 1) || (i = 3 && v ≠ 0) ||
    (i = 0x0A && (v ≠ want % 256 || v ≠ length % 256 || want < 100 || 3012 < want)) ||
    (i = 0x0B && (v ≠ want / 256 || v ≠ length / 256)) ||
    (0x14 ≤ i && i < 0x20 && v ≠ 0) || (0x40 ≤ i && i < 0x40 + 32 * cyc && i + 4 < length && v / 16 % 8 ≠ 0)
  (List.range (0x40 + 32 * cyc)).find? bad

/-- Check 2. -/
def planCrcBad (b : List Byte) : Bool :=
  let l := fieldAt b 0x0A 2
  (crc32c (b.take (l - 4))).toNat ≠ fieldAt b (l - 4) 4

/-- Check 5: the first lane that names no emitter, or one named before. -/
def planLanes (p : Plan) : Option Nat :=
  (List.range 32).find? fun i =>
    33 < p.lanes.getD i 0 || (List.range i).any fun j => p.lanes.getD j 0 = p.lanes.getD i 0

/-- The lines over which checks 9 and 10 run: one period of lcm(N·CYCLE, 32). -/
def Plan.period (p : Plan) : Nat := Nat.lcm (p.n * p.cycle) 32

/-- Check 9. -/
def planPasses (p : Plan) (ofs : Nat → Nat) : Option Nat :=
  (List.range p.period).find? fun l => (p.writesOf ofs l).length ≠ p.passes

/-- Check 10. -/
def planMasks (p : Plan) (ofs : Nat → Nat) : Option Nat :=
  (List.range p.period).find? fun l =>
    let rows := (p.writesOf ofs l).map fun w => p.maskRow w.1 w.2 l
    !((List.range 32).all fun c => (rows.filter fun r => r.getLsbD c).length = 1)

def State.emitterFailed (s : State) (n e : Nat) : Bool := ((s.station n).pipe.emitters.getD e .reset).failed

/-- The first emitter on a lane that is marked failed. -/
def State.failedLane (s : State) (n : Nat) (p : Plan) : Option Nat := p.lanes.find? fun e => s.emitterFailed n e

/-- The first failing check of an image for a slot: REASON and DETAIL (11 R227). -/
def State.judgePlan (s : State) (n slot : Nat) (b : List Byte) (length : Nat) : Option (Nat × Nat) :=
  let p := readPlan b
  let ofs := s.headOfs n
  match planFormat b length with
  | some d => some (0x01, d)
  | none =>
    if planCrcBad b then some (0x02, 0)
    else if fieldAt b 4 1 ≠ n then some (0x03, 0)
    else if p.ofsCrc ≠ s.ofsCrc n then some (0x04, 0)
    else match planLanes p with
    | some d => some (0x05, d)
    | none =>
      if (slot < 2 ∧ p.forEmitter ≠ 0xFF) ∨ (2 ≤ slot ∧ (p.forEmitter ≠ slot - 2 ∨ slot - 2 ∈ p.lanes)) then some (0x06, 0)
      else if p.n = 0 ∨ 32 < p.n ∨ p.passes = 0 ∨ 4 < p.passes ∨ p.cycle = 0 ∨ 32 < p.cycle ∨ 15 < p.tileCount ∨
        32 < p.n * p.passes then some (0x07, 0)
      else match (List.range (32 * p.cycle)).find? fun i => p.tileCount < p.phases.getD i 0 % 16 with
      | some d => some (0x08, d)
      | none =>
        match planPasses p ofs with
        | some d => some (0x09, d)
        | none =>
          match planMasks p ofs with
          | some d => some (0x0A, d)
          | none => (s.failedLane n p).map fun e => (0x0B, e)

/-! Slots (11 R229). -/

def State.plans (s : State) (n : Nat) : Plans := (s.station n).plans
def State.planSlot (s : State) (n i : Nat) : PlanSlot := (s.plans n).slots.getD i .reset

/-- The valid plan of a slot. -/
def PlanSlot.usable (p : PlanSlot) : Option Plan := if p.valid then p.plan else none

/-- The active plan of a station: slot 0 while it is valid. -/
def State.active (s : State) (n : Nat) : Option Plan := (s.planSlot n 0).usable

def State.setPlans (s : State) (n : Nat) (f : Plans → Plans) : State :=
  s.setStation n fun st => { st with plans := f st.plans }

def Plans.put (p : Plans) (i : Nat) (x : PlanSlot) : Plans := { p with slots := p.slots.set i x }

/-- Slots 0 and 1 exchanged (11 R230). -/
def Plans.swap (p : Plans) : Plans :=
  { p with slots := (p.slots.set 0 (p.slots.getD 1 .reset)).set 1 (p.slots.getD 0 .reset), source := 1 }

/-- Whether a plan fits the window (08 R164). -/
def State.fits (s : State) (n : Nat) (p : Plan) : Bool := p.reach (s.headOfs n) + 64 ≤ s.capacity n

/-- Both copies of a plan slot fail (18 R378, R380). -/
def State.planUnreadable (s : State) (n slot : Nat) : Bool :=
  s.mem.failing.any fun f => f.2 = 0xFF && 0x600000 ≤ 64 * f.1 && 64 * f.1 < 0x800000 &&
    match Config.planLine f.1 with | some (m, i, _) => m = n && i = slot | none => false

/-- Whether what a slot holds passes every check of R227. -/
def State.passes (s : State) (n i : Nat) (x : PlanSlot) : Bool :=
  match x.plan with
  | some p => !s.planUnreadable n i && (s.judgePlan n i p.image p.image.length).isNone
  | none => false

/-- Every plan slot is validated again when an apply of STNn_HEAD lands (11 R221). -/
def State.revalidate (s : State) (n : Nat) : State :=
  s.setPlans n fun P => { P with slots := P.slots.mapIdx fun i x => { x with valid := s.passes n i x } }

/-! Scaled values (11 R231) and alternates (11 R232, R235). -/

/-- The retrace test, test 5 of STNn_SCAN, at a given nominal period in dots (09 R188). -/
def State.retraceFits (s : State) (n : Nat) (period : Nat) : Bool :=
  (List.range (s.liv (Fld.STN_FACETS n))).all fun f =>
    64 * (s.liv (Fld.STN_START_DOTS n) + s.lineDots n + s.imm (Fld.STN_SYNC_LEAD n) + s.bdWin n + 64) +
      s.livInt (Fld.STN_START_ADJ n f) ≤ (64 * period : Nat)

/-- A value scaled by a / b, to the nearest whole number (the examples of 11: 28,347 rpm and 36,494 dots; log entry 45). -/
def scaled (v a b : Nat) : Nat := (nearest (v * a) b).toNat

/-- The polygon's set-point in rpm as a line advance scales it (11 R231). -/
def State.polygonRpm (s : State) (n runN : Nat) : Nat :=
  if runN = s.run.baseN then s.imm (Fld.DRV_RUN_RPM n) else scaled (s.imm (Fld.DRV_RUN_RPM n)) s.run.baseN runN

/-- The retrace and start tests of R272, in dots and kHz. -/
def badRetrace (period line start win khz : Nat) : Bool :=
  period < line + (55 * khz + 9999) / 10000 || start < win + 64 + (khz + 999) / 1000

/-- Test 4 of the speed-changing alternates for one station, with the tests of R272 (11 R235, 12 R272). -/
def State.speedFits (s : State) (n runN : Nat) : Bool :=
  let period := scaled (s.liv (Fld.STN_PERIOD_NOM n)) runN s.run.baseN
  s.retraceFits n period &&
    !badRetrace period (s.lineDots n) (s.liv (Fld.STN_START_DOTS n)) (s.bdWin n)
      (s.liv (Fld.STN_TARGET_KHZ n)) &&
    s.polygonRpm n runN ≤ 60000 && s.polygonRpm n runN * s.liv (Fld.STN_FACETS n) ≤ 360000

/-- The stations that take part in a run: powered, with a valid active plan for which the window has room (08 R164). A plan that only the
plan store holds is not active until the WARMING load. -/
def State.running? (s : State) (n : Nat) : Bool :=
  (s.station n).powered && match s.active n with | some p => s.fits n p | none => false

/-- A plan that names no failed emitter and fits its window. -/
def State.sound (s : State) (n : Nat) (p : Plan) : Bool := (s.failedLane n p).isNone && s.fits n p

/-- A usable same-speed alternate of emitter `e` (11 R232). -/
def State.sameSpeed (s : State) (n e : Nat) : Option Plan :=
  match (s.planSlot n (2 + e)).usable with
  | some p => if s.sound n p && p.n = s.run.runN then some p else none
  | none => none

/-- A station whose domain is powered and whose active plan is valid (11 R235). -/
def State.planned (s : State) (n : Nat) : Bool := (s.station n).powered && (s.active n).isSome

/-- A usable speed-changing alternate of emitter `e` (11 R232, R235). -/
def State.slowAlt (s : State) (n e : Nat) : Option Plan :=
  match (s.planSlot n (2 + e)).usable with
  | some p =>
    if s.sound n p && p.n ≠ s.run.runN && s.on Fld.SLOW_EN && s.run.slowStep = 0 &&
      ((List.range 5).all fun m => m = n || !s.planned m ||
        match (s.planSlot m 1).usable with | some q => q.n = p.n && s.sound m q | none => false) &&
      ((List.range 5).all fun m => s.speedFits m p.n) then some p else none
  | none => none

/-! Images of a station and their place in the sweeps. -/

/-- The active plan's first and last sweep for an image of `len` lines. -/
def State.sweepRange (s : State) (n len : Nat) : Int × Int :=
  match s.active n with
  | some p => (p.firstK (s.headOfs n) len, p.lastK (s.headOfs n) len)
  | none => (0, 0)

end Sys2Proof.Machine
end

