-- ==== Sys2Proof/Machine/Phase.lean ====
section
/-! DEFINITION. The phase interpolator of a station (10 R213-R215): ramp and alignment requests, the moves they make, one in a dot period,
and the outputs of the station PLL that leave the chip or time beam detect (10 R205). A station's count runs in fine steps of the rate
that BASE and MAG give; alignment moves the dots against that count (log entry 67). -/

namespace Sys2Proof.Machine

/-- The ramp moves asked for as the phase grows by `d`: one at each fine step, 2^18 units, that it crosses (10 R215). -/
def rampMoves (phase d : Int) : Int := (phase + d) / 2 ^ 18 - phase / 2 ^ 18

/-- BASE + MAG as in use. -/
def Pll.rate (p : Pll) : Int := p.base + p.magLive

/-- One of the 64 positions (10 R213). -/
def position (v : Int) : Nat := (v % 64).toNat

/-- The 30-bit phase grows by `k` dot periods' worth; a positive sum shortens dot periods, so that a move goes one position back. -/
def Pll.grow (p : Pll) (k : Nat) : Pll × Int :=
  let d := p.rate * k
  let m := rampMoves p.ramp d
  ({ p with ramp := (p.ramp + d) % 2 ^ 30, turned := p.turned + m }, m)

/-- One dot period: what falls due is summed with what waits, and the interpolator makes one move at most (10 R213, R214). -/
def Pll.dot (p : Pll) : Pll :=
  let (p, m) := p.grow 1
  let b := p.backlog - m
  let step : Int := if 0 < b then 1 else if b < 0 then -1 else 0
  { p with pi := position (p.pi + step), backlog := b - step }

/-- Dot periods one by one while a request waits: the state, and the dot periods left. -/
def Pll.settle : Nat → Nat → Pll → Pll × Nat
  | 0, k, p => (p, k)
  | _ + 1, 0, p => (p, 0)
  | fuel + 1, k + 1, p => if p.backlog = 0 then (p, k + 1) else Pll.settle fuel k p.dot

/-- `k` dot periods. With nothing waiting each ramp request is one move at once: the ramp asks for one in 7.8 dot periods at most. -/
def Pll.turn (k : Nat) (p : Pll) : Pll :=
  let (p, k) := Pll.settle 128 k p
  let (p, m) := p.grow k
  { p with pi := position (p.pi - m) }

/-- The shorter way round to a place in the dot, at most 32 steps; of two ways of 32 the later (log entry 67). -/
def shorter (d : Int) : Int := (d + 31) % 64 - 31

/-- Alignment is requested: dot boundaries stand at pi + turned in the station's count (10 R214). -/
def Pll.align (p : Pll) : Pll :=
  { p with alignIn := 0, backlog := p.backlog + shorter (p.alignTo - (p.pi + p.backlog + p.turned)) }

/-- `k` dot periods with the alignment that falls due in them. -/
def Pll.advance (k : Nat) (p : Pll) : Pll :=
  if p.alignIn = 0 then p.turn k
  else if k < p.alignIn then { p.turn k with alignIn := p.alignIn - k }
  else ((p.turn p.alignIn).align).turn (k - p.alignIn)

/-- The interpolator of a station at the present time. It turns only while the island runs on OUT0 (10 R208). -/
def State.turned (s : State) (n : Nat) : Pll :=
  let p := s.pll n
  if p.locked then
    let k := s.tickDots n (s.now - p.turnTick)
    { p.advance (k - p.turnDots) with turnDots := max k p.turnDots }
  else p

def State.turnPll (s : State) (n : Nat) : State := s.setPll n fun _ => s.turned n

/-- Dot periods are counted from now on. -/
def State.countDots (s : State) (n : Nat) : State := s.setPll n fun p => { p with turnTick := s.now, turnDots := 0 }

/-- Alignment to a place in the station's count starts 64 island cycles after the edge is classified, 128 after the edge (10 R214). -/
def State.alignOn (s : State) (n : Nat) (place : Int) : State :=
  (s.turnPll n).setPll n fun p => { p with alignIn := 128, alignTo := position place }

/-- The TDC's stamp of an edge: its count in 1/16 of an OUT1 period, which is a fine step of f_pll, less the interpolator's accumulated
rotation (10 R205). A ramp move rotates back. -/
def Pll.stamp (p : Pll) (raw : Nat) : Nat := (raw + p.turned).toNat

/-- HCLK of a station: the VCO cycles of its period, taken behind the interpolator; none while it is driven low (10 R205, R220). -/
def State.headClock (s : State) (n : Nat) : Option Nat :=
  if s.locked n && s.livOn (Fld.STN_EN2 n) then some (s.liv (Fld.STN_DIV2 n)) else none

/-- Where the line start lies behind an edge of facet `f`, in fine steps (09 R186). -/
def State.startFine (s : State) (n f : Nat) (slew : Int) : Int :=
  64 * s.liv (Fld.STN_START_DOTS n) + s.liv (Fld.STN_START_FINE n) + s.livInt (Fld.STN_START_ADJ n f) + slew

/-- The tick of dot 0 of the sweep in progress (09 R186). -/
def State.lineDue (s : State) (n : Nat) : Nat :=
  let c := s.scan n
  c.edgeTick + (s.fineTicks n (s.startFine n c.facet c.slew)).toNat

/-- The tick at which an active scan ends that starts at `t` (09 R186). -/
def State.scanEnd (s : State) (n t : Nat) : Nat := t + s.dotTicks n (s.lineDots n)

end Sys2Proof.Machine
end

