-- ==== Sys2Proof/Machine/Sahhex.lean ====
section
/-! DEFINITION. The Sahhex block format (07): header, tokens, the decoder with its verdicts, and the
band index. -/

namespace Sys2Proof.Machine

/-- A block header (07 R141). -/
structure BlockHeader where
  magic   : Nat
  version : Nat
  flags   : Nat
  dots    : Nat
  lines   : Nat
  bpd     : Nat
  origLen : Nat
  compLen : Nat
  crc     : Nat
  station : Nat
  content : Nat
  band    : Nat
  sheetId : Nat
  first   : Nat
  check   : Nat
  deriving DecidableEq, Repr

def readHeader (b : List Byte) : BlockHeader :=
  { magic := fieldAt b 0 2, version := fieldAt b 2 1, flags := fieldAt b 3 1, dots := fieldAt b 4 2, lines := fieldAt b 6 1,
    bpd := fieldAt b 7 1, origLen := fieldAt b 8 4, compLen := fieldAt b 0x0C 4, crc := fieldAt b 0x10 4,
    station := fieldAt b 0x14 1, content := fieldAt b 0x15 1, band := fieldAt b 0x16 2, sheetId := fieldAt b 0x18 4,
    first := fieldAt b 0x1C 2, check := fieldAt b 0x1E 2 }

/-- The 32 bytes of a header, with HDR_CHECK computed over the first 30 (07 R141). -/
def BlockHeader.bytes (h : BlockHeader) : List Byte :=
  let b := leBytes 2 h.magic ++ leBytes 1 h.version ++ leBytes 1 h.flags ++ leBytes 2 h.dots ++ leBytes 1 h.lines ++
    leBytes 1 h.bpd ++ leBytes 4 h.origLen ++ leBytes 4 h.compLen ++ leBytes 4 h.crc ++ leBytes 1 h.station ++
    leBytes 1 h.content ++ leBytes 2 h.band ++ leBytes 4 h.sheetId ++ leBytes 2 h.first
  b ++ leBytes 2 (crc16 b).toNat

/-- A block that the device encodes (07 R158): contents, geometry, labels and original. -/
structure Encoded where
  content  : Nat
  bpd      : Nat
  dots     : Nat
  lines    : Nat
  station  : Nat
  band     : Nat
  sheetId  : Nat
  first    : Nat
  original : List Byte
  deriving DecidableEq, Repr

/-- The header of a block that the device encodes: RAW, or with tokens of a length from 1 to the original's, for which alone an encoder
may leave RAW clear (07 R142, R143). LAST is of image blocks only. -/
def Encoded.header (b : Encoded) (raw : Bool) (tokens : Nat) : BlockHeader :=
  let n := b.original.length
  { magic := 0x5853, version := 1, flags := flag raw 0, dots := b.dots, lines := b.lines, bpd := b.bpd, origLen := n,
    compLen := if raw then n + 32 else 33 + tokens % n, crc := (crc32c b.original).toNat, station := b.station,
    content := b.content, band := b.band, sheetId := b.sheetId, first := b.first, check := 0 }

/-- HDR_CHECK is right (07 R141). -/
def headerChecks (b : List Byte) : Bool := (crc16 (slice b 0 30)).toNat = fieldAt b 0x1E 2

def BlockHeader.raw (h : BlockHeader) : Bool := bit h.flags 0
def BlockHeader.last (h : BlockHeader) : Bool := bit h.flags 1

/-- W: bytes of a line (07 R139). -/
def BlockHeader.width (h : BlockHeader) : Nat := h.dots * h.bpd / 8

/-- COMP_LEN agrees with RAW (07 R142). -/
def compAgrees (raw : Bool) (orig comp : Nat) : Bool :=
  if raw then comp = orig + 32 else 33 ≤ comp && comp ≤ orig + 32

/-- The header describes an original that the decoder can produce (07 R148); `held` is how many bytes it holds. -/
def decodable (b : List Byte) (held : Nat) : Bool :=
  let h := readHeader b
  headerChecks b && h.magic = 0x5853 && h.version = 1 && h.flags < 4 && 0 < h.dots && 1 ≤ h.lines && h.lines ≤ 32 &&
    [1, 2, 4, 6, 8].contains h.bpd && h.dots * h.bpd % 8 = 0 && h.origLen = h.lines * h.width && h.origLen ≤ 65536 &&
    33 ≤ h.compLen && h.compLen ≤ held && compAgrees h.raw h.origLen h.compLen

/-- `n` bytes copied one at a time from `back` bytes behind; the output is held last byte first (07 R147). -/
def copyBack (back : Nat) : Nat → List Byte → List Byte
  | 0, out => out
  | n + 1, out => copyBack back n (out.getD (back - 1) 0 :: out)

/-- A token's length and how many extension bytes it takes, none when they are missing (07 R146). -/
def tokenLength (lc : Nat) (rest : List Byte) : Option (Nat × List Byte) :=
  if lc < 62 then some (lc + 1, rest)
  else if lc = 62 then
    match rest with | x :: r => some (63 + x.toNat, r) | [] => none
  else
    match rest with | x :: y :: r => some (319 + x.toNat + 256 * y.toNat, r) | _ => none

/-- The token stream (07 R145-R148): the original last byte first, none when the stream is malformed. `left` is how much of
the original is still to be written. Each token writes at least one byte, so `fuel` of the original's length suffices. -/
def decodeTokens (w : Nat) : Nat → Nat → List Byte → List Byte → Option (List Byte)
  | _, 0, rest, out => if rest = [] then some out else none
  | 0, _ + 1, _, _ => none
  | fuel + 1, left + 1, rest, out =>
    match rest with
    | [] => none
    | t :: rest =>
      match tokenLength (t.toNat % 64) rest with
      | none => none
      | some (n, rest) =>
        if left + 1 < n then none
        else if t.toNat / 64 = 0 then
          if rest.length < n then none
          else decodeTokens w fuel (left + 1 - n) (rest.drop n) ((rest.take n).reverse ++ out)
        else if t.toNat / 64 = 1 then
          match rest with
          | [] => none
          | x :: rest => decodeTokens w fuel (left + 1 - n) rest (List.replicate n x ++ out)
        else
          let back := if t.toNat / 64 = 2 then w else 2 * w
          if out.length < back then none else decodeTokens w fuel (left + 1 - n) rest (copyBack back n out)

/-- The verdicts of an engine (07 R154). -/
inductive Verdict where
  | ok (original : List Byte) | malformed | badCrc
  deriving DecidableEq, Repr

/-- The decoder (07 R148, R154). -/
def decodeBlock (b : List Byte) : Verdict :=
  let h := readHeader b
  if !decodable b b.length then .malformed
  else
    let payload := (b.take h.compLen).drop 32
    match if h.raw then some payload else (decodeTokens h.width h.origLen h.origLen payload []).map List.reverse with
    | none => .malformed
    | some o => if (crc32c o).toNat = h.crc then .ok o else .badCrc

/-! The band index (07 R149-R151). -/

/-- Entries of an index, in order. -/
structure IndexEntry where
  comp    : Nat
  station : Nat
  lines   : Nat
  flags   : Nat
  zero    : Nat
  deriving DecidableEq, Repr

def readEntry (b : List Byte) : IndexEntry :=
  ⟨fieldAt b 0 4, fieldAt b 4 1, fieldAt b 5 1, fieldAt b 6 1, fieldAt b 7 1⟩

def readEntries : Nat → List Byte → List IndexEntry
  | 0, _ => []
  | n + 1, b => readEntry b :: readEntries n (b.drop 8)

/-- The index header agrees with the command (07 R149). `length` is INDEX_LEN. -/
def indexHeader (b : List Byte) (sheetId stations length : Nat) : Bool :=
  let n := fieldAt b 4 4
  fieldAt b 0 4 = sheetId && 1 ≤ n && n ≤ 262143 && length = 16 + 8 * n && fieldAt b 8 1 = 1 && fieldAt b 9 1 = stations &&
    fieldAt b 0x0A 2 = 0 && length ≤ b.length &&
    (crc32c (b.take 12 ++ (b.take length).drop 16)).toNat = fieldAt b 0x0C 4

/-- One entry by itself, W being its station's (07 R149, R151, R142). -/
def IndexEntry.good (e : IndexEntry) (stations : Nat) (w : Nat → Nat) : Bool :=
  e.station < 5 && bit stations e.station && 1 ≤ e.lines && e.lines ≤ 32 && e.flags < 4 && e.zero = 0 &&
    e.lines * w e.station ≤ 65536 && compAgrees (bit e.flags 0) (e.lines * w e.station) e.comp

/-- Grouping and LAST (07 R150): rising stations, LAST on exactly the last entry of each. -/
def grouped : List IndexEntry → Bool
  | [] => true
  | [e] => bit e.flags 1
  | e :: f :: es =>
    (if e.station = f.station then !bit e.flags 1 else e.station < f.station && bit e.flags 1) && grouped (f :: es)

/-- The index passes (07 R151). -/
def indexGood (b : List Byte) (sheetId stations length : Nat) (w : Nat → Nat) : Bool :=
  indexHeader b sheetId stations length &&
    (let es := readEntries (fieldAt b 4 4) (b.drop 16)
     es.all (fun e => e.good stations w) && grouped es &&
       ((List.range 5).all fun n => !bit stations n || es.any fun e => e.station = n))

end Sys2Proof.Machine
end

