-- ==== Sys2Proof/Machine/FeedOps.lean ====
section
/-! DEFINITION. The feed (02 R30, R39; 08 R164-R176): projected Hinges, deadlines, staging, reservations, data requests and
the engines' jobs. -/

namespace Sys2Proof.Machine

/-! What the device encodes (07 R158). -/

/-- A block encoded by the device: whether it sets RAW, and how long its tokens are, is not specified. -/
def State.encode (s : State) (b : Encoded) : List Byte × State :=
  let (v, s) := s.drawNat
  ((b.header (v % 2 = 1) (v / 2)).bytes, s)

/-! The words a sheet latches at its pick (02 R43). -/

/-- Word `i` of SHT_PATH_CFG, SHT_GATE_CFG, SHT_HOLD_CFG, SHT_OUTCOME_CFG: as latched at the pick, before it as it stands. -/
def State.sheetWord (s : State) (sh : Sheet) (i : Nat) : Word :=
  if sh.cfg = [] then s.reg ([Reg.SHT_PATH_CFG, Reg.SHT_GATE_CFG, Reg.SHT_HOLD_CFG, Reg.SHT_OUTCOME_CFG].getD i 0)
  else sh.cfg.getD i 0

def State.pitch (s : State) (sh : Sheet) : Nat := us (wordField (s.sheetWord sh 0) Fld.PITCH)
def State.pickLead (s : State) (sh : Sheet) : Nat := ms (wordField (s.sheetWord sh 0) Fld.PICK_LEAD)
def State.margin (s : State) (sh : Sheet) : Nat := us (wordField (s.sheetWord sh 1) Fld.DECOMP_MARGIN)
def State.stageLeadMin (s : State) : Nat := ms (s.imm Fld.STAGE_LEAD_MIN)

/-- The slots that hold a sheet, in order of submission (02 R31). -/
def State.byOrder (s : State) : List Nat :=
  sortBy (fun a b => ((s.sheet? a).map Sheet.order).getD 0 ≤ ((s.sheet? b).map Sheet.order).getD 0)
    (s.slotsWhere fun _ => true)

/-- The image's line count on a station (07 R150). -/
def Sheet.lines (sh : Sheet) (n : Nat) : Nat := ((sh.bands.filter fun b => b.station = n).map Band.lines).sum

/-! Line starts to come and projected Hinges (02 R30). -/

/-- The first line start of station `n` at or after tick `t`, counted on from its last one. -/
def State.lineFrom (s : State) (n t : Nat) : Nat :=
  let p := (s.fineTicks n (s.sweepFine n)).toNat
  let l := (s.station n).scan.lineTick
  if t ≤ l then l else l + ((divOpen (t - l + p - 1 : Nat) p).toNat) * p

/-- The scheduled Hinge of a picked sheet after a sheet with Hinge `prev` (02 R38): the first line start PITCH after that
Hinge, for a sheet picked on its schedule; for one picked later, a PICK_LEAD after its pick (R30, R41). Half a sweep is the
allowance for a line start that came a little before its prediction. -/
def State.scheduled (s : State) (sh : Sheet) (prev : Option Nat) : Nat :=
  let n := s.firstStation sh.stations
  let t := sh.tPick + s.pickLead sh
  let half := s.sweepTicks / 2
  match prev with
  | none => s.lineFrom n t
  | some h =>
    let l := s.lineFrom n (h + s.pitch sh)
    if t ≤ l + half then l else s.lineFrom n (if sh.gap = 0 then t else max l (t - half))

/-- The projected Hinge of a sheet, `prev` being the T_hinge of the sheet submitted before it (02 R30). -/
def State.projected (s : State) (sh : Sheet) (prev : Option Nat) : Nat :=
  if sh.pastHinge then sh.tHinge
  else if sh.everPicked then
    if s.now ≤ sh.schedHinge then sh.schedHinge else s.lineFrom (s.firstStation sh.stations) s.now
  else
    match prev with
    | some h => max (h + s.pitch sh) (s.now + s.pickLead sh)
    | none => s.now + s.pickLead sh

/-- Scheduled and projected Hinges recomputed in submission order (02 R30). -/
def projectAll : List Nat → Option Nat → State → State
  | [], _, s => s
  | i :: is, prev, s =>
    match s.sheet? i with
    | none => projectAll is prev s
    | some sh =>
      let before := prev <|> s.sheets.lastHinge
      let sched := if sh.everPicked && !sh.pastHinge && sh.gateFail.isNone then s.scheduled sh before else sh.schedHinge
      let proj := s.projected { sh with schedHinge := sched } prev
      projectAll is (some proj) (s.setSheet i fun x => { x with schedHinge := sched, proj := proj })

def State.project (s : State) : State := projectAll s.byOrder none s

/-- T_hinge of a sheet: its actual Hinge, or the projected one. -/
def Sheet.hinge (sh : Sheet) : Nat := if sh.pastHinge then sh.tHinge else sh.proj

/-! Deadlines (02 R30). -/

/-- The tick at which station `n` begins the sheet: T_hinge plus the difference of the offsets (09 R191). -/
def State.beginOn (s : State) (sh : Sheet) (n : Nat) : Nat :=
  sh.hinge + (s.offsetTicks n - s.offsetTicks (s.firstStation sh.stations))

/-- Where a sheet's image stands on station `n`. -/
def Sheet.on (sh : Sheet) (n : Nat) : Option Imaging := sh.imaging.find? fun i => i.station = n

/-- The sweep, counted from the sheet's first, in which the active plan first writes a line. An image that has begun keeps the first sweep
it began with (11 R222, R234). -/
def State.sweepOf (s : State) (sh : Sheet) (n line : Nat) : Int :=
  match s.active n with
  | none => 0
  | some p =>
    p.firstWrite (s.headOfs n) line -
      (match sh.on n with
      | some i => if i.started then i.firstK else p.firstK (s.headOfs n) (sh.lines n)
      | none => p.firstK (s.headOfs n) (sh.lines n))

def State.deadline (s : State) (sh : Sheet) (b : Band) : Int :=
  (s.beginOn sh b.station : Int) + s.sweepOf sh b.station b.first * s.sweepTicks - s.margin sh

/-- A band that is not yet staged (02 R30). -/
def Band.unstaged (b : Band) : Bool := b.state = .waiting || b.state = .requested

/-- The bands of a condition, of every sheet in a slot: deadline, slot and index. -/
def State.bandsWhere (s : State) (p : Band → Bool) : List (Int × Nat × Nat) :=
  (s.slotsWhere fun _ => true).flatMap fun i =>
    match s.sheet? i with
    | none => []
    | some sh => ((List.range sh.bands.length).zip sh.bands).filterMap fun (j, b) =>
        if p b then some (s.deadline sh b, i, j) else none

def State.band? (s : State) (i j : Nat) : Option Band := (s.sheet? i).bind fun sh => sh.bands[j]?

def State.setBand (s : State) (i j : Nat) (f : Band → Band) : State :=
  s.setSheet i fun sh => { sh with bands := sh.bands.modify j f }

/-- Dispatch order: deadline, then the lower station, then the lower band (08 R166). -/
def State.sooner (s : State) (a b : Int × Nat × Nat) : Bool :=
  let key (x : Int × Nat × Nat) : Nat × Nat := ((s.band? x.2.1 x.2.2).map fun v => (v.station, v.band)).getD (0, 0)
  a.1 < b.1 || (a.1 = b.1 && ((key a).1 < (key b).1 || ((key a).1 = (key b).1 && (key a).2 ≤ (key b).2)))

def State.inOrder (s : State) (p : Band → Bool) : List (Int × Nat × Nat) := sortBy s.sooner (s.bandsWhere p)

/-- The staging lead in ticks; none when no band is outstanding (02 R30). -/
def State.stagingLead (s : State) : Option Int :=
  match s.inOrder Band.unstaged with
  | [] => none
  | b :: _ => some (b.1 - s.now)

/-- The link schedule of 02 R39: bytes against LINK_RATE × time, MB/s × µs = bytes. -/
def linkHolds (rate now : Nat) : List (Int × Nat) → Nat → Bool
  | [], _ => true
  | (d, n) :: bs, sum => ((sum + n : Nat) : Int) * 100 ≤ rate * (d - now) && linkHolds rate now bs (sum + n)

def State.linkScheduleHolds (s : State) : Bool :=
  linkHolds (s.imm Fld.LINK_RATE) s.now
    ((s.inOrder Band.unstaged).map fun b => (b.1, ((s.band? b.2.1 b.2.2).map Band.comp).getD 0)) 0

/-- Step 2 of the pick gate (02 R39). -/
def State.leadHolds (s : State) : Bool :=
  (match s.stagingLead with | none => true | some l => (s.stageLeadMin : Int) ≤ l) && s.linkScheduleHolds

/-! Staging and reservations (08 R163, R172). -/

/-- The live staging size in bytes (08 R163). -/
def State.stagingBytes (s : State) : Nat := (108 - s.feed.winMiB.sum - s.feed.scratchMiB) * 2 ^ 20

/-- The padded length a request asks for (07 R152). -/
def Band.padded (b : Band) : Nat := (b.comp + 3) / 4 * 4

/-- The staging space a band takes (08 R172). -/
def Band.space (b : Band) : Nat := (b.padded + 63) / 64 * 64

/-- Where a reservation of `n` bytes would start when the ring's next offset is `head`, and the bytes skipped. -/
def placeAt (size head n : Nat) : Nat × Nat := if size < head + n then (0, size - head) else (head, 0)

/-- Space the ring holds, skipped bytes counted. -/
def ringUsed (r : List Reservation) : Nat := (r.map fun x => x.length + x.skipped).sum

/-- Released space goes back once every earlier reservation has been released (08 R172). -/
def dropReleased : List Reservation → List Reservation
  | [] => []
  | r :: rs => if r.released then dropReleased rs else r :: rs

/-- Releases the reservations that `p` names. -/
def State.release (s : State) (p : Reservation → Bool) : State :=
  { s with feed := { s.feed with
      ring := dropReleased (s.feed.ring.map fun r => if p r then { r with released := true } else r) } }

/-- Whether the ring has room for `n` bytes now. -/
def State.ringRoom (s : State) (n : Nat) : Bool :=
  let pl := placeAt s.stagingBytes s.feed.ringHead n
  ringUsed s.feed.ring + n + pl.2 ≤ s.stagingBytes

/-- The space the reservations of a run of bands would take one after another, skipped bytes counted (02 R39). -/
def reserveRun (size : Nat) : List Nat → Nat → Nat
  | [], _ => 0
  | n :: ns, head =>
    let pl := placeAt size head n
    n + pl.2 + reserveRun size ns (pl.1 + n)

/-- A band not yet decoded. -/
def Band.undecoded (b : Band) : Bool := b.unstaged || b.state = .staged || b.state = .decoding

/-- Step 3 of the pick gate for a sheet with projected Hinge `h` (02 R39). -/
def State.reservationsFit (s : State) (h : Nat) : Bool :=
  let due := (s.inOrder Band.undecoded).filter fun b => b.1 < ((h + s.stageLeadMin : Nat) : Int)
  let has (b : Int × Nat × Nat) (r : Reservation) : Bool := !r.released && r.slot = b.2.1 && r.idx = b.2.2
  let held := ((s.feed.ring.filter fun r => due.any fun b => has b r).map fun r => r.length + r.skipped).sum
  let new := (due.filter fun b => !s.feed.ring.any fun r => has b r).filterMap fun b => (s.band? b.2.1 b.2.2).map Band.space
  held + reserveRun s.stagingBytes new s.feed.ringHead ≤ s.stagingBytes

/-! Data requests (08 R173). -/

/-- A request posted for a band: REQUEST or AGAIN. -/
def State.postRequest (s : State) (i j kind status : Nat) : State :=
  match s.sheet? i, s.band? i j with
  | some sh, some b =>
    let q := (s.feed.reqSeq + 1) % 2 ^ 32
    let pl := placeAt s.stagingBytes s.feed.ringHead b.space
    let s := { s with feed := { s.feed with
      reqSeq := q, ringHead := pl.1 + b.space,
      ring := s.feed.ring ++ [(⟨i, j, sh.id, pl.1, b.space, pl.2, false⟩ : Reservation)] } }
    let s := s.setBand i j fun b => { b with state := .requested, ofs := pl.1, reqSeq := q, again := none }
    s.deliver (.request ⟨kind, b.station, i, sh.id, b.band, b.first, b.padded, pl.1, q, status⟩) true false
  | _, _ => s

/-- CANCEL of an open request (08 R175). -/
def State.cancelRequest (s : State) (i : Nat) (sh : Sheet) (b : Band) : State :=
  s.deliver (.request ⟨2, b.station, i, sh.id, b.band, b.first, b.padded, b.ofs, b.reqSeq, 0⟩) true false

def cancelRequests (i : Nat) (sh : Sheet) : List Band → State → State
  | [], s => s
  | b :: bs, s => cancelRequests i sh bs (if b.state = .requested then s.cancelRequest i sh b else s)

/-- Engines stop what they decode for a slot, without a strike. -/
def State.dropJobs (s : State) (p : Nat × Nat → Bool) : State :=
  { s with feed := { s.feed with
      redo := s.feed.redo.filter fun r => !p (r.1, r.2.1),
      engines := s.feed.engines.map fun e =>
        match e.job with | some j => if p j then { e with job := none, redo := false } else e | none => e } }

/-- The feed gives up what a sheet still holds: open requests are cancelled, space and engines released (08 R175). -/
def State.unfeed (s : State) (i : Nat) (sh : Sheet) : State :=
  let s := cancelRequests i sh sh.bands s
  (s.release fun r => r.slot = i).dropJobs fun j => j.1 = i

/-- The remaining bands of a sheet are shed after an underrun (08 R178). -/
def State.shed (s : State) (i : Nat) : State :=
  match s.sheet? i with
  | none => s
  | some sh =>
    (s.unfeed i sh).setSheet i fun x => { x with
      shed := true, bands := x.bands.map fun b => if b.state = .decoded then b else { b with state := .shed, block := [] } }

/-- After a reset, what the undecoded bands of sheets before their Hinge hold is released, and each of them is asked for with AGAIN and
STATUS OK, one never asked for before too (08 R176). `all` is the takeover's case: every band. -/
def refeedSheets (all : Bool) : List Nat → State → State
  | [], s => s
  | i :: is, s =>
    match s.sheet? i with
    | none => refeedSheets all is s
    | some sh =>
      if sh.pastHinge || sh.shed then refeedSheets all is s
      else
        let lost (b : Band) : Bool := all || b.state ≠ .decoded
        let s := s.release fun r => r.slot = i
        let s := s.dropJobs fun j => j.1 = i
        let s := { s with hold := { s.hold with requests := s.hold.requests.filter fun d => !(d.slot = i && d.kind ≠ 2) } }
        refeedSheets all is (s.setSheet i fun x => { x with
          bands := x.bands.map fun b =>
            if lost b then { b with state := .waiting, block := [], verdicts := [], again := some St.OK } else b })

def State.refeedAll (s : State) (all : Bool) : State := refeedSheets all s.byOrder s

/-! Windows (08 R164, R165). -/

/-- The line of a sheet held in a station's window. -/
def State.winLine (s : State) (n id : Nat) (l : Nat) : Option WinLine :=
  (s.station n).window.find? fun w => w.sheetId = id && w.line = l

/-- The lines of a band stand in its station's window. -/
def State.inWindow (s : State) (sh : Sheet) (b : Band) : Bool :=
  (s.station b.station).window.any fun w => w.sheetId = sh.id && b.first ≤ w.line && w.line < b.first + b.lines

/-- The lines that engines are writing into a station's window: their positions are taken from the dispatch on (08 R165, R166). -/
def State.claimed (s : State) (n : Nat) : List Nat :=
  (s.slotsWhere fun _ => true).flatMap fun i =>
    match s.sheet? i with
    | none => []
    | some sh => (sh.bands.filter fun b => b.station = n && b.state = .decoding && !s.inWindow sh b).flatMap fun b =>
        (List.range b.lines).map (b.first + ·)

/-- The lines that hold ring positions of a station: those in the window and those being written. -/
def State.ringLines (s : State) (n : Nat) : List Nat := (s.station n).window.map WinLine.line ++ s.claimed n

/-- Every position a band's lines need is free, and the guard of 64 lines stays unfilled (08 R164, R166). -/
def State.bandFree (s : State) (b : Band) : Bool :=
  let held := s.ringLines b.station
  let c := s.capacity b.station
  held.length + b.lines + 64 ≤ c &&
    (List.range b.lines).all fun k => !held.any fun l => l % c = (b.first + k) % c

/-- The lines of a decoded block put into the window. -/
def State.fillWindow (s : State) (b : Band) (id : Nat) (orig : List Byte) : State :=
  let w := s.lineBytes b.station
  s.setStation b.station fun st => { st with
    window := st.window ++ (List.range b.lines).map fun k => ⟨id, b.first + k, slice orig (k * w) w, false, false⟩ }

/-- A sheet's lines leave a station's window, or every window. -/
def State.dropLines (s : State) (p : WinLine → Bool) (n : Nat) : State :=
  s.setStation n fun st => { st with window := st.window.filter fun w => !p w }

def dropLinesAll (p : WinLine → Bool) : List Nat → State → State
  | [], s => s
  | n :: ns, s => dropLinesAll p ns (s.dropLines p n)

/-- Lines of the sheet that are present on a station. -/
def State.linesReady (s : State) (n id : Nat) : Nat := ((s.station n).window.filter fun w => w.sheetId = id).length

end Sys2Proof.Machine
end

