-- ==== Sys2Proof/Machine/SheetOps.lean ====
section
/-! DEFINITION. Closing a sheet (02 R33, R44-R50): the final state, the record, the freed slot, and the return from PRINTING
to READY (05 R103). -/

namespace Sys2Proof.Machine

/-- The state codes of a record (02 R49). -/
def Rec.DELIVERED : Nat := 0
def Rec.FLAGGED : Nat := 1
def Rec.PURGED : Nat := 2
def Rec.UNROUTED : Nat := 3
def Rec.HELD : Nat := 4
def Rec.JAMMED : Nat := 5

/-- SPEED_ERR: of e at a station's last sweep less e at its first, the value of greatest magnitude (09 R202). -/
def Sheet.speedErr (sh : Sheet) : Int :=
  (sh.imaging.map fun i => i.eLast - i.eFirst).foldl (fun m d => if m.natAbs < d.natAbs then d else m) 0

def State.outcome (s : State) (sh : Sheet) (f : FieldRef) : Nat := wordField (s.sheetWord sh 3) f

/-- A PURGE-class cause (02 R44). -/
def State.purgeCause (s : State) (sh : Sheet) : Bool :=
  [Cause.FACET_MISMATCH, Cause.EMITTER_BLANKED, Cause.UNDERRUN, Cause.STATION_RESET, Cause.SAFE_STOP].any sh.has ||
    ((sh.has Cause.OVERSPEED || sh.has Cause.UNDERSPEED) &&
      16 * s.outcome sh Fld.SPEED_ERR_PURGE < sh.speedErr.natAbs) ||
    (sh.has Cause.EMITTER_LOST && s.outcome sh Fld.EMIT_LOST_PURGE < sh.linesLost)

/-- A FLAG-class cause (02 R44). -/
def Sheet.flagCause (sh : Sheet) : Bool :=
  [Cause.COASTED, Cause.OVERSPEED, Cause.UNDERSPEED, Cause.ENC_REVERSAL, Cause.EMITTER_LOST, Cause.DUTY_CLAMP, Cause.HV_ARC,
    Cause.FUSER_BAND, Cause.REG_LATE].any sh.has

/-- The state chosen at CLOSING (02 R46, R47). A safe-stopped sheet has no tray to have missed: it closes PURGED (02 R33). -/
def State.finalState (s : State) (sh : Sheet) (stopped : Bool) : Nat :=
  if sh.jammed then Rec.JAMMED
  else if !sh.pastHinge then Rec.HELD
  else if s.purgeCause sh then (if stopped || sh.diverted = some true then Rec.PURGED else Rec.UNROUTED)
  else if sh.flagCause then Rec.FLAGGED
  else Rec.DELIVERED

/-- The record of a sheet (02 R49). -/
def State.recordOf (s : State) (slot : Nat) (sh : Sheet) (final : Nat) : Record :=
  { state := final, slot, location := sh.location, sheetId := sh.id, jobId := sh.job,
    seq := (s.sheets.recordSeq + 1) % 2 ^ 32, tPick := if sh.everPicked then sh.tPick else 0,
    tHinge := if sh.pastHinge then sh.tHinge else 0, tClose := s.now, flags := sh.flags, gap := sh.gap / 100,
    retries := sh.retries, lost := sh.linesLost, speedErr := sh.speedErr, stations := sh.stations, epoch := s.key.epoch }

/-- No slot is in PICKED, REGISTERED, IMAGING, FINISHING or CLOSING (05 R103). -/
def State.pathEmpty (s : State) : Bool := (s.slotsWhere fun sh => sh.state ≠ .accepted).isEmpty

/-- PRINTING returns to READY when no slot is past ACCEPTED and neither a drain nor a stop runs (05 R103, R105). The next
sheet is then the first after READY. -/
def State.settle (s : State) : State :=
  if s.mode = .printing ∧ s.pathEmpty = true ∧ s.modes.draining = false ∧ s.modes.stopping = .none then
    ({ s with sheets := { s.sheets with lastHinge := none } }).enter .ready
  else s

/-- The sheet that may be picked next: the first in ACCEPTED (02 R31). -/
def State.head (s : State) : Option Nat :=
  s.byOrder.find? fun i => match s.sheet? i with | some sh => sh.state = .accepted | none => false

/-- The cancels of a slot's sheet wait for its record (02 R36). -/
def State.holdCancels (s : State) (slot seq result : Nat) : State :=
  let mine (c : Cmd) : Bool := c.op = Op.SHEET_CANCEL && c.notes = [slot]
  { (s.drop mine) with hold := { s.hold with
    cancels := s.hold.cancels ++ (s.running.filter mine).map fun c => (seq, result, c) } }

/-- The slot is free: in the journal, its mirror and the trace (02 R33, R50; 03 R78). The retries of a sheet that leaves ACCEPTED
for good no longer count toward PICK_WAIT_MAX (02 R41). -/
def State.freeSlotOf (s : State) (slot : Nat) (sh : Sheet) (wasHead : Bool) : State :=
  let s := { s with sheets := { s.sheets with
    slots := s.sheets.slots.set slot none,
    starved := if wasHead then none else s.sheets.starved, starvedUp := !wasHead && s.sheets.starvedUp,
    hingeReady := if s.sheets.hingeReady = some slot then none else s.sheets.hingeReady,
    pickWait := s.sheets.pickWait.filter fun w => w.1 ≠ slot } }
  (s.mirrorOn (.journal (.free slot))).record 1 slot (leBytes 4 sh.id ++ [0, 0xFF])

/-- A sheet closes: CLOSING, what it held is given up, its slot is freed in the journal, its record is posted, and the cancel
that waited for it completes then (02 R33, R36, R50; 08 R171, R175). -/
def State.closeSheet (s : State) (slot : Nat) (stopped : Bool) : State :=
  match s.sheet? slot with
  | none => s
  | some sh =>
    let wasHead := s.head = some slot
    let s := if sh.state = .closing then s else s.moveSheet slot .closing
    let final := s.finalState sh stopped
    let r := s.recordOf slot sh final
    let s := dropLinesAll (fun w => w.sheetId = sh.id) (List.range 5) (s.unfeed slot sh)
    let s := { s with sheets := { s.sheets with recordSeq := r.seq } }.freeSlotOf slot sh wasHead
    (s.holdCancels slot r.seq (final + 256 * slot)).deliver (.record r) true false

/-- A sheet imaged in a CHECK that still runs may get stamps of its sweeps (09 R197). -/
def State.checkPending (s : State) (slot : Nat) : Bool := allStations.any fun n => (s.scan n).checkHits.any fun h => h.1 = slot

/-- A sheet closes in the ordinary run of things; with a CHECK to come it waits in CLOSING, so that its stamps are entered before its
record (09 R197). -/
def State.close (s : State) (slot : Nat) : State :=
  if s.checkPending slot then s.moveSheet slot .closing else (s.closeSheet slot false).settle

def closeWaiting : List Nat → State → State
  | [], s => s
  | i :: is, s =>
    closeWaiting is (match s.sheet? i with
      | some sh => if sh.state = .closing ∧ s.checkPending i = false then (s.closeSheet i false).settle else s
      | none => s)

/-- The CHECK of a station has ended: the sheets whose close waited for it close. -/
def State.endCheck (s : State) (n : Nat) : State :=
  closeWaiting s.byOrder (s.setScan n fun c => { c with checkHits := [] })

/-- Every sheet in ACCEPTED closes HELD with LOCATION 0xFE (05 R105, R106). -/
def closeAccepted : List Nat → State → State
  | [], s => s
  | i :: is, s =>
    closeAccepted is (match s.sheet? i with
      | some sh => if sh.state = .accepted then s.closeSheet i false else s
      | none => s)

def State.holdAccepted (s : State) : State := closeAccepted s.byOrder s

/-- The sheet's lead edge has reached a sensor past which the path cannot withdraw it (16 R353). -/
def Sheet.pastNip (sh : Sheet) : Bool := sh.tracks.any fun t => t.lead.isSome && wordField t.cfg (Fld.SS_NIP 0) = 1

/-- A sheet that a safe-stop leaves in the path where it needs hands (02 R33, R46; 16 R353). -/
def Sheet.stuck (sh : Sheet) : Bool :=
  (sh.state = .picked && sh.pastNip) || (sh.state = .finishing && sh.location ≠ 0xFF)

/-- Every occupied slot closes at the end of a safe-stop (02 R33, R48); one whose trail edge has cleared its tray sensor as
R46 says. -/
def closeStopped : List Nat → State → State
  | [], s => s
  | i :: is, s =>
    match s.sheet? i with
    | none => closeStopped is s
    | some sh =>
      closeStopped is ((s.setSheet i fun x => { x with
        jammed := x.jammed || sh.stuck }).closeSheet i (sh.location ≠ 0xFF))

/-! Imaging on a station. -/

/-- The sheet is imaged on station `n` in the sweep in progress. -/
def Sheet.imagedOn (sh : Sheet) (n : Nat) : Bool :=
  sh.state = .imaging && match sh.on n with | some i => i.started && !i.finished | none => false

/-- The slots imaged on a station. -/
def State.imagedOn (s : State) (n : Nat) : List Nat := s.slotsWhere fun sh => sh.imagedOn n

def State.setImaging (s : State) (slot n : Nat) (f : Imaging → Imaging) : State :=
  s.setSheet slot fun sh => { sh with imaging := sh.imaging.map fun i => if i.station = n then f i else i }

/-- No slot is in IMAGING. -/
def State.noneImaging (s : State) : Bool := (s.slotsWhere fun sh => sh.state = .imaging).isEmpty

/-- Lines of a sheet lost to emitter `e`, each counted once; each stands with the line start of the sweep in which it would have been
written, and the first of them stamps the sheet (12 R261, 24 R486). -/
def State.loseLines (s : State) (slot n e : Nat) (ls : List (Int × Nat)) : State :=
  match (s.sheet? slot).bind fun sh => sh.on n with
  | none => s
  | some i =>
    let fresh := ls.filter fun l => !i.lost.contains l.1
    let new := (fresh.map Prod.fst).eraseDups
    let time := fresh.foldl (fun t l => min t l.2) ((fresh.headD (0, s.now)).2)
    if new = [] then s
    else
      let s := s.setImaging slot n fun i => { i with lost := i.lost ++ new }
      let s := s.setStation n fun st => { st with pipe := { st.pipe with
        emitters := st.pipe.emitters.modify e fun x => { x with lost := x.lost + new.length } } }
      (s.setSheet slot fun sh => { sh with linesLost := satAdd 0xFFFF sh.linesLost new.length }).stamp slot
        Cause.EMITTER_LOST time

/-- A line a station needs is not there: once per sheet and station, the stamp and the event; the rest is shed (08 R178). -/
def State.underrun (s : State) (slot n line time : Nat) : State :=
  match (s.sheet? slot).bind fun sh => sh.on n with
  | none => s
  | some i =>
    if i.underrun then s
    else
      let s := (s.setImaging slot n fun i => { i with underrun := true }).stamp slot Cause.UNDERRUN time
      (s.raise Ev.UNDERRUN n slot (leBytes 4 line)).shed slot

end Sys2Proof.Machine
end

