-- ==== Sys2Proof/Machine/Warm.lean ====
section
/-! DEFINITION. The steps of WARMING and when each is at set point (05 R116), and the wait of SETTLE_HOLD that a lapse ends
(05 R103). -/

namespace Sys2Proof.Machine

def polygons : List Nat := [0, 1, 2, 3, 4]
def mechanics : List Nat := [5, 6, 7, 8, 9, 10, 11]

/-- The stations that take part in a run. -/
def State.runStations (s : State) : List Nat := allStations.filter s.running?

/-- The steps in the order of the table. -/
def warmSteps : List WarmStep := [.load, .fuser, .polygons, .plls, .beamDetect, .drums, .hv]

/-- A drive turns at its set-point under its slot. -/
def State.atSpeed (s : State) (d : Nat) (rpm : Int) : Bool := (s.drive d).running && (s.drive d).arrived rpm

/-- A drum, the belt or the roller runs under its closed slot. -/
def State.slavedRuns (s : State) (d : Nat) : Bool :=
  (s.drive d).running && match s.slotFor 1 d with
    | some n => (s.loop n).state = .closed || (s.loop n).state = .fenced
    | none => false

/-- Whether a step is at set point. LOAD_DONE says so of the load. -/
def State.stepHolds (s : State) : WarmStep → Bool
  | .load => s.modes.warmDone.contains .load
  | .fuser => (List.range 4).all fun z => !(s.zone z).enabled || (s.zone z).inBand
  | .polygons => s.runStations.all fun n => !s.livOn (Fld.DRV_EN n) || s.atSpeed n (s.polygonRpm n s.run.runN)
  | .plls => s.runStations.all s.locked
  | .beamDetect => s.runStations.all fun n => (s.station n).scan.state = .track
  | .drums => (mechanics.all fun d => !s.livOn (Fld.DRV_EN d) || s.slavedRuns d) &&
      s.runStations.all fun n => (s.station n).scan.based && !(s.station n).scan.toBase &&
        (s.station n).scan.err.natAbs ≤ 8
  | .hv => (List.range 24).all fun n => !(s.hvCh n).en || (s.hvCh n).settled

/-- BASE_CNT of some stations is to be set at their next edge with the drum loop closed (09 R200). -/
def reBase : List Nat → State → State
  | [], s => s
  | n :: ns, s => reBase ns (s.setScan n fun c => { c with toBase := true })

/-- READY wants every step held for SETTLE_HOLD (05 R103, R116): a lapse in that wait ends it, and the lapsed steps are to be done
again. -/
def State.watchHold (s : State) : State :=
  if s.mode = .warming ∧ s.modes.stopping = .none ∧ s.modes.allHeld.isSome = true ∧ warmSteps.all s.stepHolds = false then
    { s with modes := { s.modes with warmDone := s.modes.warmDone.filter s.stepHolds, allHeld := none } }
  else s

end Sys2Proof.Machine
end

