-- ==== Sys2Proof/Machine/StationOps.lean ====
section
/-! DEFINITION. The dot pipeline of one sweep (12), the codes as they leave, lost lines across plan switches (11 R234), the
laser enable and the tracking state OFF (09 R193, 13 R281). -/

namespace Sys2Proof.Machine

def State.emitter (s : State) (n e : Nat) : Emitter := (s.pipe n).emitters.getD e .reset
def State.setEmitter (s : State) (n e : Nat) (f : Emitter → Emitter) : State :=
  s.setPipe n fun p => { p with emitters := p.emitters.modify e f }

def zeroNat (_ : Nat) : Nat := 0
def zeroByte (_ : Nat) : Byte := 0

/-! Stage 1: the window reader (12 R240-R243). -/

/-- HOP and PHASE of emitter `e` in segment `j`, from a bank. -/
def segHop (bank : List (Nat × Nat)) (e j : Nat) : Int := signed 4 (Store.get zeroNat bank (32 * e + j) / 1024)
def segPhase (bank : List (Nat × Nat)) (e j : Nat) : Int := signed 10 (Store.get zeroNat bank (32 * e + j) % 1024)

/-- The whole dots W and the fine part f of a phase (12 R240, R243). -/
def phaseParts (fine : Bool) (ph : Int) : Int × Int := if fine then (ph / 64, ph % 64) else ((ph + 32) / 64, 0)

/-- What the window reader needs of one lane in one sweep. -/
structure LaneRead where
  emitter : Nat
  line    : Int
  row     : Word
  sheetId : Nat
  length  : Nat
  done    : Word          -- columns of this line that are exposed already (11 R234)

/-- A dot of a line of the window, by 07 R139. -/
def dotOf (w : WinLine) (x : Nat) : Nat := (w.bytes.getD (x / 2) 0).toNat / (if x % 2 = 0 then 1 else 16) % 16

/-- The level of slot `p` of a lane (12 R240, R241). -/
def State.levelAt (s : State) (n : Nat) (r : LaneRead) (p : Nat) : Nat :=
  let j := p / 1024
  let src := r.line + segHop (s.pipe n).segLive r.emitter j
  let x := (p : Int) - (phaseParts (s.on (Fld.STN_FINE_EN n)) (segPhase (s.pipe n).segLive r.emitter j)).1
  if r.line < 0 ∨ (r.length : Int) ≤ r.line ∨ r.row.getLsbD (p % 32) = false ∨ r.done.getLsbD (p % 32) = true ∨ src < 0 ∨
    (r.length : Int) ≤ src ∨ x < 0 ∨ (s.lineDots n : Int) ≤ x then 0
  else
    match s.winLine n r.sheetId src.toNat with
    | some w => if w.ready && !w.bad then dotOf w x.toNat else 0
    | none => 0

/-! Stages 2 to 4. -/

/-- The trim of emitter `e` at slot `p`; a word that fails its parity or is stuck gives 0 (12 R246, 18 R383, R385). -/
def State.trimAt (s : State) (n e p : Nat) : Int :=
  let a := 32768 * e + p
  if (s.pipe n).trimBad.contains (a / 16) || (s.pipe n).trimStuck.contains (a / 16) then 0
  else signed 6 (Store.get zeroByte (s.pipe n).trim a).toNat

/-- DCT[level][column] of a table (12 R250). -/
def dctAt (t : List (Nat × Nat)) (level column : Nat) : Nat := Store.get zeroNat t (64 * level + column)

/-- The energy codes of a lane. -/
def State.energyCodes (s : State) (n : Nat) (r : LaneRead) : List Nat :=
  (List.range (s.lineDots n)).map fun p =>
    dctAt (s.pipe n).dctLive (s.levelAt n r p) (s.trimAt n r.emitter p + 32).toNat

/-- Priming: `dark` slots of code 0 stand before the first of these (12 R252). -/
def prime (gap code : Nat) : Nat → List Nat → List Nat
  | _, [] => []
  | _, [c] => [c]
  | dark, c :: d :: l =>
    let c' := if c = 0 ∧ d ≠ 0 ∧ gap ≤ dark + 1 ∧ 0 < gap then code else c
    c' :: prime gap code (if c = 0 then dark + 1 else 0) (d :: l)

/-- The codes of a lane before the duty guard. -/
def State.laneCodes (s : State) (n : Nat) (r : LaneRead) : List Nat :=
  let w := s.liv (Fld.STN_PRIME_W n)
  let cs := s.energyCodes n r
  if w = 0 then cs else prime (s.liv (Fld.STN_PRIME_GAP n)) (55 + w) 0 cs

/-! Stages 5 and 6: the codes as they leave (12 R254-R256). -/

/-- The weight of a code, in sixteenths (12 R254). -/
def State.codeWeight (s : State) (n c : Nat) : Nat :=
  if c ≤ 55 then 16 * c else s.liv (Fld.STN_PRIME_W n) * s.liv (Fld.STN_PRIME_CODE n)

/-- DUTY_CLAMP as in force (12 R263). -/
def Pipe.clampCode (p : Pipe) : Nat := p.dutyCfg / 2 ^ 16 % 64

/-- A code through the duty guard and the lane gate. -/
def State.gateCode (s : State) (n e c : Nat) : Nat :=
  let x := s.emitter n e
  if x.gone || !(s.link n).laserEn then 0
  else if x.clamp || (s.pipe n).headClamp then (if 55 < c then 0 else min c (s.pipe n).clampCode)
  else c

/-- Codes sent of a lane, behind those sent of it before. -/
def addSent (e : Nat) (cs : List Nat) : List (Nat × List Nat) → List (Nat × List Nat)
  | [] => [(e, cs)]
  | (d, l) :: r => if d = e then (d, l ++ cs) :: r else (d, l) :: addSent e cs r

/-- What leaves of each lane is weighed and counted. -/
def weighLanes (n : Nat) : List (Nat × List Nat) → State → State
  | [], s => s
  | (e, cs) :: l, s =>
    let w := (cs.map (s.codeWeight n)).sum
    let s := s.setEmitter n e fun x => { x with
      weight := x.weight + w, dots := (x.dots + (cs.filter fun c => 0 < c).length) % 2 ^ 32 }
    weighLanes n l (s.setPipe n fun p => { p with headWeight := p.headWeight + w, sent := addSent e cs p.sent })

/-- Codes by emitter as codes by lane of the active plan (11 R225, 13 R269). -/
def State.byLane (s : State) (n : Nat) (l : List (Nat × List Nat)) : List (Nat × List Nat) :=
  let lanes := ((s.active n).map Plan.lanes).getD []
  l.filterMap fun x => ((List.range 32).find? fun i => lanes.getD i 0xFF = x.1).map fun i => (i, x.2)

/-- When a slot leaves. Segment 0 follows the 146 blocks of the header, segment j the first slot of segment j − 1; a segment's 1,024 slots take
3,072 blocks of 66 UI on four lanes (13 R264, R267, R271; log entry 42). -/
def State.slotTick (s : State) (n p : Nat) : Nat :=
  let from0 := match (s.link n).frame with | some f => f.sofAt + 20 | none => 0
  (if p < 1024 then from0 else (s.scan n).lineTick + s.dotTicks n (1024 * (p / 1024 - 1))) + p % 1024 * 99 / 250

/-- TIME with its data block: the line start after R and the dot period, in UI of 80 ps (13 R267, R270). COAST where the line start was placed
from a prediction (09 R192). -/
def State.timePart (s : State) (n r : Nat) : BeamPart :=
  let c := s.scan n
  let start := 256 * (125 * (c.edgeTick : Int) - r) +
    nearest (4 * 125 * s.startFine n c.facet c.slew * (s.pixRate n).2) (s.pixRate n).1
  .time (start % 2 ^ 32).toNat c.sweeps (c.state = .coast || c.state = .slew || c.state = .lost || !c.anchored)
    (nearest (125 * 2 ^ 24 * (s.pixRate n).2) (s.pixRate n).1).toNat

/-- Slots of one segment leave. With its last slot the segment's SEG_END follows, and behind that of segment 0 TIME (13 R267). -/
def State.sendRun (s : State) (n first count : Nat) : State :=
  let p := s.pipe n
  let gated := p.sending.map fun x => (x.1, ((x.2.drop first).take count).map (s.gateCode n x.1))
  let s := (weighLanes n gated s).setPipe n fun p => { p with sentTo := first + count }
  let s := s.out (.beam n (s.slotTick n first) (.slots (first / 1024) (first % 1024) count (s.byLane n gated)))
  if (first + count) % 1024 ≠ 0 then s
  else
    let j := first / 1024
    let seg := (s.pipe n).sent.map fun x => (x.1, (x.2.drop (1024 * j)).take 1024)
    let s := s.out (.beam n (s.slotTick n (1024 * j + 1023)) (.segEnd j (s.scan n).sweeps (s.byLane n seg)))
    match (s.link n).frame with
    | some f => if j = 0 then s.out (.beam n f.timeAt (s.timePart n f.r)) else s
    | none => s

/-- The slots of the frame in progress up to slot `upTo` leave, segment by segment. -/
def sendRuns (n upTo : Nat) : Nat → State → State
  | 0, s => s
  | fuel + 1, s =>
    let a := (s.pipe n).sentTo
    if upTo ≤ a then s else sendRuns n upTo fuel (s.sendRun n a (min (upTo - a) (1024 - a % 1024)))

/-- Slots leave only in a LINE frame whose line has started. Clamps and gates stay as they are between two calls. -/
def State.sendSlots (s : State) (n upTo : Nat) : State :=
  match (s.link n).frame with
  | some f => if f.lined && !f.sync then sendRuns n (min (s.lineDots n) upTo) 33 s else s
  | none => s

/-- The slots that have left by now: those of the segments up to the one behind the segment that fires, which is on its way. -/
def State.slotsDue (s : State) (n : Nat) : Nat :=
  let j := s.tickDots n (s.now - (s.scan n).lineTick) / 1024
  1024 * (j + 1) + min 1024 ((s.now - (s.scan n).lineTick - s.dotTicks n (1024 * j)) * 250 / 99)

/-- The slots whose time has come leave. -/
def State.sendNow (s : State) (n : Nat) : State := s.sendSlots n (s.slotsDue n)

/-- The rest of the line leaves. -/
def State.sendRest (s : State) (n : Nat) : State :=
  (s.sendSlots n (s.lineDots n)).setPipe n fun p => { p with sending := [], sentTo := 0 }

/-! The sweep frame's header (13 R268). -/

/-- The 12-bit DACs packed from bit 0 on. -/
def packDacs : List Nat → Nat
  | [] => 0
  | d :: ds => d % 4096 + 4096 * packDacs ds

/-- FINE of a lane in a segment. -/
def State.laneFine (s : State) (n e j : Nat) : Nat :=
  (phaseParts (s.on (Fld.STN_FINE_EN n)) (segPhase (s.pipe n).segLive e j)).2.toNat

/-- The header of the frame of sweep `sweep`, under the plan that writes it. -/
def State.header (s : State) (n sweep : Nat) : List Byte :=
  let plan := match (s.plans n).copying with
    | some c => if c.later then s.active n else c.slot.plan
    | none => s.active n
  let lanes := (plan.map Plan.lanes).getD (List.replicate 32 0)
  lanes.map (BitVec.ofNat 8) ++ leBytes 1 (s.liv (Fld.STN_LINE_KDOTS n)) ++ leBytes 1 (s.imm (Fld.STN_FINE_EN n)) ++
    leBytes 1 (s.liv (Fld.STN_PRIME_W n)) ++ leBytes 1 (s.liv (Fld.STN_PRIME_CODE n)) ++ leBytes 4 sweep ++
    leBytes 8 0 ++ leBytes 51 (packDacs ((List.range 34).map fun e => s.imm (Fld.STN_DAC n e))) ++ leBytes 29 0 ++
    lanes.flatMap fun e => (List.range 32).map fun j => BitVec.ofNat 8 (s.laneFine n e j)

/-- A frame begins: SOF, header, HDR_END. A station in ACQUIRE sends SYNC frames (13 R267); none begins while load is shed (21 R432). -/
def State.sendHead (s : State) (n sweep : Nat) : State :=
  if (s.link n).state ≠ .up ∨ (s.scan n).state = .off ∨ s.pair.role = .shadow ∨ s.feed.shedLoad = true then s
  else
    let sync : Bool := (s.scan n).state = .acquire
    let s := s.setLink n fun l => { l with frame := some ⟨sync, s.now, s.now, 125 * s.now, false⟩ }
    (s.out (.beam n s.now (.sof sync sweep))).out (.beam n s.now (.header (s.header n sweep)))

/-- The first block boundary of the lanes at or after a tick, in UI of the time base: 125 to a tick, 66 to a block (13 R264). -/
def State.boundary (s : State) (n tick : Nat) : Nat :=
  let t := (s.link n).blocksAt
  125 * t + (125 * (tick - t) + 65) / 66 * 66

/-- TIME of the frame in progress leaves 64 island cycles after the edge or the close of the window that places its line start: R is then
(13 R270; log entry 42). A station without a frame under way begins one here. -/
def State.placeTime (s : State) (n : Nat) : State :=
  let s := if (s.link n).frame.isNone then s.sendHead n (s.scan n).sweeps else s
  let t := s.now + s.dotTicks n 64
  s.setLink n fun l => { l with frame := l.frame.map fun f => { f with timeAt := t, r := s.boundary n t } }

/-! Plans, sweeps and lost lines (11 R234). -/

/-- The plans an image has followed: each with its first and last sweep, the last the active one. -/
def Imaging.spans (i : Imaging) (now : Option Plan) : List (Plan × Int × Int) :=
  let r := i.past.foldl (fun (a : List (Plan × Int × Int) × Int) x => (a.1 ++ [(x.1, a.2, x.2 - 1)], x.2)) ([], i.firstK)
  match now with
  | some p => r.1 ++ [(p, r.2, i.k)]
  | none => r.1

/-- The station's sweep count in sheet sweep `k`. -/
def Imaging.sweepAt (i : Imaging) (k : Int) : Int := i.sweep0 + (k - i.firstK)

/-- Emitter `e` is failed in sheet sweep `k`: from its first lost sweep on (12 R260). -/
def State.failedIn (s : State) (n e : Nat) (i : Imaging) (k : Int) : Bool :=
  (s.emitter n e).failed && (s.emitter n e).firstBad ≤ i.sweepAt k

/-- The columns of line `l` that earlier plans exposed before they were left (11 R234). -/
def State.exposed (s : State) (n : Nat) (i : Imaging) (l : Int) : Word :=
  (i.spans none).foldl (fun m x =>
    (x.1.writesOf (s.headOfs n) l).foldl (fun m w =>
      if x.2.1 ≤ w.2 && w.2 ≤ x.2.2 && !s.failedIn n (x.1.lanes.getD w.1 0) i w.2 then m ||| x.1.maskRow w.1 w.2 l else m) m) 0

/-- The columns of line `l` that plan `q` exposes at or after sweep `from` by emitters not failed. -/
def State.comes (s : State) (n : Nat) (q : Plan) (start l : Int) : Word :=
  (q.writesOf (s.headOfs n) l).foldl (fun m w =>
    if start ≤ w.2 && !s.emitterFailed n (q.lanes.getD w.1 0) then m ||| q.maskRow w.1 w.2 l else m) 0

/-- The lines a switch from the plans in `i.past` to `q` at sweep `start` loses (11 R234). -/
def State.switchLost (s : State) (n len : Nat) (i : Imaging) (q : Plan) (start : Int) : List Int :=
  let ofs := s.headOfs n
  let back : Int := (((s.pipe n).emitters.filter fun e => e.failed).map fun e => i.sweepAt start - e.firstBad).foldl max 0
  let lo := q.n * (start - back) - 1024
  let hi := q.n * start + q.oHi ofs
  ((List.range (hi - lo).toNat).map fun d => lo + (d : Int)).filter fun l =>
    0 ≤ l && l < (len : Int) && (s.exposed n i l ||| s.comes n q start l) != 0xFFFFFFFF#32

/-- The tick of the line start of a sweep of the image, reckoned from the station's last one. -/
def State.lineTickOf (s : State) (n : Nat) (i : Imaging) (k : Int) : Nat :=
  (((s.scan n).lineTick : Int) - (((s.scan n).sweeps : Int) - i.sweepAt k) * s.fineTicks n (s.sweepFine n)).toNat

/-- The line start of the first sweep in which a failed emitter would have written line `l` under the plans the image has left. -/
def State.lostAt (s : State) (n : Nat) (i : Imaging) (l : Int) : Nat :=
  let ks := (i.spans none).flatMap fun x => (x.1.writesOf (s.headOfs n) l).filterMap fun w =>
    if x.2.1 ≤ w.2 && s.failedIn n (x.1.lanes.getD w.1 0) i w.2 then some w.2 else none
  match ks with
  | [] => (s.scan n).lineTick
  | k :: ks => s.lineTickOf n i (ks.foldl min k)

/-- The lines emitter `e` would have written in sweeps `a` to `b` under the plans of an image, with the line starts of those sweeps. -/
def State.emitterLines (s : State) (n len e : Nat) (i : Imaging) (a b : Int) : List (Int × Nat) :=
  (i.spans (s.active n)).flatMap fun x =>
    match (List.range 32).find? fun j => x.1.lanes.getD j 0 = e with
    | none => []
    | some j =>
      let lo := max a x.2.1
      ((List.range (min b x.2.2 - lo + 1).toNat).map fun d => lo + (d : Int)).filterMap fun k =>
        match x.1.lineOf (s.headOfs n) j k with
        | some l => if 0 ≤ l && l < (len : Int) && x.1.maskRow j k l != 0 then some (l, s.lineTickOf n i k) else none
        | none => none

/-- The plan an image leaves before sweep `k` is entered among those it has followed. -/
def leavePlan (old : Option Plan) (k : Int) (i : Imaging) : Imaging :=
  match old with
  | some p => { i with past := i.past ++ [(p, k)] }
  | none => i

/-- The retrace is shorter than the 10 µs a copy needs (11 R233). -/
def State.shortRetrace (s : State) (n : Nat) : Bool :=
  s.fineTicks n (s.sweepFine n) - s.dotTicks n (s.lineDots n) < us 10

/-- The active plan's failed emitters. -/
def State.failedLanes (s : State) (n : Nat) : List Nat :=
  match s.active n with
  | some p => (List.range 34).filter fun e => p.lanes.contains e && s.emitterFailed n e
  | none => []

/-- The same-speed plan that is to replace the active one, and how many sweeps after the present one it starts to write (11 R233): one
that is copied, or the one that the end of this active scan will find. -/
def State.coming (s : State) (n : Nat) : Option (Plan × Nat) :=
  match (s.plans n).copying with
  | some c => c.slot.plan.map fun p => (p, if c.later then 2 else 1)
  | none =>
    ((s.failedLanes n).findSome? (s.sameSpeed n)).map fun p =>
      (p, (if s.scanEnd n (s.scan n).lineTick ≤ s.now then 2 else 1) + if s.shortRetrace n then 1 else 0)

/-- A line that the coming plan makes good, written by it or by an emitter that has not failed before it starts (11 R234). -/
def State.madeGood (s : State) (n : Nat) (i : Imaging) (l : Int) : Bool :=
  match s.coming n with
  | some (q, d) =>
    let start := i.k + d
    !i.finished && (s.exposed n (leavePlan (s.active n) start i) l ||| s.comes n q start l) = 0xFFFFFFFF#32
  | none => false

/-- Lines lost to emitter `e` from sweep `f` to the present one, on every sheet it touches, but for those that a switch makes good
(11 R234, 12 R261). -/
def loseFrom (n e f : Nat) : List Nat → State → State
  | [], s => s
  | slot :: l, s =>
    match s.sheet? slot with
    | none => loseFrom n e f l s
    | some sh =>
      match sh.on n with
      | none => loseFrom n e f l s
      | some i =>
        let a : Int := max i.firstK (i.firstK + ((f : Int) - i.sweep0))
        let ls := (s.emitterLines n (sh.lines n) e i a i.k).filter fun x => !s.madeGood n i x.1
        loseFrom n e f l (if i.started then s.loseLines slot n e ls else s)

/-! LASER_EN and the state OFF (09 R193, 13 R281). -/

/-- LASER_EN falls: what is on its way leaves first. -/
def State.laserOff (s : State) (n : Nat) : State :=
  if (s.link n).laserEn then (s.sendNow n).setLink n fun l => { l with laserEn := false } else s

/-- The number of sweeps coasted is raised on leaving COAST or SLEW (09 R197). -/
def State.leaveCoast (s : State) (n : Nat) : State :=
  if (s.scan n).state = .coast ∨ (s.scan n).state = .slew then
    s.raise Ev.BD_COAST n 0xFF [BitVec.ofNat 8 (s.scan n).coasted] else s

/-- The tracking state becomes OFF, the laser with it; the stream carries no frame any more (13 R267). -/
def State.trackOff (s : State) (n : Nat) : State :=
  if (s.scan n).state = .off then s.laserOff n
  else (((((s.laserOff n).setLink n fun l => { l with frame := none }).leaveCoast n).setScan n fun c => { c with
    state := .off, slew := 0, coasted := 0, run := [], anchored := false, trackRun := 0, window := false }).endCheck n).watchHold

def tracksOff : List Nat → State → State
  | [], s => s
  | n :: ns, s => tracksOff ns (s.trackOff n)

/-- Every condition of LASER_EN but the sync window's opening (13 R281). -/
def State.laserMay (s : State) (n : Nat) : Bool :=
  (s.link n).state = .up && (s.scan n).state ≠ .off && !s.safety.interlock && !s.pair.dboltIn && s.modes.stopping ≠ .safe &&
    s.modes.stopping ≠ .bridgesOff && (s.pll n).locked

/-- The nominal period at which a station acquires: as RUN_N scales it, in a speed-changing failover as its N′ does (11 R231, R236). -/
def State.periodDue (s : State) (n : Nat) : Int :=
  if s.run.slowStep = 2 then divOpen (64 * s.liv (Fld.STN_PERIOD_NOM n) * s.run.slowN) s.run.baseN else s.periodNom n

/-- A station goes to ACQUIRE (09 R193). PERIOD starts from PERIOD_NOM (09 R185). -/
def State.acquire (s : State) (n : Nat) : State :=
  (s.trackOff n).setScan n fun c => { c with
    state := .acquire, facet := 0, period := s.periodDue n, run := [], runStart := 0, coasted := 0, slew := 0 }

def acquireAll : List Nat → State → State
  | [], s => s
  | n :: ns, s => acquireAll ns (s.acquire n)

/-! Marks of failed emitters (12 R260, R261). -/

/-- A mark: EMITTER_FAILED, STNn_EMIT_LAST, its effect from the next end of active scan, and the lines lost up to now, entered as the mark
is made (12 R260, R261). DESIGN CHOICE: a repeated mark counts in REPEATS whatever brings it, a write of STNn_EMIT_MARK as well as a message
(log entry 41). -/
def State.mark (s : State) (n e kind f : Nat) : State :=
  if (s.emitter n e).failed then s.setPipe n fun p => { p with repeats := satAdd 0x7F p.repeats 1 }
  else
    let s := s.setEmitter n e fun x => { x with failed := true, firstBad := f }
    let s := s.setPipe n fun p => { p with lastEmit := e, lastKind := kind, lastFirst := f % 2 ^ 16, marks := p.marks ++ [⟨e, kind, f⟩] }
    loseFrom n e f (s.slotsWhere fun _ => true)
      (s.raise Ev.EMITTER_FAILED n 0xFF ([BitVec.ofNat 8 e, BitVec.ofNat 8 kind] ++ leBytes 2 f))

end Sys2Proof.Machine
end

