-- ==== Sys2Proof/Machine/Stop.lean ====
section
/-! DEFINITION. The safe-stop and the orderly stop as every cause shares them (05 R105-R109). Steps 1 to 4 take place in the
command that brings the cause, steps 5 to 7 in SAFE_STOP_REST or SAFE_STOP_MAX_EXPIRY; in STANDBY at once. -/

namespace Sys2Proof.Machine

/-- Commands that a safe-stop keeps from ever completing: they wait for an output that it removes (log entry 20). -/
def stoppedCmd (c : Cmd) : Bool :=
  motionOps.contains c.op ||
  [Op.HV_SET, Op.FUSER_SET, Op.PROFILE_RUN, Op.LOOP_CLOSE, Op.SET_MODE, Op.HEAD_CAL, Op.SHEET_CLEAR_REG].contains c.op ||
  (c.op = Op.HV_ENABLE && bit (par c.p 3 1) 0) || (c.op = Op.FUSER_ENABLE && bit (par c.p 1 1) 0)

/-- A running SET_MODE. -/
def isSetMode (c : Cmd) : Bool := c.op = Op.SET_MODE

/-- Every bridge off at once, for BUS_OV (05 R107 step 4). -/
def State.allBridgesOff (s : State) : State := axesOff (List.range 24) (bridgesOff (List.range 12) s)

/-- HEAD_CAL ends on every station. -/
def calsOff : List Nat → State → State
  | [], s => s
  | n :: ns, s => calsOff ns (s.setPipe n fun p => { p with calMask := 0, calSamples := [] })

/-- Steps 2 to 4 of a safe-stop (05 R107); `all` for BUS_OV. -/
def State.stopSteps (s : State) (all : Bool) : State :=
  let s := zonesOff (List.range 4) (hvOffAll (List.range 24) (tracksOff allStations (calsOff allStations s)))
  let s := stampAll Cause.SAFE_STOP s.now (s.slotsWhere fun sh => sh.state = .imaging) s
  let s := bridgesOff polygons s
  let s := if all then s.allBridgesOff else stopAxes (List.range 24) s.mechanicsStop
  let s := finishWhere stoppedCmd (fun _ => St.ABORTED_STOP) (fun _ => 0) s
  { s with
    run := { s.run with slowStep := 0 }, sheets := { s.sheets with blankRun := false },
    modes := { s.modes with stopping := if all then .bridgesOff else .safe, stopStart := s.now, draining := false } }.finishHv

/-! Entering STANDBY. -/

/-- A PLL is disabled in STANDBY, but for one that retries after a failed lock (10 R208, R219). -/
def pllsOff : List Nat → State → State
  | [], s => s
  | n :: ns, s =>
    pllsOff ns (s.setPll n fun p =>
      if p.halted then p else { p with enabled := false, locked := false, relocking := false, survey := false, trying := false })

/-- STANDBY is entered: stations OFF, PLLs disabled, enabled zones to their standby set-points (05 R104, 10 R208, 17 R366). -/
def State.enterStandby (s : State) : State :=
  let s := pllsOff allStations (tracksOff allStations s)
  let s := { s with modes := { s.modes with stopping := .none, draining := false, warmDone := [], allHeld := none } }
  moveZones (List.range 4) (s.enter .standby)

/-- Steps 5 to 7 of a safe-stop (05 R107): the remaining bridges, the records, STANDBY, and the commands that waited for
it. -/
def State.endSafeStop (s : State) : State :=
  let s := s.allBridgesOff
  let s := (closeStopped s.byOrder s).enterStandby
  let s := finishWhere (fun c => c.op = Op.SAFE_STOP) (fun _ => St.OK) (fun _ => 0) s
  finishWhere isSetMode (fun c => if par c.p 0 1 = 1 then St.OK else St.ABORTED_STOP)
    (fun c => if par c.p 0 1 = 1 then 1 else 0) s

/-! The orderly stop (05 R106). -/

/-- An orderly stop begins: HV ramps down, the mechanics and axes go to rest on their STOP limits, the polygons coast. The
lasers fall at each station's end of active scan. -/
def State.beginOrderly (s : State) : State :=
  let s := hvDownAll (List.range 24) s
  let s := bridgesOff polygons s.mechanicsStop
  let s := finishWhere (fun c => motionOps.contains c.op) (fun _ => St.ABORTED_STOP) (fun _ => 0)
    (stopAxes (List.range 24) s)
  { s with
    run := { s.run with slowStep := 0 },
    modes := { s.modes with stopping := .orderly, stopStart := s.now, draining := false } }

/-- Every drive of the mechanics and every axis is at rest, and every HV channel has ramped to zero and lost its enable. -/
def State.mechanicsAtRest (s : State) : Bool :=
  (mechanics.all fun d => (s.drive d).atRest) && ((List.range 24).all fun a => (s.axis a).atRest) &&
    (List.range 24).all fun n => !(s.hvCh n).en

/-- A halt cause arrives: it is latched, and the safe-stop begins, or the one that runs takes the extra action the cause
calls for (05 R107, R108). In STANDBY the mechanics are at rest already, and all its steps take place at once. -/
def State.halt (s : State) (cause : Nat) : State :=
  let all := cause = Halt.BUS_OV
  let s := s.latch cause
  if s.modes.stopping = .safe ∨ s.modes.stopping = .bridgesOff then
    if all then { s.allBridgesOff with modes := { s.allBridgesOff.modes with stopping := .bridgesOff } } else s
  else
    let t := s.stopSteps all
    if s.mode = .standby ∧ t.mechanicsAtRest = true then t.endSafeStop else t

/-- A drive trips: its bridge, its code, its commands, and the safe-stop with DRIVE_FAULT (14 R288). -/
def State.trip (s : State) (d code : Nat) : State := ((s.tripDrive d code).abortDrive d St.DRIVE_FAULT).halt Halt.DRIVE_FAULT

/-- The orderly stop ends: accepted sheets close HELD, the bridges go off, STANDBY is entered (05 R106). -/
def State.endOrderly (s : State) : State :=
  let s := (hvOffAll (List.range 24) s.allBridgesOff).holdAccepted.enterStandby
  finishWhere (fun c => isSetMode c && par c.p 0 1 = 1) (fun _ => St.OK) (fun _ => 1) s.finishHv

end Sys2Proof.Machine
end

