-- ==== Sys2Proof/Machine/Tumbler.lean ====
section
/-! DEFINITION. Tumbler groups (01 R20-R23, 24 R487-R492): their registers and tables, the consistency test of each, the
boundaries they wait for, landing, and how an apply ends. A group's shadow stands in `regs`, its live set in `live`. -/

namespace Sys2Proof.Machine

/-! Fused settings (22 R449): the value of the highest programmed slot, or the shipped one. A void slot gives none. -/

def FuseSetting.value (f : FuseSetting) (shipped : Nat) : Nat := (f.used.filterMap id).getLastD shipped

def fuseShipped (code : Nat) : Nat := [2, 5, 55, 0, 0, 0, 0, 1].getD (code - 1) 0

def State.fuse (s : State) (code : Nat) : Nat := (s.nv.fuses.getD (code - 1) (.shipped 0)).value (fuseShipped code)

def State.laserCeiling (s : State) (n : Nat) : Nat := (s.nv.ceilings.getD n (.shipped 4)).value 55

/-- The largest speed of a class, in mm/s (22 R449 code 1). -/
def classSpeed (c : Nat) : Nat := [600, 1000, 1450, 2032].getD c 0

/-! What belongs to a group (24 R487). -/

def groupCount (g : Nat) : Nat := [0, 32, 5, 5, 5, 5, 12, 24, 24, 3].getD g 0

def isStationGroup (g : Nat) : Bool := 2 ≤ g && g ≤ 5

/-- The registers of a group instance. -/
def groupRegs (g n : Nat) : List Nat :=
  match g with
  | 1 => [Reg.QUE_BASE_LO n, Reg.QUE_BASE_HI n, Reg.QUE_CFG n, Reg.QUE_WB_LO n, Reg.QUE_WB_HI n]
  | 2 => [Reg.STN_SCAN_CFG n, Reg.STN_START n, Reg.STN_PERIOD_NOM n, Reg.STN_HINGE_OFS n, Reg.STN_DRUM_CFG n,
      Reg.STN_DRUM_CPL n] ++ (List.range 12).map (Reg.STN_FACET n)
  | 3 => [Reg.STN_LINE_CFG n, Reg.STN_PLL_CFG n, Reg.STN_CLK_OUT01 n, Reg.STN_CLK_OUT23 n, Reg.STN_PIX_TARGET n]
  | 4 => (List.range 34).map (Reg.STN_HEAD_OFS n)
  | 5 => [Reg.STN_PRIME_CFG n]
  | 6 => [Reg.DRV_CFG n, Reg.DRV_MOTOR0 n, Reg.DRV_MOTOR1 n, Reg.DRV_PWM n, Reg.DRV_CURLOOP n, Reg.DRV_I_LIMIT n,
      Reg.DRV_ID_LIMIT n]
  | 7 => [Reg.LOOP_CFG n, Reg.LOOP_INSEL01 n, Reg.LOOP_INSEL23 n, Reg.LOOP_OUTSEL n, Reg.LOOP_INT n, Reg.LOOP_REF_CFG n]
  | 8 => [Reg.AXS_CFG n, Reg.AXS_SCALE n, Reg.AXS_ENC_CPS n]
  | _ => []

/-- The channels of an AFE bank (19 R387). -/
def bankOf (c : Nat) : Nat := if c < 60 then 0 else if c < 120 then 1 else 2

def bankChannels (b : Nat) : List Nat := (List.range 160).filter fun c => bankOf c = b

/-- The table entries of a group's shadow that are part of its snapshot. -/
def State.groupTables (s : State) (g n : Nat) : List (Nat × Nat) :=
  match g with
  | 5 => (s.pipe n).dctShadow
  | 7 => (s.loop n).coefShadow.map fun c => (c.1, c.2.toNat)
  | 9 => (bankChannels n).flatMap fun c =>
      [(2 * c, (s.afeChan c).gainShadow.toNat), (2 * c + 1, (s.afeChan c).ofsShadow.toNat)]
  | _ => []

/-- The island of a group instance is power-gated, or its station is going down (21 R437, 24 R492). -/
def State.groupGated (s : State) (g n : Nat) : Bool :=
  isStationGroup g && (!(s.station n).powered || (s.station n).pending.isSome)

/-! The consistency tests. Each says whether the shadow is inconsistent; `imm` reads the shadow. -/

/-- Two live queues would serve one duty (03 R57). -/
def State.twoQueues (s : State) (q : Nat) : Bool :=
  let ty := s.imm (Fld.QUE_TYPE q)
  (List.range 32).any fun r => r ≠ q && s.queueType r = ty &&
    (ty = Ty.EVENT || ty = Ty.SHEET_RECORD || ty = Ty.AUDIT ||
      (ty = Ty.DATA_REQUEST && s.liv (Fld.QUE_STATION r) = s.imm (Fld.QUE_STATION q)))

/-- The ring or its write-back would lie past the top of the address space (03 R57). -/
def State.ringPast (s : State) (q : Nat) : Bool :=
  let ty := s.imm (Fld.QUE_TYPE q)
  let base := s.imm (Fld.QUE_BASE_LO_ADDR_LO q) * 64 + s.imm (Fld.QUE_BASE_HI_ADDR_HI q) * 2 ^ 32
  let wb := s.imm (Fld.QUE_WB_LO_ADDR_LO q) * 4 + s.imm (Fld.QUE_WB_HI_ADDR_HI q) * 2 ^ 32
  ty ≠ Ty.UNUSED && (2 ^ 64 < base + 2 ^ s.imm (Fld.QUE_SIZE_LOG2 q) * entrySize ty || 2 ^ 64 < wb + 4)

def State.badRing (s : State) (q : Nat) : Bool :=
  let size := s.imm (Fld.QUE_SIZE_LOG2 q)
  6 < s.imm (Fld.QUE_TYPE q) || size < 4 || 12 < size ||
    (s.on (Fld.QUE_URGENT q) && s.imm (Fld.QUE_TYPE q) ≠ Ty.SUBMISSION) || s.twoQueues q || s.ringPast q

/-- The speed class is exceeded (22 R449 code 1). -/
def State.overSpeed (s : State) (khz period : Nat) : Bool :=
  classSpeed (s.fuse 1) < (2 * s.imm Fld.BASE_N * 105833 * khz + 10000 * period) / (20000 * period)

/-- The encoder is assigned to a stepper axis other than `but` (14 R289, 16 R333). -/
def State.axisEncoder (s : State) (e but : Nat) : Bool :=
  (List.range 24).any fun a => a ≠ but && s.livOn (Fld.AXS_ENC_EN a) && s.liv (Fld.AXS_ENC_SEL a) = e

/-- The tests of STNn_SCAN: R188, test 5 at the PERIOD_NOM that RUN_N scales (11 R231), R257 and R272. -/
def State.badScan (s : State) (n : Nat) : Bool :=
  let facets := s.imm (Fld.STN_FACETS n)
  let start := s.imm (Fld.STN_START_DOTS n)
  let period := s.imm (Fld.STN_PERIOD_NOM n)
  let run := if s.run.runN = s.run.baseN then period else scaled period s.run.runN s.run.baseN
  let adj (f : Nat) : Int := s.immInt (Fld.STN_START_ADJ n f)
  let live := List.range facets
  let sigs := (live.map fun f => s.immInt (Fld.STN_SIG n f)).sum
  let line := s.lineDots n
  let lead := s.imm (Fld.STN_SYNC_LEAD n)
  let win := s.bdWin n
  let khz := s.liv (Fld.STN_TARGET_KHZ n)
  let adjMax := (live.map adj).foldl max (adj 0)
  facets < 4 || 12 < facets ||
    ((List.range 12).any fun f => facets ≤ f && s.reg (Reg.STN_FACET n f) ≠ 0) ||
    facets < sigs.natAbs ||
    (live.any fun f => (64 * start : Nat) + adj f < 64 * 512) ||
    (live.any fun f => (64 * run : Nat) < (64 * (start + line + lead + win + 64) : Nat) + adj f) ||
    s.axisEncoder (s.imm (Fld.STN_DRUM_ENC n)) 24 || s.imm (Fld.STN_DRUM_CPL n) = 0 ||
    (period : Int) - lead - start - line + (-adjMax) / 64 <
      (s.imm (Fld.STN_APC_DELAY n) + 2 * s.imm (Fld.STN_APC_DOTS n) + 64 : Nat) ||
    badRetrace period line start win khz || s.overSpeed khz period

/-- f_vco and f_pll as fractions of REF_DIV break R205 (10 R205). -/
def badClock (ref nfb div : Nat) : Bool :=
  ref < 1 || 25 < ref || 25 * nfb < 2400 * ref || 3600 * ref < 25 * nfb || div % 4 ≠ 0 || div < 12 || 72 < div ||
    25 * nfb < 50 * ref * div || 200 * ref * div < 25 * nfb

/-- The band does not hold f_vco within BAND_MARGIN, in steps of 0.5 % (10 R206 test 3). -/
def State.badBand (s : State) (n band ref nfb : Nat) : Bool :=
  let m := s.imm (Fld.STN_BAND_MARGIN n)
  !s.on (Fld.STN_BAND_VALID n band) ||
    200 * 25 * nfb < s.imm (Fld.STN_BAND_LO n band) * (200 + m) * ref ||
    s.imm (Fld.STN_BAND_HI n band) * (200 - m) * ref < 200 * 25 * nfb

def State.badLine (s : State) (n : Nat) : Bool :=
  let kdots := s.imm (Fld.STN_LINE_KDOTS n)
  let ref := s.imm (Fld.STN_REF_DIV n)
  let nfb := s.imm (Fld.STN_N_FB n)
  let div0 := s.imm (Fld.STN_DIV0 n)
  let div2 := s.imm (Fld.STN_DIV2 n)
  let div3 := s.imm (Fld.STN_DIV3 n)
  let khz := s.imm (Fld.STN_TARGET_KHZ n)
  let period := s.liv (Fld.STN_PERIOD_NOM n)
  kdots < 4 || 32 < kdots || s.imm (Fld.STN_SEGMENTS n) ≠ kdots || badClock ref nfb div0 ||
    s.badBand n (s.imm (Fld.STN_BAND n)) ref nfb ||
    4 * s.imm (Fld.STN_DIV1 n) ≠ div0 || s.imm (Fld.STN_DELAY1 n) ≠ s.imm (Fld.STN_DELAY0 n) ||
    !s.on (Fld.STN_EN0 n) || !s.on (Fld.STN_EN1 n) || !s.on (Fld.STN_EN3 n) || div3 = 0 ||
    25 * nfb < 10 * ref * div3 || 50 * ref * div3 < 25 * nfb ||
    (s.on (Fld.STN_EN2 n) && div2 ≠ div0 && div2 ≠ 2 * div0) ||
    1500 * (25000 * nfb) < 1000000 * ((khz * ref * div0 : Nat) - (25000 * nfb : Nat) : Int).natAbs ||
    (s.on (Fld.STN_PLL_MODE n) && ref ≠ 1) ||
    badRetrace period (1024 * kdots) (s.liv (Fld.STN_START_DOTS n)) (s.bdWin n) khz || s.overSpeed khz period

/-- The drive-code table and priming (12 R251). -/
def State.badDrive (s : State) (n : Nat) : Bool :=
  let t := (s.pipe n).dctShadow
  let top := min 55 (s.laserCeiling n)
  let columns := List.range 64
  let code := s.imm (Fld.STN_PRIME_CODE n)
  let ceil := s.imm (Fld.STN_PRIME_CEIL n)
  let w := s.imm (Fld.STN_PRIME_W n)
  (columns.any fun c => dctAt t 0 c ≠ 0) || (t.any fun x => top < x.2) ||
    ((List.range 15).any fun l => columns.any fun c => dctAt t (l + 1) c < dctAt t l c) || 8 < w ||
    (w ≠ 0 && (s.imm (Fld.STN_PRIME_GAP n) = 0 || top < code || 16 * ceil < w * code ||
      (columns.any fun c => dctAt t 1 c ≤ ceil)))

/-- The test of R289. POLES always lies within 1 to 16, since 0 reads as 16 (14 R312). -/
def State.badMotor (s : State) (d : Nat) : Bool :=
  let period := s.imm (Fld.DRV_PERIOD d)
  let dead := s.imm (Fld.DRV_DEAD d)
  let imax := s.imm (Fld.DRV_I_MAX d)
  let enc := s.on (Fld.DRV_ENC_EN d)
  let mech := 5 ≤ d && d ≤ 10
  period < 1000 || 12500 < period || dead < 5 || period < 16 * dead ||
    s.imm (Fld.DRV_I_TRIP d) ≤ imax || imax < s.imm (Fld.DRV_ID_FW_MAX d) || imax < s.imm (Fld.DRV_ID_FB d) ||
    enc ≠ mech || s.axisEncoder (s.imm (Fld.DRV_ENC_SEL d)) 24 || (s.on (Fld.DRV_FW_EN d) && 4 < d) ||
    250000 * s.imm Fld.OV1 < s.imm (Fld.DRV_KE d) * s.imm (Fld.DRV_MAX_RPM d)

/-- A reserved KIND or an INDEX out of range among the inputs (15 R316), or a KIND 5 input that names its own slot. -/
def badInput (n : Nat) (sel : Nat × Nat) : Bool :=
  match sel.1 with
  | 0 => false
  | 1 => 12 ≤ sel.2 | 2 => 8 ≤ sel.2 | 3 => 160 ≤ sel.2 | 4 => 8 ≤ sel.2
  | 5 => 96 ≤ sel.2 || sel.2 / 4 = n
  | 6 => 12 ≤ sel.2 | 7 => sel.2 ≠ 0
  | _ => true

/-- A reserved KIND or an INDEX out of range among the outputs (15 R317). -/
def badOutput (sel : Nat × Nat) : Bool :=
  match sel.1 with
  | 0 => false | 1 => 12 ≤ sel.2 | 2 => 4 ≤ sel.2 | 3 => 24 ≤ sel.2 | 4 => false
  | _ => true

/-- The destination is named by another slot's live group (15 R317, R319 test 4). -/
def State.destTaken (s : State) (n : Nat) (d : Nat × Nat) : Bool :=
  1 ≤ d.1 && d.1 ≤ 3 && (List.range 24).any fun m => m ≠ n &&
    (List.range (s.liv (Fld.LOOP_NY m))).any fun k => s.loopOutput m k = d

/-- A slot samples faster than 50 kHz (15 R319 test 2). -/
def State.badRate (s : State) (n : Nat) : Bool :=
  let sample := s.imm (Fld.LOOP_SAMPLE n)
  if s.on (Fld.LOOP_SYNC n) then sample = 0 || s.liv (Fld.DRV_PERIOD (s.imm (Fld.LOOP_SYNC_DRV n))) * sample < 2000
  else sample < 20

def State.badCoef (s : State) (n : Nat) : Bool :=
  let nx := s.imm (Fld.LOOP_NX n)
  let nm := s.imm (Fld.LOOP_NM n)
  let ny := s.imm (Fld.LOOP_NY n)
  let i01 := (s.reg (Reg.LOOP_INSEL01 n)).toNat
  let i23 := (s.reg (Reg.LOOP_INSEL23 n)).toNat
  let out := (s.reg (Reg.LOOP_OUTSEL n)).toNat
  let t (i : Nat) : Int := (Store.get (fun _ => (0 : Word)) (s.loop n).coefShadow i).toInt
  let mode := s.imm (Fld.LOOP_REF_MODE n)
  nx < 1 || 8 < nx || 4 < nm || ny < 1 || 4 < ny || s.badRate n ||
    ((List.range nm).any fun i => badInput n (inputSel i01 i23 i)) ||
    ((List.range ny).any fun k => badOutput (outputSel out k) || s.destTaken n (outputSel out k)) ||
    ((List.range 8).any fun i => bit (s.imm (Fld.LOOP_INT_EN n)) i &&
      (nx ≤ i || ny ≤ bitsOf (s.imm (Fld.LOOP_INT_OUT n)) (2 * i) 2)) ||
    ((List.range ny).any fun k => t (0xB9 + 2 * k) ≤ t (0xB8 + 2 * k)) ||
    mode = 3 || (mode = 1 && (5 ≤ s.imm (Fld.LOOP_REF_STN n) || !(s.station (s.imm (Fld.LOOP_REF_STN n))).powered)) ||
    (mode = 2 && s.imm (Fld.LOOP_REF_SLOT n) = n)

def State.badGeom (s : State) (n : Nat) : Bool :=
  let period := s.imm (Fld.AXS_PERIOD n)
  let g := s.imm (Fld.AXS_GROUP n)
  let e := s.imm (Fld.AXS_ENC_SEL n)
  let others := (List.range 24).filter fun m => m ≠ n && s.liv (Fld.AXS_GROUP m) = g
  8 < s.imm (Fld.AXS_MICRO n) || period < 1000 || 5000 < period || (8 ≤ g && g ≠ 15) || (g < 8 && 6 ≤ others.length) ||
    (g < 8 && s.imm (Fld.AXS_SCALE n) = 0) ||
    (s.on (Fld.AXS_ENC_EN n) && (s.imm (Fld.AXS_ENC_CPS n) = 0 || s.axisEncoder e n ||
      ((List.range 5).any fun m => (s.station m).powered && s.liv (Fld.STN_DRUM_ENC m) = e) ||
      ((List.range 12).any fun d => s.livOn (Fld.DRV_ENC_EN d) && s.liv (Fld.DRV_ENC_SEL d) = e)))

/-- OFS in [11:0] is signed; GAIN of channels 0 to 151 is not 0 (19 R397). -/
def State.badChannels (s : State) (b : Nat) : Bool :=
  (bankChannels b).any fun c =>
    signed 12 (s.afeChan c).ofsShadow.toNat = -2048 || (c < 152 && (s.afeChan c).gainShadow = 0)

/-- The group's shadow is inconsistent (01 R20, R22). STNn_HEAD has no test of its own (11 R221). -/
def State.inconsistent (s : State) (g n : Nat) : Bool :=
  match g with
  | 1 => s.badRing n | 2 => s.badScan n | 3 => s.badLine n | 5 => s.badDrive n | 6 => s.badMotor n
  | 7 => s.badCoef n | 8 => s.badGeom n | 9 => s.badChannels n
  | _ => false

/-- A loop slot that is neither OPEN nor off (15 R319). -/
def State.slotClosed (s : State) (g n : Nat) : Bool :=
  g = Grp.LOOP_COEF && ((s.loop n).state = .closed || (s.loop n).state = .fenced)

/-- The checks of an apply before its snapshot is taken, in the order of the packet checks (24 R492). -/
def applyChecks (s : State) (g n : Nat) : List (Bool × Nat) :=
  [(s.groupGated g n && n < 5, St.DOMAIN_OFF), (s.slotClosed g n, St.LOOP_CLOSED),
    (groupCount g ≠ 0 && groupCount g ≤ n, St.BAD_TARGET), (groupCount g = 0, St.BAD_PARAM),
    (s.inconsistent g n, St.TUMBLER_INCONSISTENT)]

/-! Waiting and landing. -/

/-- The apply taken into the wait: the snapshot of the shadow, and the deadline of R22. -/
def State.waitApply (s : State) (g n : Nat) (cmd : Option Nat) : State :=
  let a : Apply := ⟨g, n, (groupRegs g n).map fun r => (r, s.reg r), s.groupTables g n,
    s.now + ms (s.imm Fld.TUMBLER_TIMEOUT), cmd, false⟩
  { s with tumbler := { s.tumbler with waiting := s.tumbler.waiting ++ [a] } }

def Apply.is (a : Apply) (g n : Nat) : Bool := a.group = g && a.inst = n

/-- The oldest apply of a group instance that has not landed (01 R23). -/
def State.firstApply (s : State) (g n : Nat) : Option Apply :=
  s.tumbler.waiting.find? fun a => a.is g n && !a.landed

/-- The word that an apply would make live at an address. -/
def Apply.word (a : Apply) (r : Nat) : Word := ((a.words.find? fun w => w.1 = r).map Prod.snd).getD 0

/-- An apply of STNn_LINE changes a clock field (10 R207). -/
def State.clockChange (s : State) (a : Apply) : Bool :=
  [Reg.STN_PLL_CFG a.inst, Reg.STN_CLK_OUT01 a.inst, Reg.STN_CLK_OUT23 a.inst].any fun r => a.word r ≠ s.liveReg r

/-- The axes are at rest with empty queues (16 R333). -/
def State.axesRest (s : State) (l : List Nat) : Bool := l.all fun n => (s.axis n).atRest && (s.axis n).queue.isEmpty

/-- The further condition of an apply's boundary (01 R20, R21; 09 R189; 10 R207; 11 R221; 14 R289; 15 R319; 16 R333). -/
def State.suitable (s : State) (a : Apply) : Bool :=
  let n := a.inst
  let off := (s.scan n).state = .off
  let noImage := s.mode ≠ .printing || (s.imagedOn n).isEmpty
  match a.group with
  | 1 => !s.queueOn n
  | 2 => noImage && (a.word (Reg.STN_HINGE_OFS n) = s.liveReg (Reg.STN_HINGE_OFS n) || s.noneImaging)
  | 3 => noImage && (off || !s.clockChange a)
  | 4 => noImage && off
  | 5 => noImage
  | 6 => !(s.drive n).bridge
  | 7 => (s.loop n).state = .opened || (s.loop n).state = .off
  | 8 =>
    let old := s.liv (Fld.AXS_GROUP n)
    let new := wordField (a.word (Reg.AXS_CFG n)) (Fld.AXS_GROUP n)
    s.axesRest (n :: ((if old < 8 then s.members old else []) ++ (if new < 8 then s.members new else [])))
  | _ => true

/-- BASE of the live clock set: round((TARGET_KHZ / f_pll − 1) × 2^24) (10 R206). -/
def State.baseOf (s : State) (n : Nat) : Int :=
  let f : Int := 25000 * s.liv (Fld.STN_N_FB n)
  let t : Int := s.liv (Fld.STN_TARGET_KHZ n) * s.liv (Fld.STN_REF_DIV n) * s.liv (Fld.STN_DIV0 n)
  divOpen (2 * (t - f) * 2 ^ 24 + f) (2 * f)

/-- What becomes live with a group beside its words. A station that is OFF writes no line and takes BASE at once; one that tracks takes it
at its next line start (10 R206, R215). A PLL that retries uses the new set at its next retry (10 R219); one that relocks here is not
RELOCKING, which the manual gives to a relock after an unlock and to a retry of R219 (DESIGN CHOICE, log entry 46). -/
def State.landed (s : State) (a : Apply) (clock : Bool) : State :=
  let n := a.inst
  match a.group with
  | 1 => s.flush
  | 2 => s.project
  | 3 =>
    let s := if (s.scan n).state = .off then s.setPll n fun p => { p with base := s.baseOf n } else s
    if clock ∧ (s.pll n).enabled then
      if (s.pll n).halted then s.setPll n fun p => { p with locked := false, trying := false } else s.startLock n
    else s
  | 4 => s.revalidate n
  | 5 => s.setPipe n fun p => { p with dctLive := a.tables }
  | 6 => s.disableDrive n
  | 7 =>
    s.setLoop n fun L => { L with
      state := if s.livOn (Fld.LOOP_EN n) then .opened else .off,
      coefLive := a.tables.map fun x => (x.1, BitVec.ofNat 32 x.2), x := List.replicate 8 0 }
  | 8 =>
    s.setAxis n fun x => { x with
      state := if s.livOn (Fld.AXS_EN n) then (if x.state = .off then .hold else x.state) else .off,
      energised := s.livOn (Fld.AXS_EN n), offAt := if x.energised && !s.livOn (Fld.AXS_EN n) then s.now else x.offAt }
  | 9 =>
    a.tables.foldl (fun s x => s.setAfeChan (x.1 / 2) fun C =>
      if x.1 % 2 = 0 then { C with gainLive := BitVec.ofNat 32 x.2, written := false }
      else { C with ofsLive := BitVec.ofNat 32 x.2, written := false }) s
  | _ => s

/-! How an apply ends. -/

/-- Starts the applies of a profile one after another; each that is rejected at once gives its status, and the first status
that is not OK is the profile's (22 R445, 24 R493). With none left SWAP is requested for each station. -/
def runProfile (q : Nat) : List (Nat × Nat) → State → State
  | [], s =>
    let s := { s with tumbler := { s.tumbler with profile := none } }
    let s := { s with stations := s.stations.map fun st =>
      if st.powered then { st with pipe := { st.pipe with swapWait := true } } else st }
    finishWhere (fun c => c.seq = q) (fun c => c.notes.headD St.OK) (fun _ => 0) s
  | (g, n) :: rest, s =>
    match firstFail (applyChecks s g n) with
    | some st => runProfile q rest (s.noteCmd q fun l => if l.isEmpty then [st] else l)
    | none =>
      let s := s.waitApply g n (some q)
      { s with tumbler := { s.tumbler with profile := some (q, rest) } }

/-- An apply that waits no longer ends with a status: its command completes, LAST_STATUS is set, or the profile goes on. -/
def State.endApply (s : State) (a : Apply) (st : Nat) : State :=
  let s := { s with tumbler := { s.tumbler with waiting := s.tumbler.waiting.erase a } }
  match a.cmd, s.tumbler.profile with
  | none, _ => { s with tumbler := { s.tumbler with lastStatus := st } }
  | some q, some (p, rest) =>
    if p = q then runProfile q rest (if st = St.OK then s else s.noteCmd q fun l => if l.isEmpty then [st] else l)
    else finish q st 0 s
  | some q, none => finish q st 0 s

/-- An apply lands: its words become live. One that must wait for a lock stays, landed (10 R207). -/
def State.landApply (s : State) (a : Apply) : State :=
  let g := a.group
  let n := a.inst
  let clock := g = Grp.STN_LINE && s.clockChange a
  let s := { s with live := Store.putAll resetWord s.live a.words }
  let s := s.landed a clock
  let s := s.mirrorOn (.config (.applied g n))
  if clock && (s.pll n).enabled then
    let b := { a with landed := true, deadline := s.now + us (100 * s.imm (Fld.STN_RELOCK_MAX n)) }
    { s with tumbler := { s.tumbler with waiting := s.tumbler.waiting.map fun x => if x = a then b else x } }
  else s.endApply a St.OK

/-- Lands the oldest apply of a group instance if this boundary suits it. On a SHADOW an apply lands where the LEAD's did, by
message (20 R405). -/
def State.landGroup (s : State) (g n : Nat) : State :=
  match s.firstApply g n with
  | none => s
  | some a => if s.pair.role = .shadow || !s.suitable a then s else s.landApply a

def landEach (n : Nat) : List Nat → State → State
  | [], s => s
  | g :: gs, s => landEach n gs (s.landGroup g n)

/-- The boundary of a station: the four groups (01 R20). -/
def State.landStation (s : State) (n : Nat) : State := landEach n [2, 3, 4, 5] s

def landInstances (g : Nat) : List Nat → State → State
  | [], s => s
  | n :: ns, s => landInstances g ns (s.landGroup g n)

/-- Ends a list of applies. -/
def endApplies (st : Nat) : List Apply → State → State
  | [], s => s
  | a :: l, s => endApplies st l (s.endApply a st)

/-- A per-function reset of the target's function while an apply waits: ABORTED_RESET, the shadow kept (24 R492). -/
def State.abortApplies (s : State) (p : Apply → Bool) : State :=
  endApplies St.ABORTED_RESET (s.tumbler.waiting.filter p) s

/-- An apply is started by a command that has passed its checks: rejected, or waiting. -/
def State.beginApply (s : State) (g n : Nat) (c : Cmd) : State :=
  match firstFail (applyChecks s g n) with
  | some st => complete c st 0 s
  | none => (s.waitApply g n (some c.seq)).start c

end Sys2Proof.Machine
end

