-- ==== Sys2Proof/Machine/Drives.lean ====
section
/-! DEFINITION. The three-phase drives (14): the drive commands, one PWM period, plausibility, fallback, starts, stops and
flux braking. -/

namespace Sys2Proof.Machine

/-! Commands (14 R297, R302, R307). -/

/-- TARGET names no enabled drive. -/
def noDrive (s : State) (p : Packet) : Bool × Nat := (12 ≤ p.target || !s.livOn (Fld.DRV_EN p.target), St.BAD_TARGET)

/-- A drive is free for DRIVE_START: its bridge is off, or its start is only pending (14 R297, R299). -/
def Drive.free (d : Drive) : Bool := d.state = .off || d.pending

def execDriveStart (p : Packet) (s : State) : Result :=
  command Op.DRIVE_START .owner p (fun s =>
    [inModes s (· = .service), noHalt s, (!(s.drive p.target).free, St.TARGET_BUSY), noDrive s p, params p [(0, 5)],
      badParam (1 < par p 4 1)])
    (fun c s => (s.listen p.target (parInt p 0 4) (par p 4 1)).start c) s

def execDriveSpeed (p : Packet) (s : State) : Result :=
  command Op.DRIVE_SPEED .owner p (fun s =>
    [inModes s (· = .service), noHalt s, (!(s.drive p.target).running, St.TARGET_BUSY), noDrive s p, params p [(0, 4)]])
    (fun c s =>
      let s := finishWhere (driveCmd [Op.DRIVE_SPEED, Op.STOP, Op.EMERGENCY_STOP] p.target) (fun _ => St.ABORTED_HOST)
        (fun _ => 0) s
      (s.driveMove p.target (s.rampMove p.target (parInt p 0 4))).start c) s

def execDriveBrake (p : Packet) (s : State) : Result :=
  command Op.DRIVE_BRAKE .owner p (fun s =>
    [inModes s (fun m => m = .standby || m = .service), ((s.drive p.target).state = .tripped, St.DRIVE_FAULT), noDrive s p,
      params p []])
    (fun c s =>
      let s := s.abortDrive p.target St.ABORTED_HOST
      let s := if (s.drive p.target).running then s.fluxBrake p.target
        else (s.bridgeOff p.target).listen p.target 0 0
      s.start c) s

/-! STOP and EMERGENCY_STOP of a drive (14 R304), which 16 R340 and R341 share with the axes. -/

/-- STOP: earlier commands complete, a pending start is cancelled, the move to zero begins. -/
def State.stopDrive (s : State) (d : Nat) (c : Cmd) : State :=
  let s := (s.abortDrive d St.ABORTED_STOP).setDrive d fun D => { D with pending := false }
  if (s.drive d).running then (s.driveMove d (s.stopMove d)).start c else complete c St.OK 0 (s.bridgeOff d)

/-- EMERGENCY_STOP. -/
def State.estopDrive (s : State) (d : Nat) (c : Cmd) : State :=
  let s := (s.abortDrive d St.ABORTED_STOP).setDrive d fun D => { D with pending := false }
  if (s.drive d).running && s.imm (Fld.DRV_ESTOP_DEC d) ≠ 0 then (s.driveMove d (s.estopMove d)).start c
  else complete c St.OK 0 (s.bridgeOff d)

/-! One PWM period (14 R286-R296, R306). -/

/-- |a − b| of two angles in 1/65,536 turn, the shorter way. -/
def angleDiff (a b : Nat) : Nat :=
  let d := (a + 65536 - b % 65536) % 65536
  min d (65536 - d)

/-- The speed the drive controls on: the encoder's unless it is distrusted (14 R290, R292). -/
def State.controlSpeed (s : State) (d : Nat) (i : DriveInput) : Int :=
  if s.livOn (Fld.DRV_ENC_EN d) && !(s.drive d).distrust then i.encSpeed else i.speed

/-- The angle of a normal start: the alignment's, then that of the stepped frequency (14 R301). -/
def State.startAngle (s : State) (d : Nat) : Nat :=
  let D := s.drive d
  let turn := (if s.liv (Fld.DRV_POLES d) = 0 then 16 else s.liv (Fld.DRV_POLES d)) * s.stepped d * (s.now - D.since) * 65536 /
    1200000000000000000 % 65536
  if D.aligning then 0 else if D.target < 0 then (65536 - turn) % 65536 else turn

/-- The angle it controls on. -/
def State.controlAngle (s : State) (d : Nat) (i : DriveInput) : Nat :=
  if (s.drive d).state = .start then s.startAngle d else
  if s.livOn (Fld.DRV_ENC_EN d) && !(s.drive d).distrust then i.encAngle else i.angle

/-- The encoder and the observer agree within ENC_TOL (14 R291 test 4). -/
def State.encAgrees (s : State) (d : Nat) (i : DriveInput) : Bool :=
  360 * angleDiff i.angle i.encAngle ≤ 65536 * s.imm (Fld.DRV_ENC_TOL d)

/-- The four tests of R291, true where one fails. -/
def State.obsTests (s : State) (d : Nat) (i : DriveInput) : List Bool :=
  let sp := i.speed.natAbs
  let ke := s.liv (Fld.DRV_KE d)
  let fast := 16 * s.imm (Fld.DRV_ZC_MIN d) < sp
  [s.imm (Fld.DRV_OBS_RES d) * s.liv (Fld.DRV_I_MAX d) < 256 * i.resid,
    fast && (s.imm (Fld.DRV_EMF_TOL d) * ke * sp : Nat) < 256 * ((160000 * i.emf : Nat) - (ke * sp : Nat) : Int).natAbs,
    fast && s.imm (Fld.DRV_ACC_PLAUS d) * s.imm (Fld.DRV_ACC d) < i.accel,
    s.livOn (Fld.DRV_ENC_EN d) && !s.encAgrees d i]

/-- How long each test has failed, in ticks, one period on. -/
def failFor (period : Nat) (fails : List Bool) (old : List Nat) : List Nat :=
  (fails.zip old).map fun x => if x.1 then x.2 + period else 0

/-- The pair that a capture samples (24 R486, DRVn_CAP_CTL). -/
def Drive.capturePair (D : Drive) (sel : Nat) (i : DriveInput) : Int × Int :=
  if sel = 0 then (i.ia, i.ib) else if sel = 1 then (D.id, D.iq) else if sel = 2 then (D.stats.vd, D.stats.vq)
  else (D.speed / 64, signed 16 i.angle)

/-- One sample of a capture that runs. -/
def State.captureStep (s : State) (d : Nat) (i : DriveInput) : State :=
  let t := (s.drive d).stats
  if !t.capRun then s
  else if 0 < t.capSkip then s.setDrive d fun D => { D with stats := { D.stats with capSkip := t.capSkip - 1 } }
  else
    let left := t.capLeft.map (· - 1)
    let full := left = some 0 || (!s.on (Fld.DRV_ON_TRIP d) && t.capNext = 63)
    s.setDrive d fun D => { D with stats := { D.stats with
      cap := t.cap.set t.capNext ((s.drive d).capturePair (s.imm (Fld.DRV_SEL d)) i), capNext := (t.capNext + 1) % 64,
      capSkip := s.imm (Fld.DRV_DECIM d) - 1, capLeft := left, capRun := !full, capDone := full } }

/-- The readings of a period, whose duties are those that the last one gave (14 R286). -/
def State.driveReadings (s : State) (d : Nat) (i : DriveInput) : State :=
  let sp := s.controlSpeed d i
  let dq := toDq (s.livOn (Fld.DRV_DIR d)) i (s.controlAngle d i)
  let fails := s.obsTests d i
  let p := s.liv (Fld.DRV_PERIOD d)
  let enc := s.livOn (Fld.DRV_ENC_EN d)
  let s := s.setDrive d fun D => { D with
    speed := sp, id := dq.1, iq := dq.2, duties := D.nextDuty,
    failTicks := failFor p fails D.failTicks,
    distrust := D.distrust || fails.getD 3 false,
    encAgree := if D.distrust && !fails.getD 3 false then D.encAgree + p else 0,
    plausible := if fails.take 3 = [false, false, false] then D.plausible + 1 else 0,
    stats := { D.stats with
      angle := i.angle, encAngle := if enc then i.encAngle else 0, emf := i.emf,
      expected := s.liv (Fld.DRV_KE d) * sp.natAbs / 160000, encSpeed := i.encSpeed,
      resid := i.resid, failing := (List.range 4).foldl (fun m k => if fails.getD k false then setBit m k else m) 0,
      peak := max D.stats.peak (max i.ia.natAbs (max i.ib.natAbs i.ic.natAbs)) } }
  s.captureStep d i

/-- One phase current is below 2 % of the other two's mean (14 R288 code 4). -/
def lowPhase (i : DriveInput) : Bool :=
  let low (a b c : Int) : Bool := 100 * a.natAbs < b.natAbs + c.natAbs
  low i.ia i.ib i.ic || low i.ib i.ia i.ic || low i.ic i.ia i.ib

/-- The demands of the current loops: field weakening or flux braking first, then what remains for iq (14 R287, R296,
R306), and the cut that the slot sees as saturation. A start aligns and steps at ALIGN_I (14 R301). -/
def State.driveDemand (s : State) (d : Nat) : State :=
  let D := s.drive d
  let imax := s.liv (Fld.DRV_I_MAX d)
  let idMax := s.liv (Fld.DRV_ID_FW_MAX d)
  let want := clampInt (-imax) imax D.iqDemand
  let runs : Bool := D.state = .run
  let least := if runs then s.leastFit d D.speed want (if s.livOn (Fld.DRV_FW_EN d) then idMax + 1 else 1) 0 else some 0
  let weak := if s.livOn (Fld.DRV_FW_EN d) then least.getD idMax else 0
  let id : Nat := if D.state = .fluxBrake then s.liv (Fld.DRV_ID_FB d) else weak
  let rest : Int := isqrt (imax * imax - id * id)
  let brake : Int := if 0 < D.speed then -rest else rest
  let power := D.vq * brake - D.vd * id
  let iq : Int := if D.state = .fluxBrake then (if 0 < power then clampInt (-rest) rest (divOpen (D.vd * id) D.vq) else brake)
    else if D.state = .start then 0 else clampInt (-rest) rest D.iqDemand
  s.setDrive d fun D => { D with
    idCmd := if D.state = .start then (s.imm (Fld.DRV_ALIGN_I d) * imax / 256 : Nat) else -(id : Int), iqCmd := iq,
    fwActive := runs && 0 < weak,
    cut := if rest < D.iqDemand then 1 else if D.iqDemand < -rest then -1
      else if least.isNone then sgn D.iqDemand else 0 }

/-- Under NO_REGEN a drive that would return power flux-brakes, and resumes when it no longer would (14 R308, R305). A brake
that a command or a pending start asks for stays. -/
def State.regenStep (s : State) (d : Nat) : State :=
  let D := s.drive d
  let asked := D.pending || s.running.any (driveCmd [Op.DRIVE_BRAKE] d)
  let regen := s.bus.noRegen && D.iqDemand * D.speed < 0
  if regen && (D.state = .run || D.state = .fallback) then s.fluxBrake d
  else if D.state = .fluxBrake && !asked && !regen then s.setDrive d fun D => { D with state := .run }
  else s

/-- Time in FLUX_BRAKE and with FW_ACTIVE, the low phase, and the time at rest. -/
def State.driveTimes (s : State) (d : Nat) (i : DriveInput) : State :=
  let p := s.liv (Fld.DRV_PERIOD d)
  let still := 100 * (s.drive d).speed.natAbs < 16 * s.liv (Fld.DRV_MAX_RPM d)
  s.setDrive d fun D => { D with
    lowPhase := if D.bridge && lowPhase i && s.liv (Fld.DRV_I_MAX d) < 4 * D.iq.natAbs then D.lowPhase + 1 else 0,
    restSince := if D.waiting then D.restSince else if still then D.restSince <|> some s.now else none,
    stats := { D.stats with
      fbTime := D.stats.fbTime + (if D.state = .fluxBrake then p else 0),
      fwTime := D.stats.fwTime + (if D.fwActive then p else 0) } }

/-- A normal start without an encoder is handed over once the observer has been plausible for 64 periods (14 R301). -/
def State.handOver (s : State) (d : Nat) : State :=
  let D := s.drive d
  if D.state = .start && !D.aligning && !D.waiting && 64 ≤ D.plausible then s.driveStarted d 0 else s

/-- A phase sample above I_TRIP trips a drive whose bridge is on (14 R288). -/
def State.overcurrent (s : State) (d : Nat) (i : DriveInput) : Bool :=
  (s.drive d).bridge && s.liv (Fld.DRV_I_TRIP d) < max i.ia.natAbs (max i.ib.natAbs i.ic.natAbs)

/-- The trace record of a drive, once a millisecond (03 R78). -/
def State.traceDrive (s : State) (d : Nat) : State :=
  let D := s.drive d
  if D.tracedMs = s.now / 100000 then s
  else
    (s.setDrive d fun D => { D with tracedMs := s.now / 100000 }).record 6 d
      (leInt 4 D.speed ++ leBytes 1 ((s.drive d).state.code) ++ [0] ++ leInt 2 D.iq)

/-- The 60° step of the angle it has controlled on. -/
def State.sectorOf (s : State) (d : Nat) : Nat := (s.drive d).stats.angle % 65536 * 6 / 65536

/-- The step advances when its time has come, with the direction of turning (14 R293). -/
def State.commutate (s : State) (d : Nat) : State :=
  match (s.drive d).stepAt with
  | none => s
  | some t =>
    if (s.drive d).state ≠ .fallback ∨ s.now < t then s
    else s.setDrive d fun D => { D with sixStep := (D.sixStep + if D.speed < 0 then 5 else 1) % 6, stepAt := none }

/-- The interval expected between crossings: the last one seen, else 60° electrical at the present speed (14 R295). -/
def State.zcInterval (s : State) (d : Nat) : Nat :=
  match (s.drive d).zcTimes with
  | a :: b :: _ => b - a
  | _ => 16000000000 / ((if s.liv (Fld.DRV_POLES d) = 0 then 16 else s.liv (Fld.DRV_POLES d)) * (s.drive d).speed.natAbs)

/-- A PWM period, at whose end a waiting DRVn_MOTOR lands while the bridge is off (14 R289). -/
def execDrivePwmPeriod (drive : Nat) (i : DriveInput) (tick : Nat) (s : State) : Result :=
  whileUp s fun s =>
    let s := (s.at tick).landGroup Grp.DRV_MOTOR drive
    if !s.livOn (Fld.DRV_EN drive) || bit s.resets.busy Fn.AFE || bit s.resets.busy Fn.MOTION then s
    else
      let s := (s.driveReadings drive i).commutate drive
      if s.overcurrent drive i then s.trip drive 2
      else
        let s := (((s.handOver drive).regenStep drive).driveDemand drive).currentLoops drive (s.controlAngle drive i)
        (s.driveTimes drive i).traceDrive drive

/-! Losing the rotor (14 R291-R295). -/

/-- A test among 1 to 3 has failed for OBS_TIME. A drive on a trusted encoder only checks by its observer (14 R290); the loss of the rotor
takes ENC_DISTRUST there (14 R292; DEDUCED, log entry 50). -/
def State.implausible (s : State) (d : Nat) : Bool :=
  (!s.livOn (Fld.DRV_ENC_EN d) || (s.drive d).distrust) &&
  ((s.drive d).failTicks.take 3).any fun t => us (100 * s.imm (Fld.DRV_OBS_TIME d)) ≤ t && 0 < t

def State.fast (s : State) (d : Nat) : Bool := 16 * s.imm (Fld.DRV_ZC_MIN d) ≤ (s.drive d).speed.natAbs

def execObserverImplausible (drive tick : Nat) (s : State) : Result :=
  whileUp s fun s =>
    let s := s.at tick
    if !(s.drive drive).running || !s.implausible drive then s
    else if !s.fast drive then s.trip drive 1
    else if (s.drive drive).state = .fallback then s
    else s.setDrive drive fun D => { D with
      state := .fallback, fwActive := false, agree := 0, missed := 0, zcTimes := [s.now],
      sixStep := s.sectorOf drive, stepAt := none,
      fallbacks := satAdd 0xFFFF D.fallbacks 1 }

/-- A zero crossing. In LISTEN it is noted; in FALLBACK the step advances 30° electrical after it, and 128 in a row that agree with the observer within
15° electrical bring field-oriented control back (14 R293, R298). -/
def execBemfZeroCross (drive angle tick : Nat) (s : State) : Result :=
  whileUp s fun s =>
    let s := s.at tick
    let D := s.drive drive
    if D.state = .listen then s.setDrive drive fun D => { D with zcTimes := D.zcTimes ++ [tick] }
    else if D.state = .fallback then
      let n := if 24 * angleDiff D.stats.angle angle ≤ 65536 then D.agree + 1 else 0
      s.setDrive drive fun D => { D with
        zcTimes := (D.zcTimes ++ [tick]).drop (D.zcTimes.length - 1), missed := 0, agree := n,
        stepAt := some (tick + s.zcInterval drive / 2),
        state := if 128 ≤ n then .run else .fallback }
    else s

def execZcMissing (drive tick : Nat) (s : State) : Result :=
  whileUp s fun s =>
    let s := s.at tick
    let D := s.drive drive
    let last := D.zcTimes.getLast?.getD 0
    if D.state ≠ .fallback ∨ 2 * (tick - last) < 3 * s.zcInterval drive * (D.missed + 1) then s
    else if 1 ≤ D.missed then s.trip drive 1
    else s.setDrive drive fun D => { D with missed := 1, agree := 0 }

def execEncTrustRestore (drive : Nat) (s : State) : Result :=
  whileUp s fun s =>
    if (s.drive drive).distrust && ms 64 ≤ (s.drive drive).encAgree then
      s.setDrive drive fun D => { D with distrust := false, encAgree := 0 }
    else s

def execPhaseOpen (drive tick : Nat) (s : State) : Result :=
  whileUp s fun s =>
    let s := s.at tick
    if (s.drive drive).bridge && 256 ≤ (s.drive drive).lowPhase then s.trip drive 4 else s

/-! Starting (14 R298-R301). -/

/-- The DRIVE_START in progress on a drive remembers the speed found. -/
def State.noteSpeed (s : State) (d : Nat) (speed : Int) : State :=
  { s with running := s.running.map fun c =>
      if driveCmd [Op.DRIVE_START] d c then { c with notes := [unsigned 16 speed] } else c }

/-- The direction found is that of the target. -/
def Drive.forward (d : Drive) (speed : Int) : Bool := (d.target < 0) = (speed < 0)

/-- The listen ends at the third zero crossing of each phase, or after 20 ms (14 R298). -/
def execListenEnd (drive : Nat) (speed : Int) (emf tick : Nat) (s : State) : Result :=
  whileUp s fun s =>
    let s := s.at tick
    let D := s.drive drive
    if D.state ≠ .listen ∨ (D.zcTimes.length < 9 ∧ s.now < D.since + ms 20) then s
    else
      let still := emf < 200 || speed = 0
      if s.running.any (driveCmd [Op.DRIVE_BRAKE] drive) then
        if still then finishWhere (driveCmd [Op.DRIVE_BRAKE] drive) (fun _ => St.OK) (fun _ => 0) (s.bridgeOff drive)
        else s.fluxBrake drive
      else
        let s := s.noteSpeed drive (if still then 0 else speed)
        if !still && D.forward speed && s.imm (Fld.DRV_CATCH_MIN drive) ≤ speed.natAbs then
          (s.setDrive drive fun D => { D with speed := 16 * speed }).driveStarted drive 1
        else if !still && !D.forward speed && s.imm (Fld.DRV_REV_MAX drive) ≤ speed.natAbs then
          let s := (s.bridgeOff drive).setDrive drive fun D => { D with pending := true }
          let s := if D.revAction = 1 then s.fluxBrake drive else s
          finishWhere (driveCmd [Op.DRIVE_START] drive) (fun _ => St.BUSY_REVERSE) (fun _ => 0) s
        else s.align drive

/-- ALIGN_MS after the alignment began (14 R301). -/
def execAlignDone (drive : Nat) (s : State) : Result :=
  whileUp s fun s =>
    if (s.drive drive).state = .start && (s.drive drive).aligning then
      let s := s.at ((s.drive drive).since + ms (s.imm (Fld.DRV_ALIGN_MS drive)))
      if s.livOn (Fld.DRV_ENC_EN drive) then s.driveStarted drive 0
      else s.setDrive drive fun D => { D with aligning := false, plausible := 0, since := s.now }
    else s

/-- The stepping has reached 1.5 × HANDOVER without a handover (14 R301). -/
def execHandoverTimeout (drive tick : Nat) (s : State) : Result :=
  whileUp s fun s =>
    let s := s.at tick
    let D := s.drive drive
    if D.state ≠ .start || D.aligning || D.waiting || 2 * s.stepped drive < 3 * (100000000 * s.imm (Fld.DRV_HANDOVER drive)) then s
    else if 1 ≤ D.attempts then s.trip drive 3
    else s.setDrive drive fun D => { D with
      bridge := false, waiting := true, attempts := 1, restSince := some s.now, offAt := s.now }

def execStartRetry (drive : Nat) (s : State) : Result :=
  whileUp s fun s =>
    let D := s.drive drive
    if D.state = .start && D.waiting then (s.at (D.restSince.getD s.now + ms 500)).align drive else s

def execPendingStart (drive : Nat) (speed : Int) (emf : Nat) (s : State) : Result :=
  whileUp s fun s =>
    let D := s.drive drive
    if D.pending && (emf < 200 || D.forward speed || speed.natAbs < s.imm (Fld.DRV_REV_MAX drive)) then
      s.listen drive D.target D.revAction
    else s

/-! Ends of moves (14 R303, R304, R307). -/

/-- The slot's reference has come to the end of its move. -/
def State.refDone (s : State) (d : Nat) : Bool :=
  match s.slotFor 1 d with
  | some n => (s.loop n).move.isNone
  | none => (s.drive d).speed = 0

def execDriveMoveDone (drive : Nat) (s : State) : Result :=
  whileUp s fun s =>
    match (s.drive drive).move with
    | none => s
    | some m =>
      if m.stop then
        if s.refDone drive then
          finishWhere (driveCmd [Op.STOP, Op.EMERGENCY_STOP] drive) (fun _ => St.OK) (fun _ => 0) (s.bridgeOff drive)
        else s
      else if (s.drive drive).arrived m.target then
        finishWhere (driveCmd [Op.DRIVE_SPEED] drive) (fun _ => St.OK) (fun _ => 0)
          (s.setDrive drive fun D => { D with move := none })
      else s

def execBrakeDone (drive : Nat) (s : State) : Result :=
  whileUp s fun s =>
    match (s.drive drive).restSince with
    | none => s
    | some t =>
      if (s.drive drive).state = .fluxBrake && s.running.any (driveCmd [Op.DRIVE_BRAKE] drive) then
        finishWhere (driveCmd [Op.DRIVE_BRAKE] drive) (fun _ => St.OK) (fun _ => 0) ((s.at (t + ms 100)).bridgeOff drive)
      else s

/-! The chopper (14 R308). -/

/-- CHOP_DETECT after the gate last changed: OPEN or SHORTED. VBUS is in 25 mV, BRK current in 10 mA, CHOP_IMIN in 0.1 A;
0.2 V are 8 units. A SHADOW, which holds BRK high-impedance while its peer drives it, judges nothing. -/
def State.judgeChopper (s : State) : State :=
  let low := s.bus.brkI < 10 * s.imm Fld.CHOP_IMIN
  if !s.bus.linkUp || s.pair.role == .shadow || s.now < s.bus.gateAt + us (10 * s.imm Fld.CHOP_DETECT) then s
  else if s.bus.gate && low && s.bus.gateV < s.bus.vbus + 8 then s.chopperFault 1
  else if !s.bus.gate && !low then s.chopperFault 2
  else s

def execChopDetectExpiry (s : State) : Result :=
  whileUp s fun s => (s.at (s.bus.gateAt + us (10 * s.imm Fld.CHOP_DETECT))).judgeChopper

end Sys2Proof.Machine
end

