-- ==== Sys2Proof/Machine/Axes.lean ====
section
/-! DEFINITION. The stepper axes, groups and encoders (16 R331-R348): their commands, the ends of moves, currents and
stalls, and STOP, EMERGENCY_STOP and MOTION_STATUS over axes, groups and drives. -/

namespace Sys2Proof.Machine

/-! MOVE (16 R335). -/

/-- An axis that an enabled path step names belongs to the path in READY and PRINTING (16 R354). -/
def State.pathOwned (s : State) (n : Nat) : Bool :=
  (s.mode = .ready || s.mode = .printing) &&
    (List.range 16).any fun k => s.on (Fld.PATH_EN k) && s.imm (Fld.PATH_AXIS k) = n

/-- TARGET names no enabled axis. -/
def noAxis (s : State) (p : Packet) : Bool × Nat := (24 ≤ p.target || !s.livOn (Fld.AXS_EN p.target), St.BAD_TARGET)

/-- The axis takes no further move: its queue is full or it belongs to the path. -/
def State.axisBusy (s : State) (n : Nat) : Bool := (s.axis n).queueFull || s.pathOwned n

/-- The modes in which axis moves are accepted: every one but STANDBY (and DORMANT, which no command reaches). -/
def inMotionModes (s : State) : Bool × Nat := inModes s fun m => m ≠ .standby

def execMove (p : Packet) (s : State) : Result :=
  command Op.MOVE .owner p (fun s =>
    [inMotionModes s, noHalt s, (s.axisBusy p.target, St.TARGET_BUSY), noAxis s p, params p [(0, 1), (4, 8)],
      badParam (2 < par p 0 1), badParam (par p 0 1 = 1 && !(s.axis p.target).homed)])
    (fun c s =>
      let kind : MoveKind := if par p 0 1 = 0 then .relative else if par p 0 1 = 1 then .absolute else .velocity
      (s.start c).enqueueMove p.target { AxisMove.bare with kind := kind, value := parInt p 4 8, cmd := some c.seq }) s

/-! GROUP_MOVE (16 R339). -/

/-- Puts a group's move into the queue of each member. -/
def joinQueues (g seq : Nat) : List (Nat × Int) → State → State
  | [], s => s
  | (n, d) :: l, s =>
    joinQueues g seq l (s.setAxis n fun a => { a with
      queue := a.queue ++ [{ AxisMove.bare with kind := .member g, value := d, cmd := some seq }] })

def execGroupMove (p : Packet) (s : State) : Result :=
  command Op.GROUP_MOVE .owner p (fun s =>
    let ms := s.members p.target
    [inMotionModes s, noHalt s, (ms.any fun n => s.axisBusy n, St.TARGET_BUSY), (8 ≤ p.target || ms.isEmpty, St.BAD_TARGET),
      params p [(4, 24)], badParam ((List.range 6).any fun i => ms.length ≤ i && par p (4 + 4 * i) 4 ≠ 0)])
    (fun c s =>
      joinQueues p.target c.seq ((s.members p.target).zip ((List.range 6).map fun i => parInt p (4 + 4 * i) 4)) (s.start c))
    s

/-- The distances of the group's move at the head of each member's queue, if it heads them all with every member at rest. -/
def State.groupHeads (s : State) (g : Nat) : Option (List (Nat × AxisMove)) :=
  let ms := s.members g
  let heads := ms.filterMap fun n =>
    match (s.axis n).queue with
    | m :: _ => if m.kind = .member g && (s.axis n).atRest then some (n, m) else none
    | [] => none
  if heads.length = ms.length && !heads.isEmpty && heads.all fun h => h.2.cmd = (heads.head?.bind fun x => x.2.cmd) then
    some heads
  else none

/-- The leader: the largest distance in millimetres, the lower axis on a tie. -/
def State.groupLeader (s : State) (hs : List (Nat × AxisMove)) : Nat × Nat :=
  hs.foldl (fun b h =>
    let d := (s.memberNm h.1 h.2.value).natAbs
    if b.2 < d then (h.1, d) else b) ((hs.head?.map fun h => h.1).getD 0, 0)

/-- Every member starts on the path's plan. -/
def startMembers (path acc jerk : Nat) (segs : List (Int × Int × Nat)) : List (Nat × AxisMove) → State → State
  | [], s => s
  | (n, m) :: l, s =>
    let s := s.setAxis n fun a => { a with queue := a.queue.drop 1 }
    let s := (s.freezeAxis n).beginMove n { m with path := max 1 path, acc := acc, jerk := jerk, segs := segs } .move
    startMembers path acc jerk segs l s

def execGroupMoveStart (group tick : Nat) (s : State) : Result :=
  whileUp s fun s =>
    let s := s.at tick
    match s.groupHeads group with
    | none => s
    | some hs =>
      let (leader, path) := s.groupLeader hs
      let v := 1000 * s.imm (Fld.GRP_V group)
      let acc := 1000000 * s.imm (Fld.GRP_A group)
      let jerk := 1000000 * s.imm (Fld.GRP_J group)
      let cmd := (hs.head?.bind fun h => h.2.cmd).getD 0
      if path ≠ 0 ∧ hs.any (fun h => s.overPeak h.1 (v * h.2.value.natAbs / path)) then
        finish cmd St.BAD_PARAM 0 (dropMember group (s.members group) s)
      else
        let s := startMembers path acc jerk (if path = 0 then [] else (planMove v acc jerk 0 path).1) hs s
        s.setGroup group fun _ => ⟨1, leader, some cmd⟩

/-! Ends of moves (16 R334-R342). -/

/-- The STOP or EMERGENCY_STOP commands of an axis. -/
def axisStopCmd (n : Nat) (c : Cmd) : Bool :=
  (c.op = Op.STOP || c.op = Op.EMERGENCY_STOP) && par c.p 0 1 = 0 && c.p.target = n

def groupStopCmd (g : Nat) (c : Cmd) : Bool :=
  (c.op = Op.STOP || c.op = Op.EMERGENCY_STOP) && par c.p 0 1 = 1 && c.p.target = g

def State.finishStops (s : State) (p : Cmd → Bool) : State := finishWhere p (fun _ => St.OK) (fun _ => 0) s

/-- A group whose members have all ended their parts is idle: its command completes OK, its stops too. -/
def State.groupOver (s : State) (g : Nat) : State :=
  if (s.members g).any fun n => (s.axis n).cur.isSome then s
  else
    let cmd := (s.group g).cmd
    let s := (s.setGroup g fun G => { G with state := 0, cmd := none }).finishStops (groupStopCmd g)
    match cmd with
    | some q => finish q St.OK 0 s
    | none => s

/-- The displacement with which a position move ends: its target exactly, or where a short one stopped (16 R337, R338). -/
def AxisMove.ends (m : AxisMove) : Int :=
  if m.segs.length = 1 ∨ m.kind = .velocity ∨ m.kind = .search ∨ m.kind = .stop then
    divOpen (m.value * planDist m.acc m.jerk m.segs) m.path
  else m.value

/-- The axis stands where its move has ended. -/
def State.landAxis (s : State) (n : Nat) (m : AxisMove) : State :=
  s.setAxis n fun a => { a with
    pos := a.pos + m.ends, vel := if m.kind = .velocity then m.offset else 0, anchor := s.now, cur := none }

/-- Low 32 bits of the axis position. -/
def State.posResult (s : State) (n : Nat) : Nat := unsigned 32 (s.axis n).pos

/-- What follows the end of an axis's move: the next queued move, its stops, its group. -/
def State.afterMove (s : State) (n : Nat) : State :=
  let s := startQueued (s.axis n).queue n s
  let s := if (s.axis n).atRest then s.finishStops (axisStopCmd n) else s
  let g := s.liv (Fld.AXS_GROUP n)
  if g < 8 then s.groupOver g else s

/-- HOME after its stop: on to the latched position plus OFFSET, or over when no edge came (16 R342). -/
def State.homeStopped (s : State) (n : Nat) (m : AxisMove) : State :=
  match (s.axis n).latched with
  | none => (s.moveOver m St.ABORTED_STOP (2 ^ 31)).afterMove n
  | some l =>
    let r := s.startMove n { m with kind := .homing, value := l + m.offset, limit := ((s.axis n).pos - l).natAbs }
    if r.2 then r.1 else (r.1.moveOver m St.BAD_PARAM 0).afterMove n

/-- A search that meets its travel limit stops on the STOP limits (16 R342). -/
def State.searchLimit (s : State) (n : Nat) (m : AxisMove) : State := s.stopFrom n (s.stopLimits n) m

/-- What the end of the running move of an axis brings. -/
def State.endMove (s : State) (axis : Nat) : State :=
  let a := s.axis axis
  match a.cur with
  | none => s
  | some m =>
    let full := planTime m.segs
    if m.kind = .search then
      let far := (divOpen (((m.limit : Int) - (planDist m.acc m.jerk m.segs).natAbs) * 100000000) m.offset.natAbs).toNat
      (s.at (a.anchor + full + far)).searchLimit axis m
    else
      let s := (s.at (a.anchor + full)).landAxis axis m
      match m.kind with
      | .homing =>
        let s := s.setAxis axis fun a => { a with pos := 0, homed := true, latched := none }
        (s.moveOver m St.OK m.limit).afterMove axis
      | .stop => if m.cmd.isSome then s.homeStopped axis m else s.afterMove axis
      | .member _ => s.afterMove axis
      | _ => (s.moveOver m St.OK (s.posResult axis)).afterMove axis

/-- The end of a move; a waiting AXSn_GEOM lands with it when its axes are at rest (01 R20, 16 R333). -/
def execAxisMoveEnd (axis : Nat) (s : State) : Result :=
  whileUp s fun s => landInstances Grp.AXS_GEOM (List.range 24) (s.endMove axis)

/-! HOME (16 R342). -/

def execHome (p : Packet) (s : State) : Result :=
  command Op.HOME .owner p (fun s =>
    [inMotionModes s, noHalt s, (s.axisBusy p.target, St.TARGET_BUSY), noAxis s p, params p [(0, 2), (4, 12)],
      badParam (71 < par p 0 1 || 1 < par p 1 1)])
    (fun c s =>
      let v : Int := if par p 1 1 = 0 then par p 4 4 else -(par p 4 4 : Int)
      (s.start c).enqueueMove p.target
        { AxisMove.bare with
          kind := .search, value := v, cmd := some c.seq, source := par p 0 1, offset := parInt p 8 4,
          limit := par p 12 4 }) s

/-- An edge of a homing source at tick `t`: each axis that searches for it latches its position and stops (16 R342). -/
def homeEdge (src t : Nat) : List Nat → State → State
  | [], s => s
  | n :: ns, s =>
    let a := s.axis n
    homeEdge src t ns (match a.cur with
      | some m =>
        if m.kind = .search ∧ m.source = src then
          (s.setAxis n fun x => { x with latched := some (a.posAt t).1 }).stopFrom n (s.stopLimits n) m
        else s
      | none => s)

def execEncIndexEdge (encoder tick : Nat) (s : State) : Result :=
  whileUp s fun s => homeEdge (64 + encoder) tick (List.range 24) (s.at tick)

/-! STOP, EMERGENCY_STOP (16 R340, R341; 14 R304). -/

/-- A group's path parameter is stopped under the least limits of its members, in nanometres (16 R340). -/
def State.groupLimits (s : State) (g : Nat) : Nat × Nat :=
  let ls := (s.members g).map fun n =>
    ((s.memberNm n (s.stopLimits n).1).natAbs, (s.memberNm n (s.stopLimits n).2).natAbs)
  match ls with
  | [] => (0, 0)
  | l :: ls => ls.foldl (fun a b => (min a.1 b.1, min a.2 b.2)) l

def stopMembers (g : Nat) (lim : Nat × Nat) : List Nat → State → State
  | [], s => s
  | n :: ns, s =>
    let a := s.axis n
    stopMembers g lim ns (match a.cur with
      | some m =>
        if m.kind = .member g then
          let v := (planAt m.acc m.jerk m.segs (s.now - a.anchor)).2
          (s.freezeAxis n).beginMove n { m with
            kind := .stop, cmd := none, acc := lim.1, jerk := lim.2,
            segs := [(v, 0, changeTime lim.1 lim.2 v.natAbs)] } .stopping
        else s
      | none => s)

/-- The group's running and queued moves complete with ABORTED_STOP, its members stopping together. -/
def State.stopGroup (s : State) (g : Nat) : State :=
  let cmds := ((s.members g).flatMap fun n => (s.axis n).queue.filter fun m => m.kind = .member g).filterMap AxisMove.cmd
  let cmds := match (s.group g).cmd with | some q => q :: cmds | none => cmds
  let s := stopMembers g (s.groupLimits g) (s.members g) (dropMember g (s.members g) s)
  let s := s.setGroup g fun G => { G with state := if G.state = 0 then 0 else 2, cmd := none }
  finishWhere (fun c => cmds.contains c.seq) (fun _ => St.ABORTED_STOP) (fun _ => 0) s

/-- EMERGENCY_STOP of an axis: ESTOP_DEC without jerk limit, or de-energised at once (16 R341). -/
def State.estopAxis (s : State) (n : Nat) : State :=
  let a := s.axis n
  let dec := 1024 * s.imm (Fld.AXS_ESTOP_DEC n)
  let s := s.clearQueue n
  let s := match a.cur with | some m => s.moveOver m St.ABORTED_STOP 0 | none => s
  if dec = 0 then s.deEnergise n .off
  else if a.atRest then s
  else s.stopFrom n (dec, dec * 2 ^ 30) .bare

def estopAll : List Nat → State → State
  | [], s => s
  | n :: ns, s => estopAll ns (s.estopAxis n)

/-- What PARAMS byte 0x00 and TARGET name: an axis, a group or a drive. -/
def stopTarget (s : State) (p : Packet) : Bool × Nat :=
  let k := par p 0 1
  ((k = 0 && (noAxis s p).1) || (k = 1 && (8 ≤ p.target || (s.members p.target).isEmpty)) || (k = 2 && (noDrive s p).1),
    St.BAD_TARGET)

/-- A stop command completes at rest. -/
def State.stopOver (s : State) (c : Cmd) (axes : List Nat) : State :=
  if axes.all fun n => (s.axis n).atRest then complete c St.OK 0 s else s.start c

def execStop (p : Packet) (s : State) : Result :=
  command Op.STOP .owner p (fun s => [stopTarget s p, params p [(0, 1)], badParam (2 < par p 0 1)])
    (fun c s =>
      if par p 0 1 = 0 then (s.stopAxis p.target).stopOver c [p.target]
      else if par p 0 1 = 1 then (s.stopGroup p.target).stopOver c (s.members p.target)
      else s.stopDrive p.target c) s

def execEmergencyStop (p : Packet) (s : State) : Result :=
  command Op.EMERGENCY_STOP .owner p (fun s => [stopTarget s p, params p [(0, 1)], badParam (2 < par p 0 1)])
    (fun c s =>
      if par p 0 1 = 0 then (s.estopAxis p.target).stopOver c [p.target]
      else if par p 0 1 = 1 then
        (estopAll (s.members p.target) (s.stopGroup p.target)).stopOver c (s.members p.target)
      else s.estopDrive p.target c) s

/-! MOTION_STATUS (14 R302, 16 R356). -/

/-- AXSn_STAT. -/
def State.axisStat (s : State) (n : Nat) : Nat :=
  let a := s.axis n
  a.state.code + 8 * a.queue.length + flag a.homed 6 + flag a.shortSeen 7 + 2 ^ 8 * a.angle + 2 ^ 16 * a.current

/-- GRPg_STAT. -/
def State.groupStat (s : State) (g : Nat) : Nat :=
  (s.members g).foldl setBit 0 + 2 ^ 24 * (s.group g).state + 2 ^ 26 * (s.group g).leader

/-- DRVn_STAT. -/
def State.driveStat (s : State) (d : Nat) : Nat :=
  let D := s.drive d
  D.state.code + flag D.pending 3 + flag D.fwActive 4 + flag D.distrust 5 + 2 ^ 6 * D.catchKind

def execMotionStatus (p : Packet) (s : State) : Result :=
  command Op.MOTION_STATUS .observer p (fun _ =>
    [(par p 0 1 = 0 && 24 ≤ p.target || par p 0 1 = 1 && 8 ≤ p.target || par p 0 1 = 2 && 12 ≤ p.target, St.BAD_TARGET),
      params p [(0, 1)], badParam (2 < par p 0 1)])
    (fun c s => complete c St.OK
      (if par p 0 1 = 0 then s.axisStat p.target else if par p 0 1 = 1 then s.groupStat p.target else s.driveStat p.target)
      s) s

/-! Currents and stalls (16 R331, R343-R345). -/

/-- θ in 1/1,024 turn, quantised to 2^(8 − MICRO) microsteps (16 R331). -/
def State.thetaOf (s : State) (n : Nat) : Nat :=
  let step := 2 ^ (8 - s.liv (Fld.AXS_MICRO n))
  let t := (s.axisPos n % 1024).toNat / step * step
  if s.livOn (Fld.AXS_DIR n) then (1024 - t) % 1024 else t

/-- A phase current that the axis commands, in 10 mA (16 R331). -/
def State.phaseDemand (s : State) (n : Nat) (trig : Int) : Int := nearest (2 * (s.axis n).current * trig) trigOne

/-- A phase loop one period on: the integrator and the duty that its error `e` (10 mA) gives. The gains are those of a bandwidth ω of one
tenth of the PWM rate on RS and LS: ω·LS in proportion and ω·RS in the integral (16 R331; π is 355/113, log entry 51). -/
def State.phaseLoop (s : State) (n : Nat) (e sum : Int) : Int × Int :=
  let p : Int := s.liv (Fld.AXS_PERIOD n)
  let rs := s.imm (Fld.AXS_RS n)
  let ls := s.imm (Fld.AXS_LS n)
  let sum' := sum + 710 * rs * e
  let d := divOpen (71000000 * ls * e + sum' * p) (113000 * 25 * s.bus.vbus)
  if (p : Int) < d.natAbs then (sum, clampInt (-p) p d) else (sum', d)

/-- One period's back-EMF of a phase, v − RS·i − LS·di/dt, times 1,000 × PERIOD mV (16 R343). -/
def State.phaseEmf (s : State) (n : Nat) (duty i last : Int) : Int :=
  25000 * s.bus.vbus * duty - 10 * s.imm (Fld.AXS_RS n) * i * s.liv (Fld.AXS_PERIOD n) - 1000000 * s.imm (Fld.AXS_LS n) * (i - last)

/-- A PWM period of an axis, its phases sampled at `ia` and `ib` (10 mA): the duties of the last period come into force, θ and the next
duties are set, and the back-EMF is summed in the frame of the commanded current. -/
def execAxisPwmPeriod (axis : Nat) (ia ib : Int) (tick : Nat) (s : State) : Result :=
  whileUp s fun s =>
    let s := s.at tick
    if !(s.axis axis).energised || bit s.resets.busy Fn.AFE then s
    else
      let a := s.axis axis
      let c := cosOf (64 * s.thetaOf axis)
      let d := sinOf (64 * s.thetaOf axis)
      let pa := s.phaseLoop axis (s.phaseDemand axis c - ia) a.sumA
      let pb := s.phaseLoop axis (s.phaseDemand axis d - ib) a.sumB
      let ea := s.phaseEmf axis a.dutyA ia a.lastA
      let eb := s.phaseEmf axis a.dutyB ib a.lastB
      s.setAxis axis fun x => { x with
        theta := s.thetaOf axis, dutyA := x.nextA, dutyB := x.nextB, nextA := pa.2, nextB := pb.2, sumA := pa.1, sumB := pb.1,
        lastA := ia, lastB := ib, emfAlong := x.emfAlong + nearest (ea * c + eb * d) trigOne,
        emfAcross := x.emfAcross + nearest (eb * c - ea * d) trigOne }

/-- The direction of a vector in whole degrees: where it is longest. -/
def degreesOf (x y : Int) : Nat :=
  ((List.range 360).foldl (fun b k =>
    let v := x * cosOf (k * 65536 / 360) + y * sinOf (k * 65536 / 360)
    if b.2 < v then (k, v) else b) (0, 0)).1

/-- The load angle δ in degrees, from −180 on: the commanded current's lead, in the direction of motion, of the rotor's magnetic axis, which
lies 90° behind the back-EMF (16 R343). -/
def State.loadAngle (s : State) (n : Nat) : Int :=
  let a := s.axis n
  let back : Bool := (s.axisVel n < 0) ≠ s.livOn (Fld.AXS_DIR n)
  let phi : Int := degreesOf a.emfAlong a.emfAcross
  if a.emfAlong = 0 ∧ a.emfAcross = 0 then 0 else (90 - (if back then -phi else phi) + 180) % 360 - 180

/-- The back-EMF estimate is valid: the commanded speed is at least LA_VMIN full steps/s (16 R343). -/
def State.angleValid (s : State) (n : Nat) : Bool := 256 * s.imm (Fld.AXS_LA_VMIN n) ≤ (s.axisVel n).natAbs

/-- The current of the next millisecond (16 R344). -/
def State.nextCurrent (s : State) (n : Nat) (angle : Int) : Nat :=
  let a := s.axis n
  let top := s.imm (Fld.AXS_I_RUN_MAX n)
  let step := s.imm (Fld.AXS_I_STEP n)
  if a.atRest && ms (10 * s.imm (Fld.AXS_HOLD_DELAY n)) ≤ s.now - a.anchor then s.imm (Fld.AXS_I_HOLD n)
  else if a.atRest || !s.angleValid n then top
  else if s.imm (Fld.AXS_LA_HI n) < angle then min top (a.current + step)
  else if angle < s.imm (Fld.AXS_LA_LO n) then max (s.imm (Fld.AXS_I_RUN_MIN n)) (a.current - step)
  else a.current

/-- Test 2 of R345: full steps commanded against the encoder's high-water mark (16 R347). -/
def State.encoderOff (s : State) (n : Nat) : Bool :=
  s.livOn (Fld.AXS_ENC_EN n) &&
    (let e := s.encoder (s.liv (Fld.AXS_ENC_SEL n))
     s.imm (Fld.AXS_STALL_ERR n) < (s.axisPos n / 256 - divOpen (e.high * 65536) (s.liv (Fld.AXS_ENC_CPS n))).natAbs)

/-- The millisecond of an axis: its load angle, its current, and the tests of a stall. AXSn_STAT shows a δ outside 0 to 255 as the nearer
end (DESIGN CHOICE, log entry 51). -/
def execAxisCurrentUpdate (axis tick : Nat) (s : State) : Result :=
  whileUp s fun s =>
    let s := s.at tick
    if !(s.axis axis).energised then s
    else
      let angle := s.loadAngle axis
      let i := s.nextCurrent axis angle
      let valid := s.angleValid axis
      let t1 := valid && (s.imm (Fld.AXS_LA_STALL axis) : Int) ≤ angle && i = s.imm (Fld.AXS_I_RUN_MAX axis)
      let t2 := s.encoderOff axis
      s.setAxis axis fun a => { a with
        current := i, angle := if valid then (clampInt 0 255 angle).toNat else 0, emfAlong := 0, emfAcross := 0,
        stall1 := if t1 then a.stall1 <|> some s.now else none,
        stall2 := if t2 then a.stall2 <|> some s.now else none }

/-- The axis is de-energised, its running move completes with STALL, its queued ones with ABORTED_STOP, and the safe-stop
starts (16 R345). -/
def State.stallAxis (s : State) (n : Nat) : State :=
  let a := s.axis n
  let s := s.clearQueue n
  let s := match a.cur with
    | some m =>
      match m.kind with
      | .member g => finish ((s.group g).cmd.getD 0) St.STALL 0 s
      | _ => s.moveOver m St.STALL 0
    | none => s
  ((s.deEnergise n .stalled).raise Ev.STALL n 0xFF [BitVec.ofNat 8 n]).halt Halt.STALL

/-- The earlier of two times that may be absent. -/
def firstOfTwo (a b : Option Nat) : Option Nat :=
  match a, b with
  | some x, some y => some (min x y)
  | some x, none => some x
  | none, y => y

def execStall (axis : Nat) (s : State) : Result :=
  whileUp s fun s =>
    match firstOfTwo (s.axis axis).stall1 (s.axis axis).stall2 with
    | none => s
    | some t => (s.at (t + ms (s.imm (Fld.AXS_STALL_MS axis)))).stallAxis axis

/-! Encoders (16 R346-R348). -/

/-- The step of a quadrature transition from (a, b): +1 while A leads B (log entry 24), none when both change. -/
def quadStep (a b a' b' : Bool) : Option Int :=
  if a = a' ∧ b = b' then some 0
  else if a ≠ a' ∧ b ≠ b' then none
  else if a ≠ a' then some (if a' = b then -1 else 1)
  else some (if b' = a then 1 else -1)

def execQuadratureEdge (encoder : Nat) (a b : Bool) (tick : Nat) (s : State) : Result :=
  whileUp s fun s =>
    let s := s.at tick
    s.setEncoder encoder fun e =>
      let e := { e with a := a, b := b }
      match quadStep (s.encoder encoder).a (s.encoder encoder).b a b with
      | none => { e with qerr := satAdd 0xFF e.qerr 1 }
      | some d => e.step (if s.on (Fld.ENC_DIR encoder) then -d else d) (s.imm (Fld.ENC_BACKSLACK encoder))

/-- The slots that a reversal of an encoder touches in PRINTING (16 R348). -/
def State.reversalSlots (s : State) (e : Nat) : List Nat :=
  s.slotsWhere fun sh => sh.state = .imaging &&
    (s.liv (Fld.DRV_ENC_SEL 10) = e ||
      (List.range 5).any fun n => s.liv (Fld.STN_DRUM_ENC n) = e && sh.imagedOn n)

def execEncReversal (encoder tick : Nat) (s : State) : Result :=
  whileUp s fun s =>
    let s := s.at tick
    let e := s.encoder encoder
    if e.raised || e.high - e.count ≤ s.imm (Fld.ENC_BACKSLACK encoder) then s
    else
      let s := s.setEncoder encoder fun e => { e with raised := true, reversals := satAdd 0xFF e.reversals 1 }
      let s := s.raise Ev.ENC_REVERSAL encoder 0xFF ([BitVec.ofNat 8 encoder, 0, 0, 0] ++ leInt 4 e.fall)
      if s.mode = .printing then stampAll Cause.ENC_REVERSAL s.now (s.reversalSlots encoder) s else s

end Sys2Proof.Machine
end

