-- ==== Sys2Proof/Machine/Path.lean ====
section
/-! DEFINITION. The paper path (16 R349-R354): sheet sensors, their windows, jams, and path steps. Slot 24 stands for the blank
sheet while SHEET_CLEAR_REG carries it out: it counts as a sheet in a slot for that run (02 R37). -/

namespace Sys2Proof.Machine

/-! Sheets on the path. -/

def State.onPath (s : State) (i : Nat) : Option Sheet :=
  if i = 24 then (if s.sheets.blankRun then s.sheets.blank else none) else s.sheet? i

def State.setOnPath (s : State) (i : Nat) (f : Sheet → Sheet) : State :=
  if i = 24 then { s with sheets := { s.sheets with blank := s.sheets.blank.map f } } else s.setSheet i f

/-- The picked sheets in pick order, the blank sheet first. -/
def State.pickOrder (s : State) : List Nat :=
  (if s.sheets.blankRun then [24] else []) ++
    s.byOrder.filter fun i => match s.sheet? i with | some sh => sh.everPicked | none => false

/-- A stop that lets no window and no path step act runs (16 R352, R354). -/
def State.pathStopped (s : State) : Bool := s.modes.stopping = .safe || s.modes.stopping = .bridgesOff

/-! Windows (16 R350). -/

def Track.role (t : Track) : Nat := wordField t.cfg (Fld.SS_ROLE 0)
def Track.tol (t : Track) : Nat := us (100 * wordField t.win (Fld.SS_TOL 0))
def Track.jam (t : Track) : Nat := ms (wordField t.win (Fld.SS_JAM 0))
def Track.trailMax (t : Track) : Nat := us (100 * wordField t.cfg (Fld.SS_TRAIL_MAX 0))

/-- The centre of a sheet's window; none before the Hinge of a sensor that counts from it. -/
def Track.centre (t : Track) (sh : Sheet) : Option Nat :=
  let exp := us (100 * wordField t.win (Fld.SS_EXP 0))
  if t.role = 3 ∨ wordField t.cfg (Fld.SS_REF 0) = 0 then some (sh.tPick + exp)
  else if sh.pastHinge then some (sh.tHinge + exp)
  else none

/-- The sensor has a window for this sheet: PURGE_OUT for a diverted one, EXIT for any other. -/
def Track.windowed (t : Track) (sh : Sheet) : Bool :=
  t.role = 2 || t.role = 3 || (t.role = 4 && sh.diverted ≠ some true) || (t.role = 5 && sh.diverted = some true)

def apart (a b : Nat) : Nat := max a b - min a b

/-- The jam window stands open at tick `t`. -/
def Track.openAt (k : Track) (sh : Sheet) (t : Nat) : Bool :=
  match k.centre sh with | some c => apart c t ≤ k.jam | none => false

def Sheet.track (sh : Sheet) (sensor : Nat) : Option Track := sh.tracks.find? fun t => t.sensor = sensor

/-- What a pick latches of the sensors: those whose ROLE is in use (16 R350). -/
def State.newTracks (s : State) : List Track :=
  (List.range 64).filterMap fun i =>
    if s.imm (Fld.SS_ROLE i) = 0 ∨ 5 < s.imm (Fld.SS_ROLE i) then none
    else some ⟨i, s.reg (Reg.SS_CFG i), s.reg (Reg.SS_WIN i), none, none⟩

def State.setTrack (s : State) (i sensor : Nat) (f : Track → Track) : State :=
  s.setOnPath i fun sh => { sh with tracks := sh.tracks.map fun k => if k.sensor = sensor then f k else k }

/-! Path steps (16 R354). -/

/-- What a pick latches of the path steps: those enabled. -/
def State.newSteps (s : State) : List StepTrack :=
  (List.range 16).filterMap fun k =>
    if s.on (Fld.PATH_EN k) then
      some ⟨k, s.reg (Reg.PATH_TRIG k), s.reg (Reg.PATH_DELAY k), s.reg (Reg.PATH_VALUE k), none, 0, false⟩
    else none

def StepTrack.axis (x : StepTrack) : Nat := wordField x.trig (Fld.PATH_AXIS 0)
def StepTrack.encoder (x : StepTrack) : Nat := wordField x.trig (Fld.PATH_ENC 0)

/-- The step waits for this event: 0 the pick, 1 or 2 a lead or trail edge at a sensor, 3 the Hinge. -/
def StepTrack.waits (x : StepTrack) (kind sensor : Nat) : Bool :=
  wordField x.trig (Fld.PATH_EVENT 0) = kind && x.event.isNone &&
    (kind = 0 || kind = 3 || wordField x.trig (Fld.PATH_SENSOR 0) = sensor)

/-- An event of a sheet at tick `t`. -/
def State.pathEvent (s : State) (i kind sensor t : Nat) : State :=
  let note (x : StepTrack) : StepTrack :=
    if x.waits kind sensor then
      { x with event := some (t, ((s.axis x.axis).posAt t).1), encAt := (s.encoder x.encoder).high }
    else x
  s.setOnPath i fun sh => { sh with steps := sh.steps.map note }

/-- When a step whose DELAY is in µs is due. -/
def StepTrack.due (x : StepTrack) : Option Nat :=
  if wordField x.trig (Fld.PATH_UNIT 0) = 1 then none else x.event.map fun e => e.1 + us x.delay.toNat

/-! Jams (16 R352). -/

/-- A jam at a sensor, of the sheet in a path slot or of none: JAM, the sheet closes JAMMED, and the safe-stop. -/
def State.jam (s : State) (sensor code : Nat) (i : Option Nat) : State :=
  let id := match i.bind s.onPath with | some sh => sh.id | none => 0
  let slot := match i with | some j => if j < 24 then j else 0xFF | none => 0xFF
  let s := { s with path := { s.path with
    jams := satAdd 0xFF s.path.jams 1, drops := if code = 4 then satAdd 0xFF s.path.drops 1 else s.path.drops } }
  let s := s.raise Ev.JAM 0xFF slot ([BitVec.ofNat 8 sensor, BitVec.ofNat 8 code, 0, 0] ++ leBytes 4 id)
  let s := match i with
    | some j =>
      if j = 24 then { s with sheets := { s.sheets with blank := none, blankRun := false } }
      else (s.setSheet j fun sh => { sh with jammed := true }).closeSheet j false
    | none => s
  s.halt Halt.JAM

/-! Lead edges (16 R351). -/

/-- The sheet a lead edge belongs to: the first in pick order that has had none at this sensor and whose jam window is open;
at an AUX sensor, which has no windows, the first that has had none. -/
def State.leadOwner (s : State) (sensor t : Nat) : Option Nat :=
  s.pickOrder.find? fun i =>
    match (s.onPath i).bind fun sh => (sh.track sensor).map fun k => (sh, k) with
    | some (sh, k) => k.lead.isNone && (k.role = 1 || (k.windowed sh && k.openAt sh t))
    | none => false

/-- The diverter is set when the lead edge reaches DIVERT_SS (02 R47); the blank sheet goes by PURGE_PATH alone (02 R37). -/
def State.divert (s : State) (i sensor : Nat) : State :=
  match s.onPath i with
  | none => s
  | some sh =>
    if s.outcome sh Fld.DIVERT_SS = sensor ∧ sh.diverted = none then
      let way := s.outcome sh Fld.PURGE_PATH = 1 && (i = 24 || s.purgeCause sh)
      s.setOnPath i fun x => { x with diverted := some way }
    else s

/-- The diverter at a DIVERT_SS that the sheets do not follow as a sensor of the path: the first picked sheet undecided. -/
def State.divertFirst (s : State) (sensor : Nat) : State :=
  match s.pickOrder.find? fun i => match s.onPath i with
    | some sh => s.outcome sh Fld.DIVERT_SS = sensor && sh.diverted = none && (sh.track sensor).isNone
    | none => false with
  | some i => s.divert i sensor
  | none => s

/-- A lead edge outside the nominal window counts (16 R351); the manual gives the count no register beside REG_LATE. -/
def State.countOff (s : State) (sh : Sheet) (k : Track) (t : Nat) : State :=
  match k.centre sh with
  | some c => if k.windowed sh && k.tol < apart c t then { s with path := { s.path with offNominal := s.path.offNominal + 1 } } else s
  | none => s

/-- A late lead edge on the REG sensor, inside the jam window but after the nominal one (16 R351). -/
def State.regLate (s : State) (i : Nat) (sh : Sheet) (k : Track) (t : Nat) : State :=
  match k.centre sh with
  | some c =>
    if k.role = 3 ∧ c + k.tol < t then
      let s := { s with path := { s.path with regLate := satAdd 0xFFFF s.path.regLate 1 } }
      if i < 24 then s.stamp i Cause.REG_LATE t else s
    else s
  | none => s

/-- A cancel that waited for REGISTERED takes effect (02 R34). -/
def State.cancelRegistered (s : State) (i : Nat) : State :=
  match s.sheet? i with
  | some sh => if sh.cancel then (s.stamp i Cause.HOST_CANCEL s.now).close i else s
  | none => s

/-- PICKED to REGISTERED at the lead edge on the REG sensor (02 R33). -/
def State.register (s : State) (i t : Nat) : State :=
  match s.sheet? i with
  | some sh =>
    if i < 24 ∧ sh.state = .picked ∧ s.pathStopped = false then
      ((s.moveSheet i .registered).setSheet i fun x => { x with registered := t }).cancelRegistered i
    else s
  | none => s

/-- A lead edge of a sheet. -/
def State.leadEdge (s : State) (i sensor t : Nat) : State :=
  match (s.onPath i).bind fun sh => (sh.track sensor).map fun k => (sh, k) with
  | none => s
  | some (sh, k) =>
    let s := (s.setTrack i sensor fun k => { k with lead := some t }).setOnPath i fun x => { x with location := sensor }
    let s := (((s.countOff sh k t).regLate i sh k t).divert i sensor).pathEvent i 1 sensor t
    if k.role = 3 then s.register i t else s

def State.setLevel (s : State) (sensor : Nat) (v : Bool) : State :=
  { s with path := { s.path with level := s.path.level.set sensor v } }

/-- The live ROLE of a sensor is one with windows (16 R350). -/
def State.watched (s : State) (sensor : Nat) : Bool :=
  2 ≤ s.imm (Fld.SS_ROLE sensor) && s.imm (Fld.SS_ROLE sensor) ≤ 5

/-- The stamp of a sheet-sensor edge: the time base cut to 100 ns (01 R13). -/
def stamp100 (t : Nat) : Nat := t / 10 * 10

/-- `tick` is the time of the edge's first sample at the new level. In SERVICE edges are only stamped; a homing axis sees them in every
mode. -/
def execSensorLeadEdge (sensor tick : Nat) (s : State) : Result :=
  whileUp s fun s =>
    if s.path.level.getD sensor false then s
    else
      let s := homeEdge sensor (stamp100 tick) (List.range 24) ((s.at tick).setLevel sensor true)
      if s.mode = .service then s
      else match s.leadOwner sensor (stamp100 tick) with
        | some i => s.leadEdge i sensor (stamp100 tick)
        | none =>
          if s.watched sensor then (if s.pathStopped then s else s.jam sensor 2 none) else s.divertFirst sensor

/-! Trail edges (16 R351). -/

/-- The sheet that covers a sensor: the first in pick order with a lead edge and no trail edge there. -/
def State.trailOwner (s : State) (sensor : Nat) : Option Nat :=
  s.pickOrder.find? fun i =>
    match (s.onPath i).bind fun sh => sh.track sensor with
    | some k => k.lead.isSome && k.trail.isNone
    | none => false

/-- The blank sheet has reached a tray: SHEET_CLEAR_REG completes and picks resume (02 R37). -/
def State.blankOut (s : State) (sensor : Nat) : State :=
  finishWhere (fun c => c.op = Op.SHEET_CLEAR_REG) (fun _ => St.OK) (fun _ => sensor)
    { s with sheets := { s.sheets with blank := none, blankRun := false } }

/-- A sheet whose trail edge has cleared its tray sensor closes once it is in FINISHING; while a safe-stop runs, at its end
(02 R33, R48). -/
def State.reachTray (s : State) (i sensor : Nat) : State :=
  if i = 24 then s.blankOut sensor
  else
    let s := s.setSheet i fun sh => { sh with location := 0xFF }
    match s.sheet? i with
    | some sh => if sh.state = .finishing ∧ s.pathStopped = false then s.close i else s
    | none => s

def State.trailEdge (s : State) (i sensor t : Nat) : State :=
  match (s.onPath i).bind fun sh => (sh.track sensor).map fun k => (sh, k) with
  | none => s
  | some (sh, k) =>
    let s := (s.setTrack i sensor fun k => { k with trail := some t }).pathEvent i 2 sensor t
    if (k.role = 4 ∨ k.role = 5) ∧ k.windowed sh = true then s.reachTray i sensor else s

/-- Hands take the blank sheet away in STANDBY: the REG sensor clears (02 R37). -/
def State.blankRemoved (s : State) (sensor : Nat) : State :=
  if s.mode = .standby ∧ s.sheets.blankRun = false ∧ s.imm (Fld.SS_ROLE sensor) = 3 then
    { s with sheets := { s.sheets with blank := none } }
  else s

def execSensorTrailEdge (sensor tick : Nat) (s : State) : Result :=
  whileUp s fun s =>
    if !s.path.level.getD sensor false then s
    else
      let s := (s.at tick).setLevel sensor false
      if s.mode = .service then s
      else match s.trailOwner sensor with
        | some i => s.trailEdge i sensor (stamp100 tick)
        | none => s.blankRemoved sensor

/-! Windows that close (16 R352). -/

/-- Windows run: not in SERVICE, not once a safe-stop has begun. -/
def State.windowsRun (s : State) : Bool := s.mode ≠ .service && !s.pathStopped

/-- LATE: the jam window closes with no lead edge. -/
def execJamWindowClose (slot sensor : Nat) (s : State) : Result :=
  whileUp s fun s =>
    match (s.onPath slot).bind fun sh => (sh.track sensor).map fun k => (sh, k) with
    | none => s
    | some (sh, k) =>
      match k.centre sh with
      | none => s
      | some c =>
        if s.windowsRun && sh.everPicked && k.windowed sh && k.lead.isNone then
          (s.at (c + k.jam)).jam sensor 1 (some slot)
        else s

/-- STUCK: no trail edge by TRAIL_MAX after the lead edge, or after the Hinge for the REG sensor. -/
def execTrailMaxExpiry (slot sensor : Nat) (s : State) : Result :=
  whileUp s fun s =>
    match (s.onPath slot).bind fun sh => (sh.track sensor).map fun k => (sh, k) with
    | none => s
    | some (sh, k) =>
      match k.lead with
      | none => s
      | some t =>
        if s.windowsRun && k.windowed sh && k.trail.isNone && (k.role ≠ 3 || sh.pastHinge) then
          (s.at ((if k.role = 3 then sh.tHinge else t) + k.trailMax)).jam sensor 3 (some slot)
        else s

/-! Path steps that fire (16 R354). -/

/-- The move of a step, measured from the axis position at the event. -/
def StepTrack.move (x : StepTrack) (p : Int) : AxisMove :=
  if wordField x.trig (Fld.PATH_MODE 0) = 0 then { AxisMove.bare with kind := .path, value := p + x.value.toInt }
  else { AxisMove.bare with kind := .velocity, value := x.value.toInt }

/-- The step's DELAY has run out: always by its due time for µs, for counts when HW has advanced by DELAY (16 R347). -/
def State.stepReady (s : State) (x : StepTrack) : Bool :=
  x.event.isSome && (x.due.isSome || x.encAt + x.delay.toNat ≤ (s.encoder x.encoder).high)

/-- A lower step whose event and due time coincide is queued first. -/
def Sheet.firstOf (sh : Sheet) (x : StepTrack) : Bool :=
  !sh.steps.any fun y => y.step < x.step && !y.fired && y.event = x.event && y.event.isSome && y.due = x.due

def execPathStepFire (slot step : Nat) (s : State) : Result :=
  whileUp s fun s =>
    match (s.onPath slot).bind fun sh => (sh.steps.find? fun x => x.step = step).map fun x => (sh, x) with
    | none => s
    | some (sh, x) =>
      match x.event with
      | none => s
      | some (_, p) =>
        if s.pathStopped || x.fired || !s.stepReady x || !sh.firstOf x then s
        else
          let s := (s.at (x.due.getD s.now)).setOnPath slot fun sh => { sh with steps := sh.steps.map fun y =>
            if y.step = step then { y with fired := true } else y }
          if !s.livOn (Fld.AXS_EN x.axis) || 24 ≤ x.axis then s
          else if (s.axis x.axis).queueFull then s.jam 0xFF 4 (some slot)
          else s.enqueueMove x.axis (x.move p)

end Sys2Proof.Machine
end

