-- ==== Sys2Proof/Machine/Sheets.lean ====
section
/-! DEFINITION. The sheet commands (02 R35-R38) and the two gates before the Hinge (02 R39-R41). -/

namespace Sys2Proof.Machine

/-! SHEET_SUBMIT (02 R29, R35). -/

/-- Step 1: STATIONS, INDEX_ADDR and INDEX_LEN in range. -/
def submitRange (p : Packet) : Bool :=
  let len := par p 0x14 4
  1 ≤ par p 8 1 && par p 8 1 < 32 && par p 0x0C 8 % 4 = 0 && 24 ≤ len && len ≤ 16 + 8 * 262143 && len % 8 = 0

/-- Step 2: a free slot, and room among the 64 held records for this sheet's own and those of the sheets in slots (R62). -/
def State.slotFree (s : State) : Bool :=
  let n := (s.slotsWhere fun _ => true).length
  n < 24 && n + s.hold.records.length < 64

/-- The slot that holds a SHEET_ID. -/
def State.slotOf (s : State) (id : Nat) : Option Nat := (s.slotsWhere fun sh => sh.id = id).head?

/-- Step 4: every station of the mask powered, which a station without a window is not (08 R163), its active plan valid with N
equal to RUN_N. -/
def State.stationsReady (s : State) (mask : Nat) : Bool :=
  (stationList mask).all fun n =>
    (s.station n).powered && (s.station n).pending.isNone && s.feed.winMiB.getD n 0 ≠ 0 &&
      match s.active n with | some q => q.n = s.run.runN | none => false

/-- Step 5: the index as read passes (07 R151). -/
def State.indexOk (s : State) (p : Packet) : Bool :=
  match p.args with
  | none => false
  | some b => indexGood b (par p 0 4) (par p 8 1) (par p 0x14 4) s.lineBytes

/-- Entries in the journal (08 R171). -/
def State.entriesHeld (s : State) : Nat :=
  ((s.slotsWhere fun _ => true).map fun i => ((s.sheet? i).map fun sh => sh.bands.length).getD 0).sum

/-- The bands that index entries give: band number and first line count on within a station (07 R150). -/
def bandsOf : List IndexEntry → Nat → Nat → Nat → List Band
  | [], _, _, _ => []
  | e :: es, n, b, f =>
    let b := if e.station = n then b else 0
    let f := if e.station = n then f else 0
    { station := e.station, band := b, first := f, lines := e.lines, comp := e.comp, last := bit e.flags 1,
      raw := bit e.flags 0, state := .waiting, ofs := 0, reqSeq := 0, again := none, verdicts := [], block := [] } ::
      bandsOf es e.station (b + 1) (f + e.lines)

def submitBands (p : Packet) : List Band :=
  bandsOf (readEntries (par p 0x14 4 / 8 - 2) ((argBytes p).drop 16)) 5 0 0

/-- Lines of the image on a station. -/
def linesOn (bands : List Band) (n : Nat) : Nat := ((bands.filter fun b => b.station = n).map Band.lines).sum

/-- Step 7: the sweeps of the image on its first station, and one more, last no longer than PITCH. -/
def State.fitsPitch (s : State) (mask : Nat) (bands : List Band) : Bool :=
  let n := s.firstStation mask
  let r := s.sweepRange n (linesOn bands n)
  ((r.2 - r.1 + 2) * s.sweepTicks : Int) ≤ us (s.imm Fld.PITCH)

/-- A sheet as it enters a slot. -/
def newSheet (p : Packet) (order : Nat) : Sheet :=
  { state := .accepted, id := par p 0 4, job := par p 4 4, stations := par p 8 1, indexAddr := par p 0x0C 8, order,
    bands := submitBands p, causes := [], linesLost := 0, retries := 0, gap := 0, tPick := 0, tHinge := 0, tClose := 0,
    location := 0xFE, cancel := false, jammed := false, everPicked := false, pastHinge := false, shed := false,
    schedHinge := 0, proj := 0, gateFail := none, registered := 0, diverted := none, cfg := [], tracks := [], steps := [],
    imaging := (stationList (par p 8 1)).map fun n =>
      { station := n, started := false, firstK := 0, sweep0 := 0, k := 0, finished := false, eFirst := 0, eLast := 0,
        past := [], lost := [], underrun := false, cut := false },
    finalState := 0 }

/-- The lowest free slot. -/
def State.freeSlot (s : State) : Nat := ((List.range 24).find? fun i => (s.sheet? i).isNone).getD 0

/-- A sheet enters the lowest free slot. -/
def State.enterSheet (s : State) (p : Packet) : State :=
  let i := s.freeSlot
  let s := { s with sheets := { s.sheets with
    slots := s.sheets.slots.set i (some (newSheet p s.sheets.nextOrder)), nextOrder := s.sheets.nextOrder + 1 } }
  (s.moveSheet i .accepted).project

def execSheetSubmit (p : Packet) (s : State) : Result :=
  command Op.SHEET_SUBMIT .owner p (fun s =>
    [inModes s fun m => m = .warming || m = .ready || m = .printing, needInit s, noTarget p,
      params p [(0, 9), (0x0C, 12)], badParam !submitRange p, (!s.slotFree, St.SLOTS_FULL),
      ((s.slotOf (par p 0 4)).isSome, St.SHEET_ID_BUSY), (!s.stationsReady (par p 8 1), St.STATION_UNAVAILABLE),
      badParam !s.indexOk p, (1048576 < s.entriesHeld + (submitBands p).length, St.NO_SPACE),
      (!s.fitsPitch (par p 8 1) (submitBands p), St.SHEET_TOO_LONG)])
    (fun c s => complete c St.OK s.freeSlot (s.enterSheet p)) s

/-! SHEET_CANCEL (02 R34, R36). -/

/-- A sheet that no cancel reaches: past its Hinge, or with its Hinge gate passed (02 R40). -/
def State.cancelLate (s : State) (i : Nat) : Bool :=
  (match s.sheet? i with | some sh => sh.pastHinge | none => false) || s.sheets.hingeReady = some i

def execSheetCancel (p : Packet) (s : State) : Result :=
  command Op.SHEET_CANCEL .owner p (fun s =>
    [noTarget p, params p [(0, 4)], ((s.slotOf (par p 0 4)).isNone, St.SHEET_UNKNOWN),
      (s.cancelLate ((s.slotOf (par p 0 4)).getD 24), St.SHEET_PAST_HINGE)])
    (fun c s =>
      let i := (s.slotOf (par p 0 4)).getD 24
      let s := s.start { c with notes := [i] }
      match s.sheet? i with
      | none => s
      | some sh =>
        if sh.state = .picked then s.setSheet i fun x => { x with cancel := true }
        else (s.stamp i Cause.HOST_CANCEL s.now).close i) s

/-! SHEET_CLEAR_REG (02 R37, R41). -/

/-- The blank sheet's run begins: its Hinge falls now, its pick PICK_LEAD and the waits before, as they were. -/
def State.runBlank (s : State) : State :=
  match s.sheets.blank with
  | none => s
  | some sh =>
    let sh := { sh with tPick := sh.tPick + (s.now - sh.schedHinge), tHinge := s.now, pastHinge := true }
    ({ s with sheets := { s.sheets with blank := some sh, blankRun := true } }).pathEvent 24 3 0 s.now

def execSheetClearReg (p : Packet) (s : State) : Result :=
  command Op.SHEET_CLEAR_REG .owner p (fun s =>
    [inModes s fun m => m = .ready || m = .printing, (s.sheets.blankRun, St.TARGET_BUSY), noTarget p, params p [],
      (s.sheets.blank.isNone, St.NOTHING_HELD)])
    (fun c s => (s.start c).runBlank) s

/-! SHEET_QUERY (02 R38). -/

/-- The slot that the query names. -/
def State.queried (s : State) (p : Packet) : Option Nat :=
  if p.target = 0xFFFF then s.slotOf (par p 0 4) else some p.target

def State.sheetStat (s : State) (i : Nat) : Nat :=
  match s.sheet? i with
  | none => 8 * i + 2 ^ 8 * 0xFE
  | some sh => sh.state.code + 8 * i + 2 ^ 8 * sh.location + 2 ^ 16 * (sh.flags % 2 ^ 16)

def execSheetQuery (p : Packet) (s : State) : Result :=
  command Op.SHEET_QUERY .observer p (fun s =>
    [(24 ≤ p.target && p.target ≠ 0xFFFF, St.BAD_TARGET), params p (if p.target = 0xFFFF then [(0, 4)] else []),
      ((s.queried p).isNone, St.SHEET_UNKNOWN)])
    (fun c s => complete c St.OK (s.sheetStat ((s.queried p).getD 0)) s) s

/-! The pick gate (02 R39, R41). -/

/-- The trace record of a gate's evaluation: 0 pick, 1 Hinge (03 R78). DESIGN CHOICE: the two bytes of the lead read 0xFFFF for an
unbounded lead, and 0 for a negative one, a deadline already past (log entry 28). -/
def State.traceGate (s : State) (slot gate : Nat) (passed : Bool) : State :=
  let lead := match s.stagingLead with | none => 0xFFFF | some l => min 0xFFFF (l / 100000).toNat
  s.record 3 slot (leBytes 1 gate ++ leBytes 1 (if passed then 1 else 0) ++ leBytes 2 lead ++
    leBytes 4 (((s.sheet? slot).map fun sh => sh.id).getD 0))

/-- T_hinge of the sheet submitted before the one in `slot`, or of the last one that passed its Hinge since READY. -/
def State.hingeBefore (s : State) (slot : Nat) : Option Nat :=
  let order := ((s.sheet? slot).map fun sh => sh.order).getD 0
  match (s.byOrder.filter fun i => match s.sheet? i with | some sh => sh.order < order | none => false).getLast? with
  | some i => (s.sheet? i).map Sheet.hinge
  | none => s.sheets.lastHinge

/-- The pick gate of `slot` is due: PICK_LEAD before its scheduled Hinge, with picking open (02 R31, R41; 05 R105). -/
def State.pickDue (s : State) (slot : Nat) : Bool :=
  (s.mode = .ready || s.mode = .printing) && s.modes.stopping = .none && !s.modes.draining && s.sheets.blank.isNone &&
    s.head = some slot &&
    match s.sheet? slot, s.hingeBefore slot with
    | some sh, some h => h + s.pitch sh ≤ s.now + s.pickLead sh
    | _, _ => true

/-- Steps 1 to 3 of R39. Every gate fails under a speed-changing failover and every pick gate while a store runs
(11 R236, 22 R447). -/
def State.pickPasses (s : State) (slot : Nat) : Bool :=
  match s.sheet? slot with
  | some sh => s.leadHolds && s.reservationsFit sh.proj && s.run.slowStep = 0 && s.nv.storing.isNone
  | none => false

/-- The sheet is picked: what is latched at the pick is latched (02 R43; 16 R350, R354), READY becomes PRINTING. -/
def State.pick (s : State) (slot : Nat) : State :=
  let cfg := [Reg.SHT_PATH_CFG, Reg.SHT_GATE_CFG, Reg.SHT_HOLD_CFG, Reg.SHT_OUTCOME_CFG].map s.reg
  let tracks := s.newTracks
  let steps := s.newSteps
  let s := (s.moveSheet slot .picked).setSheet slot fun sh => { sh with
    tPick := s.now, everPicked := true, cfg := cfg, tracks := tracks, steps := steps }
  let s := { s with sheets := { s.sheets with starved := none, starvedUp := false } }
  let s := (s.pathEvent slot 0 0 s.now).project
  if s.mode = .ready then s.enter .printing else s

/-- A gate postpones a sheet by a sweep (02 R41). -/
def State.postpone (s : State) (slot ticks : Nat) : State :=
  let s := s.setSheet slot fun sh => { sh with gap := sh.gap + ticks }
  let s := s.mirrorOn (.journal (.gap slot (((s.sheet? slot).map fun sh => sh.gap).getD 0 / 100)))
  s.stamp slot Cause.GAP_ADDED s.now

/-- A decision whose mirror message is not acknowledged, or that waits for FENCE_WAIT (20 R410). -/
def State.unconfirmed (s : State) (msg : Nat) : Bool := s.pair.fenceFrom.isSome || s.pair.unacked.any fun u => u.1 ≤ msg

/-- A failed pick gate postpones the sheet by a sweep (02 R41). -/
def State.pickFails (s : State) (slot : Nat) : State :=
  let s := (s.traceGate slot 0 false).postpone slot s.sweepTicks
  { s with sheets := { s.sheets with starved := s.sheets.starved <|> some s.now, pickWait := none } }

/-- A pick gate passes. In a SYNCED LEAD the sheet is picked once the SHADOW has acknowledged the decision (20 R410). -/
def State.pickGranted (s : State) (slot : Nat) : State :=
  let s := s.traceGate slot 0 true
  if s.syncedLead then
    let s := s.sendMirror (.journal (.gate slot 0))
    { s with sheets := { s.sheets with pickWait := some (slot, s.pair.msgSent) } }
  else s.pick slot

/-- A pick gate that waited for its acknowledgement acts, if the pick is still due. -/
def State.pickConfirmed (s : State) : State :=
  match s.sheets.pickWait with
  | some (slot, msg) =>
    if s.unconfirmed msg then s
    else
      let s := { s with sheets := { s.sheets with pickWait := none } }
      if s.pickDue slot then s.pick slot else s
  | none => s

/-- The pick gate. One whose last decision is still not acknowledged at this line start counts as failed for the sweep. -/
def execPickGate (slot tick : Nat) (s : State) : Result :=
  whileLeads s fun s =>
    let s := (s.at tick).project
    if !s.pickDue slot then s
    else if s.pickPasses slot && s.sheets.pickWait.isNone then s.pickGranted slot
    else s.pickFails slot

/-- Retries have lasted PICK_WAIT_MAX: FEED_STARVED, once (02 R41). -/
def execPickWaitMaxExpiry (s : State) : Result :=
  whileLeads s fun s =>
    match s.sheets.starved, s.head with
    | some t, some slot =>
      if s.sheets.starvedUp then s
      else
        let s := s.at (t + ms (s.imm Fld.PICK_WAIT_MAX))
        let s := { s with sheets := { s.sheets with starvedUp := true } }
        s.raise Ev.FEED_STARVED 0xFF slot (leBytes 4 (((s.sheet? slot).map Sheet.id).getD 0))
    | _, _ => s

/-! The Hinge gate (02 R40, R41). -/

/-- PREFILL_LINES, within the window's capacity less 64 (02 R43). -/
def State.prefill (s : State) (sh : Sheet) (n : Nat) : Nat :=
  min (wordField (s.sheetWord sh 1) Fld.PREFILL_LINES) (s.capacity n - 64)

/-- The Hinge gate of a sheet is due, one sweep before its scheduled Hinge or at a later sweep; every sheet before it has
passed its own. -/
def State.hingeDue (s : State) (slot : Nat) : Bool :=
  match s.sheet? slot with
  | none => false
  | some sh =>
    sh.everPicked && !sh.pastHinge && s.modes.stopping = .none && s.sheets.hingeReady.isNone &&
      sh.schedHinge ≤ s.now + 2 * s.sweepTicks &&
      s.byOrder.all fun i => match s.sheet? i with | some x => x.pastHinge || sh.order ≤ x.order | none => true

/-- Steps 1 to 4 of R40, for a Hinge at the next line start. -/
def State.hingePasses (s : State) (slot : Nat) : Bool :=
  match s.sheet? slot with
  | none => false
  | some sh =>
    let n := s.firstStation sh.stations
    let h := s.lineFrom n (s.now + 1)
    sh.state = .registered && s.prefill sh n ≤ s.linesReady n sh.id && s.leadHolds && s.run.slowStep = 0 &&
      sh.bands.all fun b => b.station = n || !b.unstaged || ((h + s.stageLeadMin : Nat) : Int) ≤ s.deadline sh b

/-- REG_HOLD_MAX is reached: the sheet closes HELD at registration, SHEET_REG_TIMEOUT, and nothing further is picked (02
R41). -/
def State.regTimeout (s : State) (slot : Nat) : State :=
  match s.sheet? slot with
  | none => s
  | some sh =>
    let s := s.raise Ev.SHEET_REG_TIMEOUT 0xFF slot (leBytes 4 sh.id)
    ({ s with sheets := { s.sheets with blank := some sh, blankRun := false } }).close slot

def State.regHold (s : State) (sh : Sheet) : Nat := ms (wordField (s.sheetWord sh 2) Fld.REG_HOLD_MAX)

/-- A failed Hinge gate: another sweep, or the end of a wait that has lasted REG_HOLD_MAX already. -/
def State.hingeFails (s : State) (slot : Nat) : State :=
  match s.sheet? slot with
  | none => s
  | some sh =>
    let n := s.firstStation sh.stations
    let s := s.postpone slot (s.fineTicks n (s.sweepFine n)).toNat
    let s := s.setSheet slot fun x => { x with gateFail := x.gateFail <|> some s.now }
    if sh.state = .registered ∧ sh.registered + s.regHold sh ≤ s.now then s.regTimeout slot else s

/-- A Hinge gate passes, its decision mirrored in a SYNCED LEAD (20 R410). -/
def State.hingeGranted (s : State) (slot : Nat) : State :=
  let s := if s.syncedLead then s.sendMirror (.journal (.gate slot 1)) else s
  { s with sheets := { s.sheets with hingeReady := some slot, hingeMsg := if s.syncedLead then some s.pair.msgSent else none } }

def execHingeGate (slot tick : Nat) (s : State) : Result :=
  whileLeads s fun s =>
    let s := (s.at tick).project
    if !s.hingeDue slot then s
    else if s.hingePasses slot then (s.traceGate slot 1 true).hingeGranted slot
    else (s.traceGate slot 1 false).hingeFails slot

/-- The wait at registration has lasted REG_HOLD_MAX, with a Hinge gate failed. -/
def execRegHoldMaxExpiry (slot : Nat) (s : State) : Result :=
  whileLeads s fun s =>
    match s.sheet? slot with
    | none => s
    | some sh =>
      if sh.state = .registered ∧ sh.gateFail.isSome = true ∧ s.sheets.hingeReady ≠ some slot ∧ s.pathStopped = false then
        (s.at (sh.registered + s.regHold sh)).regTimeout slot
      else s

/-! The Hinge (02 R33, R40). -/

/-- The sheet passes its Hinge at the first line start after its gate has passed: IMAGING, and the path's Hinge event. -/
def State.passHinge (s : State) (slot : Nat) : State :=
  let s := (s.moveSheet slot .imaging).setSheet slot fun sh => { sh with pastHinge := true, tHinge := s.now }
  let s := { s with sheets := { s.sheets with lastHinge := some s.now, hingeReady := none, hingeMsg := none } }
  (s.pathEvent slot 3 0 s.now).project

/-- The line start of the Hinge. A gate not acknowledged by then counts as failed for the sweep (20 R410). -/
def execHinge (slot tick : Nat) (s : State) : Result :=
  whileLeads s fun s =>
    if s.sheets.hingeReady = some slot ∧ s.modes.stopping = .none then
      let s := s.at tick
      if s.sheets.hingeMsg.any s.unconfirmed then
        { s with sheets := { s.sheets with hingeReady := none, hingeMsg := none } }.hingeFails slot
      else s.passHinge slot
    else s

end Sys2Proof.Machine
end

