-- ==== Sys2Proof/Machine/Scan.lean ====
section
/-! DEFINITION. Beam detect and sweeps (09 R180-R202): prediction, tracking states, the facet signature, the line error, and
what follows the sweep count of a station (15 R326). -/

namespace Sys2Proof.Machine

/-! Facets (09 R180, R185, R195). -/

def State.facets (s : State) (n : Nat) : Nat := s.liv (Fld.STN_FACETS n)

def State.facetAfter (s : State) (n f k : Nat) : Nat := if s.facets n = 0 then 0 else (f + k) % s.facets n

def State.sig (s : State) (n f : Nat) : Int := s.livInt (Fld.STN_SIG n f)

/-- The time from the last edge used to the next one predicted, in fine steps (09 R185). -/
def State.nextGap (s : State) (n : Nat) : Int := (s.scan n).period + s.sig n (s.scan n).facet

/-- The mean of a run of periods, to the nearest fine step (log entry 45). -/
def meanOf (l : List Int) : Int := nearest l.sum l.length

/-- m_j of a run: one revolution as it stands, two averaged position by position, in halves of a fine step (09 R195). -/
def runShape (f : Nat) (run : List Int) : List Int :=
  let mean := meanOf run
  if run.length = 2 * f then (List.range f).map fun j => run.getD j 0 + run.getD (j + f) 0 - 2 * mean
  else (List.range f).map fun j => 2 * (run.getD j 0 - mean)

/-- D_r of a rotation, in halves of a fine step. -/
def State.distance (s : State) (n : Nat) (shape : List Int) (r : Nat) : Nat :=
  ((List.range (s.facets n)).map fun j => (shape.getD j 0 - 2 * s.sig n (s.facetAfter n r j)).natAbs).sum

/-- The identity of a run's first edge and whether it is unambiguous; `predicted` is what it is with SIG all zero
(09 R195). -/
def State.identify (s : State) (n predicted : Nat) (run : List Int) : Nat × Bool :=
  let f := s.facets n
  if (List.range f).all fun j => s.sig n j = 0 then (predicted, true)
  else
    let ds := (List.range f).map (s.distance n (runShape f run))
    let least := ds.foldl min (ds.headD 0)
    let r := ((List.range f).find? fun i => ds.getD i 0 = least).getD 0
    let rest := ds.eraseIdx r
    let second := rest.foldl min (rest.headD 0)
    (r, least ≤ 2 * s.imm (Fld.STN_SIG_TOL n) * f && least + 2 * s.imm (Fld.STN_SIG_MARGIN n) * f ≤ second)

/-- PERIOD within ±1 % of PERIOD_NOM, as RUN_N scales it (09 R193, 11 R231); a speed-changing failover in progress acquires at
its own N′ (11 R236). -/
def State.nearNominal (s : State) (n : Nat) (period : Int) : Bool :=
  100 * (period - s.periodDue n).natAbs ≤ (s.periodDue n).natAbs

/-! The events of R197. -/

/-- FACET_MISMATCH on entering MISMATCH or LOST. -/
def State.facetEvent (s : State) (n expected found : Nat) : State :=
  s.raise Ev.FACET_MISMATCH n 0xFF [BitVec.ofNat 8 expected, BitVec.ofNat 8 found]

/-- The FACET_MISMATCH stamps of the CHECK sweeps, on the sheets still in slots. -/
def stampHits : List (Nat × Nat) → State → State
  | [], s => s
  | (slot, t) :: l, s => stampHits l (s.stamp slot Cause.FACET_MISMATCH t)

/-! Edges (09 R193, R194). -/

/-- The periods measured so far, with the one that the accepted edge ends. -/
def Scan.runWith (c : Scan) (fine : Nat) : List Int := if c.anchored then c.run ++ [(fine : Int) - c.lastEdge] else []

/-- PERIOD over the last revolution of accepted edges, once there is one (09 R185). -/
def State.newPeriod (s : State) (n : Nat) (run : List Int) : Int :=
  let f := s.facets n
  if f ≤ run.length ∧ 0 < f then meanOf (run.drop (run.length - f)) else (s.scan n).period

/-- SIG_MEAS over the last revolution in TRACK; `f` is the facet of the edge that ends it, `tracked` the periods at the end of the run that
were measured in TRACK (09 R204). -/
def State.measured (s : State) (n f tracked : Nat) (run : List Int) : List Int :=
  let k := s.facets n
  let last := run.drop (run.length - k)
  if k ≤ tracked ∧ k ≤ run.length ∧ 0 < k then
    (List.range k).foldl (fun m j => m.set (s.facetAfter n f j) (last.getD j 0 - meanOf last)) (s.scan n).sigMeas
  else (s.scan n).sigMeas

/-- ACQUIRE: two revolutions, PERIOD near its nominal, the signature unambiguous; else the test is repeated. -/
def State.edgeAcquire (s : State) (n : Nat) : State :=
  let c := s.scan n
  if c.run.length < 2 * s.facets n then s
  else
    let (r, sure) := s.identify n 0 c.run
    if sure && s.nearNominal n c.period then s.setScan n fun c => { c with state := .track, facet := r, run := c.run.drop (s.facets n) }
    else s.setScan n fun c => { c with run := [] }

/-- COAST: back to the edges by SLEW when the error is small, by CHECK when it is not. -/
def State.edgeCoast (s : State) (n : Nat) (error : Int) : State :=
  let s := s.leaveCoast n
  if error.natAbs ≤ 128 then s.setScan n fun c => { c with state := .slew, slew := -error }
  else s.setScan n fun c => { c with state := .check, runFacet := c.facet, checkHits := [], coasted := 0 }

/-- SLEW: an eighth of a dot a sweep toward 0. -/
def State.edgeSlew (s : State) (n : Nat) : State :=
  let v := (s.scan n).slew
  let v := if v.natAbs ≤ 8 then 0 else v - 8 * sgn v
  let s := s.setScan n fun c => { c with slew := v }
  if v = 0 then (s.leaveCoast n).setScan n fun c => { c with state := .track, coasted := 0 } else s

/-- The one-revolution test of CHECK. -/
def State.edgeCheck (s : State) (n : Nat) : State :=
  let c := s.scan n
  if c.run.length < s.facets n then s
  else
    let (r, sure) := s.identify n c.runFacet c.run
    if sure && r = c.runFacet then (s.setScan n fun c => { c with state := .track }).endCheck n
    else
      let s := (stampHits c.checkHits s).setScan n fun c => { c with
        state := .mismatch, known := sure, facet := if sure then r else c.facet, run := [], runFacet := c.facet }
      (s.facetEvent n c.runFacet r).endCheck n

/-- MISMATCH: once the identity is found, TRACK at the edge of facet 0; before, the test again (09 R193, R196). -/
def State.edgeMismatch (s : State) (n : Nat) : State :=
  let c := s.scan n
  if c.known then
    if c.facet = 0 then s.setScan n fun c => { c with state := .track, known := false } else s
  else if c.run.length < s.facets n then s
  else
    let (r, sure) := s.identify n c.runFacet c.run
    s.setScan n fun c => { c with known := sure, facet := if sure then r else c.facet, run := [], runFacet := c.facet }

/-- An accepted edge in the station's tracking state. -/
def State.stepEdge (s : State) (n fine : Nat) : State :=
  let c := s.scan n
  let error := (fine : Int) - (c.lastEdge + s.nextGap n)
  let f := if c.state = .acquire then 0 else s.facetAfter n c.facet 1
  let run := c.runWith fine
  let run := if c.state = .track ∨ c.state = .slew then run.drop (run.length - 2 * s.facets n) else run
  let period := if c.state = .coast ∨ c.state = .lost then c.period else s.newPeriod n run
  let tracked := if c.state = .track && c.anchored then c.trackRun + 1 else 0
  let meas := s.measured n f tracked run
  let s := s.setScan n fun c => { c with
    trackRun := tracked, lastEdge := fine, facet := f, run := run, anchored := true, period := period, sigMeas := meas,
    facetErr := if c.state = .acquire then c.facetErr else c.facetErr.set f error }
  match c.state with
  | .off | .track => s
  | .acquire => s.edgeAcquire n
  | .coast => s.edgeCoast n error
  | .slew => s.edgeSlew n
  | .check => s.edgeCheck n
  | .mismatch => s.edgeMismatch n
  | .lost => s.setScan n fun c => { c with state := .check, runFacet := c.facet, run := [], checkHits := [] }

/-- A station enters LOST (09 R193, R197). -/
def State.lose (s : State) (n : Nat) : State :=
  let s := ((s.leaveCoast n).setScan n fun c => { c with state := .lost, slew := 0, coasted := 0, known := false }).facetEvent n
    (s.scan n).facet 0xFF
  s.endCheck n

/-- A missing sweep in the station's tracking state: the prediction is the edge used. In ACQUIRE the count goes on too (09 R198). -/
def State.stepMissing (s : State) (n : Nat) : State :=
  let c := s.scan n
  let f := s.facetAfter n c.facet 1
  let s := s.setScan n fun c => { c with
    missing := satAdd 0xFFFF c.missing 1, anchored := false, run := [], trackRun := 0, window := false,
    facetMiss := if c.tracking then c.facetMiss.set f (satAdd 0xFFFF (c.facetMiss.getD f 0) 1) else c.facetMiss }
  let s := s.setScan n fun x => { x with
    lastEdge := (x.lastEdge + s.nextGap n + c.slew).toNat, facet := if c.tracking then f else x.facet, slew := 0 }
  if !c.tracking then s
  else
    match c.state with
    | .track | .slew => s.setScan n fun x => { x with state := .coast, coasted := 1 }
    | .coast =>
      if max 1 (s.imm (Fld.STN_COAST_MAX n)) ≤ c.coasted then s.lose n
      else s.setScan n fun x => { x with coasted := x.coasted + 1 }
    | .check | .mismatch => s.lose n
    | _ => s

/-! What follows the sweep count (09 R199-R201, 15 R326). -/

/-- The drum count: the count of DRUM_ENC, negated by DRUM_DIR (09 R199). -/
def State.drumCount (s : State) (n : Nat) : Int :=
  let c := (s.encoder (s.liv (Fld.STN_DRUM_ENC n))).count
  if s.livOn (Fld.STN_DRUM_DIR n) then -c else c

/-- The slot of the station's drum, D5 for S0 to D9 for S4, is closed (09 R199). -/
def State.drumClosed (s : State) (n : Nat) : Bool :=
  match s.slotFor 1 (5 + n) with
  | some i => (s.loop i).state = .closed || (s.loop i).state = .fenced
  | none => false

/-- e of R200 in sixteenths of a line, to the nearest (log entry 45), for a drum count. -/
def State.lineErr (s : State) (n : Nat) (drum : Int) : Int :=
  let c := s.scan n
  nearest (16 * (drum - c.baseCnt) * 65536) (s.liv (Fld.STN_DRUM_CPL n)) - 16 * c.linesSince

/-- OVERSPEED and UNDERSPEED, each again only after |e| has been within 4/16 line (09 R201). -/
def State.judgeErr (s : State) (n : Nat) : State :=
  let c := s.scan n
  let near := c.err.natAbs ≤ 4
  let fast := 8 < c.err && c.overArmed
  let slow := c.err < -8 && c.underArmed
  let s := s.setScan n fun c => { c with overArmed := near || (c.overArmed && !fast), underArmed := near || (c.underArmed && !slow) }
  let s := if fast then s.raise Ev.OVERSPEED n 0xFF (leInt 2 c.err) else s
  if slow then s.raise Ev.UNDERSPEED n 0xFF (leInt 2 c.err) else s

/-- The drum against the sweeps at an edge. BASE_CNT is set at the first edge with the drum loop closed in WARMING, and after step 3 of a
speed-changing failover; from then on every sweep counts N lines and gives e, whatever the slot does (09 R200). -/
def State.drumStep (s : State) (n : Nat) : State :=
  let drum := s.drumCount n
  let c := s.scan n
  if c.toBase && s.drumClosed n then
    s.setScan n fun c => { c with
      drumCnt := drum, based := true, toBase := false, baseCnt := drum, linesSince := 0, err := 0, overArmed := true,
      underArmed := true }
  else if !c.based then s.setScan n fun c => { c with drumCnt := drum }
  else
    let s := s.setScan n fun c => { c with drumCnt := drum, linesSince := c.linesSince + s.run.runN }
    (s.setScan n fun c => { c with err := s.lineErr n drum }).judgeErr n

/-- FOLLOW_SWEEP of a slot at a sweep of its station that lasted `t` ticks; a drum counted backward is followed backward. -/
def State.followSweep (s : State) (n i t : Nat) : State :=
  let c := s.scan n
  let way : Int := if s.livOn (Fld.STN_DRUM_DIR n) then -1 else 1
  let cpl : Int := s.liv (Fld.STN_DRUM_CPL n)
  let r := way * (q32 c.baseCnt + c.linesSince * cpl * 65536)
  let r1 := way * divOpen (s.run.runN * cpl * 65536 * 100000000) t
  s.setLoop i fun L => { L with r := r, r2 := divOpen ((r1 - L.r1) * 100000000) t, r1 := r1 }

/-- The station whose sweeps a slot follows: REF_STN (15 R326), for the belt's slot the process master (01 R25, 24 R486). -/
def State.refStation (s : State) (i : Nat) : Nat := if s.slotFor 1 10 = some i then s.master else s.liv (Fld.LOOP_REF_STN i)

/-- A slot follows the sweeps of station `n`: closed, FOLLOW_SWEEP, and not taken over (15 R326, R329). -/
def State.follows (s : State) (n i : Nat) : Bool :=
  ((s.loop i).state = .closed || (s.loop i).state = .fenced) && (s.loop i).take = .none && (s.loop i).move.isNone &&
    s.liv (Fld.LOOP_REF_MODE i) = 1 && s.refStation i = n

def followAll (n t : Nat) : List Nat → State → State
  | [], s => s
  | i :: is, s => followAll n t is (if s.follows n i then s.followSweep n i t else s)

/-- The lag against the master's edges at which the polygon of a station holds its facet phase, in 1/1024 sweep: PHASE, none on the
master (09 R190, 14 R285). Where an edge falls is what BD_EDGE brings (log entry 17). -/
def State.phaseLag (s : State) (n : Nat) : Int := s.offset n % 1024

/-- The measured lag against the master less PHASE, in 1/1024 sweep; 0 on the master (09 R191). -/
def State.phaseError (s : State) (n : Nat) : Int :=
  if n = s.master then 0
  else
    let lag := (s.scan n).edgeTick - (s.scan s.master).edgeTick
    let d := divOpen (1024 * lag) s.sweepTicks - s.phaseLag n
    (d + 512) % 1024 - 512

def Tracking.code : Tracking → Nat
  | .off => 0 | .acquire => 1 | .track => 2 | .coast => 3 | .slew => 4 | .check => 5 | .mismatch => 6 | .lost => 7

/-- The trace record of a sweep (03 R78). -/
def State.traceSweep (s : State) (n : Nat) : State :=
  if bit s.trace.stations n then
    let c := s.scan n
    s.record 2 n (leBytes 4 c.sweeps ++ leBytes 1 c.state.code ++ leBytes 1 c.facet ++ leInt 2 c.err)
  else s

/-- Every sweep, whatever the state: the count, the drum, the references slaved to it, and at the process master the projected
Hinges (09 R198, 02 R30). `edge` is the tick of its edge. -/
def State.sweep (s : State) (n edge : Nat) : State :=
  let s := s.setScan n fun c => { c with sweeps := c.sweeps + 1, prevTick := c.edgeTick, edgeTick := edge }
  let s := s.drumStep n
  let s := s.setScan n fun c => { c with phaseErr := s.phaseError n }
  let s := followAll n ((s.scan n).edgeTick - (s.scan n).prevTick) (List.range 24) s
  ((if n = s.master then s.project else s).traceSweep n).watchHold

/-! The commands. -/

/-- What the sync pulse weighs in the duty guard: SYNC_EMITTER, or SYNC_ALT when that is failed, at the full code for `dots`
(09 R183, 12 R254, 13 R273). -/
def State.syncEmitter (s : State) (n : Nat) : Nat :=
  let e := s.liv (Fld.STN_SYNC_EMITTER n)
  if (s.emitter n e).failed then s.liv (Fld.STN_SYNC_ALT n) else e

def State.weigh (s : State) (n e w : Nat) : State :=
  (s.setEmitter n e fun x => { x with weight := x.weight + w }).setPipe n fun p => { p with headWeight := p.headWeight + w }

def State.weighSync (s : State) (n dots : Nat) : State :=
  if (s.link n).laserEn then s.weigh n (s.syncEmitter n) (16 * min 55 (s.laserCeiling n) * dots) else s

/-- Enabled drums, belt and roller that stand still are started and slaved (05 R116). -/
def startSlaved : List Nat → State → State
  | [], s => s
  | d :: ds, s =>
    startSlaved ds
      (if s.livOn (Fld.DRV_EN d) && (s.drive d).state = .off then (s.slave d).listen d 1 0
       else if s.livOn (Fld.DRV_EN d) then s.slave d else s)

/-- In WARMING the drums, belt and roller start once the process master has been found by beam detect. -/
def State.startDrums (s : State) (n : Nat) (before : Tracking) : State :=
  if s.mode = .warming ∧ n = s.master ∧ before = .acquire ∧ (s.scan n).state = .track then startSlaved [5, 6, 7, 8, 9, 10, 11] s
  else s

/-! The sync window (09 R182-R184). -/

/-- In ACQUIRE and LOST the window is the whole time between two active scans. -/
def Scan.wide (c : Scan) : Bool := c.state = .acquire || c.state = .lost

/-- When the window opens, in fine steps after the last edge: SYNC_LEAD dots before the predicted edge, or at the end of the predicted
active scan. -/
def State.openFine (s : State) (n : Nat) : Int :=
  if (s.scan n).wide then s.startFine n (s.scan n).facet (s.scan n).slew + 64 * s.lineDots n
  else s.nextGap n - 64 * s.imm (Fld.STN_SYNC_LEAD n)

/-- When it closes without an edge: BD_WIN dots after the predicted edge, or 64 dots before the predicted line start of the next
sweep. -/
def State.closeFine (s : State) (n : Nat) : Int :=
  let start := s.startFine n (s.facetAfter n (s.scan n).facet 1) 0
  if (s.scan n).wide then s.nextGap n + start - 64 * 64 else s.nextGap n + 64 * s.bdWin n

def State.openDue (s : State) (n : Nat) : Nat := (s.scan n).edgeTick + (s.fineTicks n (s.openFine n)).toNat
def State.closeDue (s : State) (n : Nat) : Nat := (s.scan n).edgeTick + (s.fineTicks n (s.closeFine n)).toNat

/-- An edge comes behind the window, whose close has not been taken yet. The first window of ACQUIRE has no edge to be predicted from. -/
def State.pastWindow (s : State) (n : Nat) : Bool :=
  ((s.scan n).anchored || (s.scan n).tracking) && s.closeDue n < s.now

/-- The sync emitter has been lit since the window opened. -/
def State.weighWindow (s : State) (n : Nat) : State := s.weighSync n (s.tickDots n (s.now - (s.scan n).windowAt))

/-- A pulse of 20 ns or more is seen; whether a shorter one is, the manual does not say: free. -/
def State.seesPulse (s : State) (width : Nat) : Bool × State :=
  if 20 ≤ width then (true, s)
  else
    let (v, s) := s.drawNat
    (v % 2 = 1, s)

/-- An edge less than 32 dot periods behind the last one taken is that edge still (09 R182). -/
def State.sameEdge (s : State) (n fine : Nat) : Bool :=
  match (s.scan n).lastSeen with
  | some f => f ≤ fine && fine < f + 32 * 64
  | none => false

/-- An edge outside the sync window is ignored and counted (09 R184). -/
def State.spuriousEdge (s : State) (n fine : Nat) : State :=
  s.setScan n fun c => { c with spurious := satAdd 0xFFFF c.spurious 1, lastSeen := some fine }

/-- The alignment of the coming line start begins (10 R214), and TIME is placed that tells it to the head (13 R270). -/
def State.alignLine (s : State) (n : Nat) : State :=
  let c := s.scan n
  (s.alignOn n (c.lastEdge + s.startFine n c.facet c.slew)).placeTime n

/-- SYNC_OFF leaves once for an accepted edge, within 16 island cycles (13 R267). -/
def State.syncOff (s : State) (n : Nat) : State :=
  if (s.link n).frame.isSome then s.out (.beam n s.now (.syncOff ((s.scan n).sweeps + 1))) else s

/-- An edge of BDn (09 R182, R184, R193). `raw` is the TDC's count in 1/16 of an OUT1 period, `falling` its polarity, of which BD_EDGE selects
one, `width` the length of the pulse in ns. -/
def execBdEdge (station tick raw : Nat) (falling : Bool) (width : Nat) (s : State) : Result :=
  whileUp s fun s =>
    let s := (s.at tick).turnPll station
    let c := s.scan station
    if c.state = .off ∨ falling ≠ s.livOn (Fld.STN_BD_EDGE station) then s
    else
      let fine := (s.pll station).stamp raw
      let (seen, s) := s.seesPulse width
      if !seen || s.sameEdge station fine then s
      else if !c.window || s.pastWindow station then s.spuriousEdge station fine
      else
        let s := ((s.weighWindow station).syncOff station).setScan station fun c => { c with window := false, lastSeen := some fine }
        (((s.stepEdge station fine).sweep station tick).alignLine station).startDrums station c.state

/-- An edge of the selected polarity outside the sync window (09 R184). -/
def execSpuriousEdge (station raw : Nat) (s : State) : Result :=
  whileUp s fun s =>
    let fine := (s.turned station).stamp raw
    if (s.scan station).window || s.sameEdge station fine then s else s.spuriousEdge station fine

/-- The window closes with no edge, and the sweep runs on the prediction (09 R184). -/
def execMissingSweep (station : Nat) (s : State) : Result :=
  whileUp s fun s =>
    let c := s.scan station
    if c.state = .off ∨ c.window = false then s
    else
      let s := (s.at (s.closeDue station)).weighWindow station
      let edge := c.edgeTick + (s.fineTicks station (s.nextGap station + c.slew)).toNat
      ((s.stepMissing station).sweep station edge).alignLine station

/-- The window opens (09 R183). LASER_EN rises here and nowhere else (13 R281). -/
def execSyncWindowOpen (station : Nat) (s : State) : Result :=
  whileUp s fun s =>
    let c := s.scan station
    if c.state = .off ∨ c.window = true then s
    else
      let s := s.at (s.openDue station)
      let s := s.setScan station fun c => { c with window := true, windowAt := s.now }
      if s.laserMay station then s.setLink station fun l => { l with laserEn := true } else s

end Sys2Proof.Machine
end

