-- ==== Sys2Proof/Machine/Lines.lean ====
section
/-! DEFINITION. The line start (09 R186, R198; 10 R215; 11 R222, R233, R234, R237; 12 R239-R246): the rate taken up, plans
copied at a failover, images going on by a sweep, their stamps, and the codes of the line. -/

namespace Sys2Proof.Machine

/-! The pixel rate (10 R215). -/

/-- BASE and MAG are taken up, with the interpolator turned up to here; PERIOD is scaled by the change in rate, and so are the measured
periods that its next mean is taken over (log entry 46). -/
def State.takeRate (s : State) (n : Nat) : State :=
  let s := s.turnPll n
  let p := s.pll n
  let base := s.baseOf n
  let mag := s.immInt (Fld.STN_MAG n)
  let old : Int := 2 ^ 24 + p.rate
  let new : Int := 2 ^ 24 + base + mag
  let s := (s.setPll n fun p => { p with base := base, magLive := mag }).countDots n
  let scaled (v : Int) : Int := divOpen (2 * v * new + old) (2 * old)
  if new = old then s else s.setScan n fun c => { c with period := scaled c.period, run := c.run.map scaled }

/-! Plans that become active (11 R230, R233). -/

/-- PLAN_SWITCHED: the source slot and the new N. -/
def State.planSwitched (s : State) (n slot : Nat) : State :=
  s.raise Ev.PLAN_SWITCHED n 0xFF [BitVec.ofNat 8 slot, BitVec.ofNat 8 (((s.active n).map Plan.n).getD 0)]

/-- The images of a station change from plan `old` to the active one at their next sweep, which starts now; what neither provides is lost to
emitter `e`, at the line start of the sweep that would have written it (11 R234, 12 R261). -/
def changePlan (n e : Nat) (old : Option Plan) : List Nat → State → State
  | [], s => s
  | slot :: l, s =>
    let s := s.setImaging slot n fun i => leavePlan old (i.k + 1) i
    changePlan n e old l
      (match s.sheet? slot, s.active n with
      | some sh, some q =>
        match sh.on n with
        | some i =>
          if i.cut then s
          else s.loseLines slot n e ((s.switchLost n (sh.lines n) i q (i.k + 1)).map fun l => (l, s.lostAt n i l))
        | none => s
      | _, _ => s)

/-- A copied alternate becomes slot 0 at the line start after the copy has finished, as it was copied (11 R233). DESIGN CHOICE: a PLAN_SWITCH
that lands at the end of active scan at which the copy was taken exchanges slots 0 and 1 first, and the copy then replaces slot 0; a
safe-stop leaves a copy standing (log entry 44). -/
def State.activate (s : State) (n : Nat) : State :=
  match (s.plans n).copying with
  | none => s
  | some c =>
    if c.later then s.setPlans n fun P => { P with copying := some { c with later := false } }
    else
      let e := c.emitter
      let old := s.active n
      let s := s.setPlans n fun P => { P.put 0 c.slot with
        source := 2 + e, copying := none, failovers := satAdd 0xFFFF P.failovers 1 }
      (changePlan n e old (s.imagedOn n) (s.mirrorOn (.journal (.failover n (2 + e))))).planSwitched n (2 + e)

/-! Images (09 R191, R198; 11 R222). -/

/-- One more sweep of a sheet on a station: its image goes on by a sweep, or begins at the first line start at or after the
station's time for it (09 R191). `cut` when the station writes nothing until the next sheet's start (05 R117). -/
def State.stepImage (s : State) (n slot : Nat) (cut : Bool) : State :=
  match s.sheet? slot with
  | none => s
  | some sh =>
    match sh.on n with
    | none => s
    | some i =>
      if sh.state ≠ .imaging ∨ i.finished = true then s
      else if i.started then s.setImaging slot n fun i => { i with k := i.k + 1, eLast := (s.scan n).err, cut := i.cut || cut }
      else if s.beginOn sh n ≤ s.now then
        let first := (s.sweepRange n (sh.lines n)).1
        s.setImaging slot n fun i => { i with
          started := true, firstK := first, k := first, sweep0 := (s.scan n).sweeps, eFirst := (s.scan n).err,
          eLast := (s.scan n).err, cut := cut }
      else s

def stepImages (n : Nat) (cut : Bool) : List Nat → State → State
  | [], s => s
  | i :: is, s => stepImages n cut is (s.stepImage n i cut)

/-! What a sweep stamps (09 R192, R201; 12 R255; 11 R237). -/

/-- Emitters of the active plan that are blanked (12 R256). -/
def State.goneLanes (s : State) (n : Nat) : List Nat :=
  match s.active n with
  | some p => p.lanes.filter fun e => (s.emitter n e).gone
  | none => []

/-- The blanked emitter of a speed-changing failover that is on its way (11 R236). -/
def State.slowing (s : State) (n e : Nat) : Bool :=
  s.run.slowStep ≠ 0 && s.run.slowStation = n && s.run.slowEmitter = e

/-- BLANKED: an emitter of the active plan is failed and nothing replaces it (11 R237). -/
def State.blanked (s : State) (n : Nat) : Bool :=
  (s.goneLanes n).any fun e =>
    (s.plans n).copying.all (fun c => c.emitter ≠ e) && !s.slowing n e && (s.sameSpeed n e).isNone && (s.slowAlt n e).isNone

/-- A clamp of the duty guard is in force (12 R255). -/
def State.clamped (s : State) (n : Nat) : Bool := (s.pipe n).headClamp || (s.pipe n).emitters.any fun e => e.clamp

/-- DUTY_CLAMP on the sheets a station images; the sweep is counted once (12 R255). -/
def State.clampStamps (s : State) (n time : Nat) : State :=
  let l := s.imagedOn n
  if l = [] ∨ s.clamped n = false then s
  else
    let s := stampAll Cause.DUTY_CLAMP time l s
    let k := (s.scan n).sweeps + 1
    if (s.pipe n).clampAt = k then s
    else s.setPipe n fun p => { p with clampAt := k, clampSweep := satAdd 0xFFFF p.clampSweep 1 }

/-- The stamp of a tracking state (09 R192). -/
def Tracking.stamp : Tracking → Option Nat
  | .coast | .slew | .check => some Cause.COASTED
  | .mismatch | .lost => some Cause.FACET_MISMATCH
  | .off | .acquire => some Cause.STATION_RESET
  | .track => none

def stampOpt (cause : Option Nat) (time : Nat) (l : List Nat) (s : State) : State :=
  match cause with
  | some c => stampAll c time l s
  | none => s

/-- The stamps of one sweep on the sheets it images. -/
def State.sweepStamps (s : State) (n : Nat) : State :=
  let l := s.imagedOn n
  let c := s.scan n
  let s := stampOpt c.state.stamp s.now l s
  let s := if c.state = .check then s.setScan n fun c => { c with checkHits := c.checkHits ++ l.map fun i => (i, s.now) } else s
  let s := if 8 < c.err then stampAll Cause.OVERSPEED s.now l s
    else if c.err < -8 then stampAll Cause.UNDERSPEED s.now l s else s
  let s := if l ≠ [] ∧ s.blanked n = true then
      (stampAll Cause.EMITTER_BLANKED s.now l s).setPlans n fun P => { P with blankSweeps := satAdd 0xFFFF P.blankSweeps 1 }
    else s
  s.clampStamps n s.now

/-- The lines that the blanked emitters would have written in this sweep (12 R260, R261). While a copy is under way the switch
counts them (11 R234). -/
def loseGone (n : Nat) (slot : Nat) : List Nat → State → State
  | [], s => s
  | e :: es, s =>
    loseGone n slot es
      (match s.sheet? slot with
      | none => s
      | some sh =>
        match sh.on n with
        | none => s
        | some i => if i.cut then s else s.loseLines slot n e (s.emitterLines n (sh.lines n) e i i.k i.k))

/-! The reads and codes of the line (12 R240-R252). -/

/-- The states in which an image is written. -/
def Tracking.writes (t : Tracking) : Bool := t = .track || t = .coast || t = .slew || t = .check

/-- The lanes that write a line of the sheet in this sweep. -/
def State.laneReads (s : State) (n : Nat) (sh : Sheet) (i : Imaging) : List LaneRead :=
  match s.active n with
  | none => []
  | some p =>
    (List.range 32).filterMap fun lane =>
      match p.lineOf (s.headOfs n) lane i.k with
      | none => none
      | some l =>
        if 0 ≤ l && l < (sh.lines n : Int) then
          some ⟨p.lanes.getD lane 0, l, p.maskRow lane i.k l, sh.id, sh.lines n, s.exposed n i l⟩
        else none

/-- The source lines of a lane (12 R240). -/
def State.sources (s : State) (n : Nat) (r : LaneRead) : List Int :=
  if r.row &&& ~~~r.done = 0 then []
  else
    ((List.range (s.liv (Fld.STN_LINE_KDOTS n))).map fun j => r.line + segHop (s.pipe n).segLive r.emitter j).eraseDups.filter
      fun l => 0 ≤ l && l < (r.length : Int)

/-- Source lines of the sweep that are not present for it (08 R165). -/
def State.missing (s : State) (n : Nat) (rs : List LaneRead) : List (Nat × Int) :=
  (rs.flatMap fun r => (s.sources n r).map fun l => (r.sheetId, l)).eraseDups.filter fun x =>
    !match s.winLine n x.1 x.2.toNat with | some w => w.ready && !w.bad | none => false

/-- The codes of a lane beside those of another sheet on it: a lane writes a dot of one sheet at most. -/
def addCodes (x : Nat × List Nat) : List (Nat × List Nat) → List (Nat × List Nat)
  | [] => [x]
  | (d, l) :: r => if d = x.1 then (d, List.zipWith max l x.2) :: r else (d, l) :: addCodes x r

/-- The line of one imaged sheet: what is missing, and the codes of its lanes. -/
def State.imageLine (s : State) (n slot : Nat) : State :=
  match s.sheet? slot with
  | none => s
  | some sh =>
    match sh.on n with
    | none => s
    | some i =>
      if i.cut || !(s.scan n).state.writes then s
      else
        let rs := s.laneReads n sh i
        if sh.shed then s.setStation n fun st => { st with underrun := (st.underrun + rs.length) % 2 ^ 32 }
        else
          let gaps := s.missing n rs
          let codes := rs.map fun r => (r.emitter, s.laneCodes n r)
          let s := s.setPipe n fun p => { p with sending := codes.foldl (fun l x => addCodes x l) p.sending }
          match gaps with
          | [] => s
          | g :: _ =>
            (s.setStation n fun st => { st with underrun := (st.underrun + gaps.length) % 2 ^ 32 }).underrun slot n g.2.toNat s.now

def imageLines (n : Nat) : List Nat → State → State
  | [], s => s
  | i :: is, s =>
    let s := if (s.plans n).copying.isNone then loseGone n i (s.goneLanes n) s else s
    imageLines n is (s.imageLine n i)

/-! Trim words (18 R383-R385). -/

/-- A word that fails its parity: used as 0 until it is reloaded, stuck when it fails within 1 s of a third reload. -/
def State.badTrim (s : State) (n w : Nat) : State :=
  let p := s.pipe n
  if 69632 ≤ w ∨ p.trimStuck.contains w = true then s
  else
    let old := p.reloads.filter fun r => r.1 = w
    let stuck := 3 ≤ old.length && old.any fun r => s.now ≤ r.2 + sec 1 && r = old.getLastD r
    s.setPipe n fun p => { p with
      parityErrs := satAdd 0xFFFF p.parityErrs 1,
      trimStuck := if stuck then p.trimStuck ++ [w] else p.trimStuck,
      trimBad := if stuck then p.trimBad.erase w else if p.trimBad.contains w then p.trimBad else p.trimBad ++ [w] }

def badTrims (n : Nat) : List Nat → State → State
  | [], s => s
  | w :: ws, s => badTrims n ws (s.badTrim n w)

/-! Captures begin (03 R80). -/

/-- A capture begins at the next sweep, or at its sheet's first sweep on the station. -/
def State.captureBegins (s : State) (n : Nat) (j : CaptureJob) : Bool :=
  j.station = n && (j.sheetId = 0 || match s.slotOf j.sheetId with
    | some i => (s.imagedOn n).contains i
    | none => false)

def State.startCaptures (s : State) (n : Nat) : State :=
  { s with captures := s.captures.map fun j => if s.captureBegins n j then { j with started := true } else j }

/-- The line of the frame in progress starts: a LINE frame's segment 0 and TIME leave, and segment 1 begins; a SYNC frame has TIME alone
(13 R267). -/
def State.lineFrame (s : State) (n : Nat) : State :=
  match (s.link n).frame with
  | none => s
  | some f =>
    let s := s.setLink n fun l => { l with frame := some { f with lined := true } }
    if f.sync then s.out (.beam n f.timeAt (s.timePart n f.r)) else s.sendNow n

/-- What a station writes from dot 0 on. -/
def State.writeLine (s : State) (n : Nat) (badWords : List Nat) : State :=
  let s := (badTrims n badWords s).sweepStamps n
  let s := s.setPipe n fun p => { p with sending := [], sentTo := 0, sent := [] }
  let s := imageLines n (s.imagedOn n) s
  (s.startCaptures n).lineFrame n

/-- Dot 0 of a sweep: the plan that has become active, then the images under it (11 R233, R234). A SHADOW's station counts and writes
nothing (20 R404). -/
def State.lineStart (s : State) (n : Nat) (badWords : List Nat) : State :=
  let s := (s.takeRate n).setScan n fun c => { c with lineTick := s.now }
  let s := if s.pair.role = .shadow then s else s.activate n
  let s := stepImages n false s.byOrder s
  if s.pair.role = .shadow then s else s.writeLine n badWords

/-- The line start of a sweep in any state but OFF, placed from the edge that the sweep uses (09 R186). `badWords` are the words of the
trim bank that fail their parity as the line reads them. -/
def execLineStart (station : Nat) (badWords : List Nat) (s : State) : Result :=
  whileUp s fun s =>
    if (s.scan station).state = .off then s else (s.at (s.lineDue station)).lineStart station badWords

end Sys2Proof.Machine
end

