-- ==== Sys2Proof/Machine/Retrace.lean ====
section
/-! DEFINITION. The end of active scan and the retrace (09 R186; 11 R230, R233-R237; 12 R244, R256-R261; 13 R273; 18 R383-R385;
03 R80), and the sweeps of a station that is OFF (10 R218, 13 R280). -/

namespace Sys2Proof.Machine

/-! What the sweep sent (13 R279). -/

/-- The segments in which one lane carried a code above 0. -/
def sentSegments (k : Nat) (cs : List Nat) : Nat :=
  (List.range k).foldl (fun m j => if ((cs.drop (1024 * j)).take 1024).any fun c => 0 < c then setBit m j else m) 0

/-- The lowest nominal line of a sweep of an image (13 R279). -/
def State.lowLine (s : State) (n : Nat) (sh : Sheet) (i : Imaging) : Int :=
  match s.laneReads n sh i with
  | [] => 0
  | r :: rs => rs.foldl (fun m x => min m x.line) r.line

/-- The record of the sweep, with those of the four before it. -/
def State.recordSent (s : State) (n : Nat) : State :=
  let segs := (s.pipe n).sent.foldl (fun m x => m ||| sentSegments (s.liv (Fld.STN_LINE_KDOTS n)) x.2) 0
  let (low, id) := match (s.imagedOn n).head? with
    | none => ((0 : Int), none)
    | some slot =>
      match s.sheet? slot with
      | none => (0, none)
      | some sh =>
        match sh.on n with
        | none => (0, none)
        | some i => (s.lowLine n sh i, some sh.id)
  let r : SentSweep := ⟨(s.scan n).sweeps, segs, low, id, (s.scan n).lineTick⟩
  s.setLink n fun l => { l with sent := (l.sent ++ [r]).drop (l.sent.length - 4) }

/-! Captures (03 R80, 07 R139, R158). -/

/-- Dots packed least significant bit first (07 R139). -/
def packDots (bpd : Nat) : List Nat → Nat
  | [] => 0
  | d :: ds => d % 2 ^ bpd + 2 ^ bpd * packDots bpd ds

def bpdOf (what : Nat) : Nat := if what = 0 then 4 else 6

/-- The values of one captured lane: levels of stage 1, or the codes sent. -/
def State.captured (s : State) (n what lane : Nat) (sh : Option (Sheet × Imaging)) : List Nat :=
  let e := ((s.active n).map fun p => p.lanes.getD lane 0).getD 0
  let dots := s.lineDots n
  if what = 0 then
    match sh with
    | none => List.replicate dots 0
    | some (sh, i) =>
      match (s.laneReads n sh i).find? fun r => r.emitter = e with
      | some r => if i.cut || sh.shed || !(s.scan n).state.writes then List.replicate dots 0
          else (List.range dots).map (s.levelAt n r)
      | none => List.replicate dots 0
  else
    let cs := (((s.pipe n).sent.find? fun x => x.1 = e).map Prod.snd).getD []
    cs ++ List.replicate (dots - cs.length) 0

/-- The nominal line of a lane, 0xFFFF outside a sheet. -/
def State.firstLine (s : State) (n lane : Nat) (sh : Option (Sheet × Imaging)) : Nat :=
  match s.active n, sh with
  | some p, some (sh, i) =>
    match p.lineOf (s.headOfs n) lane i.k with
    | some l => if 0 ≤ l && l < (sh.lines n : Int) then l.toNat else 0xFFFF
    | none => 0xFFFF
  | _, _ => 0xFFFF

/-- Whole lines that fit a block: 64 KiB, at most 32. -/
def blockLines (w : Nat) : Nat := min 32 ((divOpen 65536 w).toNat)

/-- A block of `count` held lines leaves, if the host's buffer still takes it. DESIGN CHOICE: the manual gives a block one SHEET_ID and one
FIRST_LINE; where it holds lines of sweeps of two sheets, the model gives those of its first line (log entry 28). -/
def State.writeBlock (s : State) (j : CaptureJob) (count : Nat) : State × CaptureJob :=
  let head := j.held.headD (0, 0xFFFF, [])
  let n := min count j.held.length
  let b : Encoded := ⟨3, bpdOf j.what, s.lineDots j.station, n, j.station, j.blocks, head.1, head.2.1,
    (j.held.take count).flatMap fun x => x.2.2⟩
  let (header, s) := s.encode b
  let padded := (fieldAt header 0x0C 4 + 63) / 64 * 64
  if j.length < j.written + padded then (s, { j with full := true })
  else
    (s.out (.hostBlock (j.addr + j.written) header b.original),
      { j with
        written := j.written + padded, lines := satAdd 0xFFFF j.lines n, blocks := j.blocks + 1, held := j.held.drop count })

/-- Full blocks leave; `all` sends what is left too. -/
def writeBlocks (all : Bool) : Nat → State → CaptureJob → State × CaptureJob
  | 0, s, j => (s, j)
  | fuel + 1, s, j =>
    let per := blockLines (s.lineDots j.station * bpdOf j.what / 8)
    if j.full || j.held = [] || (j.held.length < per && !all) then (s, j)
    else
      let r := s.writeBlock j per
      writeBlocks all fuel r.1 r.2

/-- One captured sweep. Whether the compressor keeps up is open; a sweep that it drops still counts, and the last one sends what is
held. -/
def State.captureSweep (s : State) (n : Nat) (j : CaptureJob) : State × CaptureJob :=
  if j.station ≠ n ∨ j.started = false ∨ j.full = true ∨ j.sweeps ≤ j.done then (s, j)
  else
    let sh := ((s.imagedOn n).head?.bind s.sheet?).bind fun sh => (sh.on n).map fun i => (sh, i)
    let lanes := (List.range 32).filter fun i => bit j.lanes i
    let (v, s) := s.drawNat
    let w := s.lineDots n * bpdOf j.what / 8
    let drops : Bool := v % 2 = 1
    let new := if drops then [] else lanes.map fun i =>
      ((sh.map fun x => x.1.id).getD 0, s.firstLine n i sh, leBytes w (packDots (bpdOf j.what) (s.captured n j.what i sh)))
    let j := { j with
      done := j.done + 1, held := j.held ++ new, dropped := if drops then satAdd 0xFFFF j.dropped lanes.length else j.dropped }
    writeBlocks (j.sweeps ≤ j.done) 4096 s j

def captureAll (n : Nat) : List CaptureJob → State → List CaptureJob × State
  | [], s => ([], s)
  | j :: js, s =>
    let r := s.captureSweep n j
    let rest := captureAll n js r.1
    (r.2 :: rest.1, rest.2)

def State.captureLines (s : State) (n : Nat) : State :=
  let r := captureAll n s.captures s
  { r.2 with captures := r.1 }

/-! Images end (02 R33, 09 R202). -/

/-- What the blanked emitters of an image that ends before the switch have lost: no later plan writes it (11 R234). -/
def loseAll (n slot : Nat) : List Nat → State → State
  | [], s => s
  | e :: es, s => loseAll n slot es (loseFrom n e (s.emitter n e).firstBad [slot] s)

/-- The last line of an image is written; with every station done the sheet is FINISHING, and it closes if its tray sensor has
been passed already. -/
def State.finishImage (s : State) (n slot : Nat) : State :=
  match s.sheet? slot with
  | none => s
  | some sh =>
    match sh.on n with
    | none => s
    | some i =>
      if i.k < (s.sweepRange n (sh.lines n)).2 then s
      else
        let s := s.setImaging slot n fun i =>
          { leavePlan (s.active n) (i.k + 1) i with finished := true }
        let s := if (s.plans n).copying.isSome then loseAll n slot (s.goneLanes n) s else s
        let s := s.dropLines (fun w => w.sheetId = sh.id) n
        if ((s.sheet? slot).map fun x => x.imaging.all fun j => j.finished).getD false then
          let s := s.moveSheet slot .finishing
          if sh.location = 0xFF ∧ s.modes.stopping ≠ .safe ∧ s.modes.stopping ≠ .bridgesOff then s.close slot else s
        else s

def finishImages (n : Nat) : List Nat → State → State
  | [], s => s
  | i :: is, s => finishImages n is (s.finishImage n i)

/-! Rolling APC (12 R257, R258). -/

/-- The step of a DAC: err × gain / 256 rounded toward zero, within the largest change. -/
def apcStep (err : Int) (gain limit : Nat) : Int := max (-(limit : Int)) (min limit ((err * gain).tdiv 256))

/-- The kind of failure a sample shows, with the DAC after its update (12 R258). -/
def apcKind (target sample fail dac : Nat) : Nat :=
  if 256 * sample < target * (256 - fail) ∨ (dac = 4095 ∧ sample < target) then 3
  else if target * (256 + fail) < 256 * sample then 4 else 0

/-- One emitter's update at an end of active scan. Emitters marked failed, without a target, or under HEAD_CAL keep their
DAC (12 R257, R259). `lastPass` is one more than the last sweep whose sample passed. -/
def State.apcUpdate (s : State) (n e : Nat) : State :=
  let x := s.emitter n e
  if !x.fresh then s
  else
    let s := s.setEmitter n e fun x => { x with fresh := false }
    let t := s.imm (Fld.STN_TARGET n e)
    if x.failed || t = 0 || bit (s.pipe n).calMask e then s
    else
      let d := apcStep ((t : Int) - x.sample) (s.imm (Fld.STN_APC_GAIN n)) (s.imm (Fld.STN_APC_STEP n))
      let dac := (max 0 (min 4095 ((s.imm (Fld.STN_DAC n e) : Int) + d))).toNat
      let s := s.setImm (Fld.STN_DAC n e) dac
      match apcKind t x.sample (s.imm (Fld.STN_APC_FAIL n)) dac with
      | 0 => s.setEmitter n e fun x => { x with lastPass := x.smpSweep + 1 }
      | k => s.mark n e k (if x.lastPass = 0 then x.smpSweep else x.lastPass)

def apcUpdates (n : Nat) : List Nat → State → State
  | [], s => s
  | e :: es, s => apcUpdates n es (s.apcUpdate n e)

/-! Marks and failover (11 R232-R237, 12 R260). -/

/-- HOST marks that wait (kind 0 in the list) are made, their first lost sweep the next one. -/
def hostMarks (n : Nat) : List Mark → State → State
  | [], s => s
  | m :: ms, s => hostMarks n ms (if m.kind = 0 then s.mark n m.emitter 5 ((s.scan n).sweeps + 1) else s)

def State.landHostMarks (s : State) (n : Nat) : State :=
  let ms := (s.pipe n).marks
  hostMarks n ms (s.setPipe n fun p => { p with marks := p.marks.filter fun m => m.kind ≠ 0 })

/-- Marks take effect: the lanes are blanked. -/
def State.blankMarks (s : State) (n : Nat) : State :=
  (s.pipe n).marks.foldl (fun s m => s.setEmitter n m.emitter fun x => { x with gone := true }) s

/-- The lines lost up to the end of active scan, but for those that a switch makes good (11 R234, 12 R261). -/
def markLosses (n : Nat) : List Mark → State → State
  | [], s => s
  | m :: ms, s => markLosses n ms (loseFrom n m.emitter m.first s.byOrder s)

/-- A speed-changing failover begins: its station, emitter and new N. -/
def State.beginSlow (s : State) (n e newN : Nat) : State :=
  { s with run := { s.run with slowStep := 1, slowStation := n, slowEmitter := e, slowN := newN } }

/-- The search for an alternate at an end of active scan: a same-speed one is copied, or a speed-changing failover begins
(11 R233, R236 step 1). -/
def State.failover (s : State) (n : Nat) : State :=
  if (s.plans n).copying.isSome then s
  else
    let failed := (List.range 34).filter fun e => (s.goneLanes n).contains e
    match failed.find? fun e => (s.sameSpeed n e).isSome with
    | some e => s.setPlans n fun P => { P with copying := some ⟨e, s.shortRetrace n, P.slots.getD (2 + e) .reset⟩ }
    | none =>
      match failed.head? with
      | none => s
      | some e =>
        match s.slowAlt n e with
        | some p => (s.mirrorOn (.journal (.slow n e p.n))).beginSlow n e p.n
        | none => s

/-- Marks at an end of active scan. -/
def State.takeMarks (s : State) (n : Nat) : State :=
  let s := (s.landHostMarks n).blankMarks n
  let ms := (s.pipe n).marks
  markLosses n ms ((s.setPipe n fun p => { p with marks := [] }).failover n)

/-! PLAN_SWITCH (11 R230). -/

/-- Why slots 0 and 1 cannot be exchanged: the status, with REASON for a plan that is refused. -/
def State.switchBad (s : State) (n : Nat) : Option (Nat × Nat × Nat) :=
  match (s.planSlot n 1).usable with
  | none => some (St.PLAN_INVALID, 0x0C, 0)
  | some p =>
    match s.failedLane n p with
    | some e => some (St.PLAN_INVALID, 0x0B, e)
    | none =>
      if !s.fits n p then some (St.NO_SPACE, 0, 0)
      else if (s.mode = .ready ∨ s.mode = .printing) ∧ p.n ≠ s.run.runN then some (St.WRONG_MODE, 0, 0)
      else none

/-- The first failed check of the last rejected load or switch (11 R238). -/
def State.planDiag (s : State) (n reason slot detail : Nat) : State :=
  s.setPlans n fun P => { P with diagReason := reason, diagSlot := slot, diagDetail := detail }

def switchOf (n : Nat) (c : Cmd) : Bool := c.op = Op.PLAN_SWITCH && c.p.target = n

/-- Ends a PLAN_SWITCH of a station. -/
def State.endSwitch (s : State) (n st : Nat) : State :=
  finishWhere (switchOf n) (fun _ => st) (fun _ => 0) (s.setPlans n fun P => { P with switchWait := false })

/-- The exchange. -/
def State.exchange (s : State) (n : Nat) : State := (s.setPlans n Plans.swap).planSwitched n 1

/-- A waiting switch lands at an end of active scan with no sheet imaging; its refusals are judged again there. -/
def State.landSwitch (s : State) (n : Nat) : State :=
  if !(s.plans n).switchWait || s.imagedOn n ≠ [] then s
  else
    match s.switchBad n with
    | some (st, r, d) => (if r = 0 then s else s.planDiag n r 1 d).endSwitch n st
    | none => (s.exchange n).endSwitch n St.OK

/-! Segment banks, windows, trim words. -/

/-- The exchange of the segment banks, and the copy of the new live bank into the shadow (12 R244). -/
def State.swapBanks (s : State) (n : Nat) : State :=
  if (s.pipe n).swapWait then
    s.setPipe n fun p => { p with segLive := p.segShadow, bank := 1 - p.bank, swapWait := false }
  else s

/-- The lowest line that the station reads in the sweep after `k` (11 R223). -/
def State.nextLow (s : State) (n : Nat) (k : Int) : Int :=
  match s.active n with
  | some p => p.n * (k + 1) + p.oLo (s.headOfs n) - 8
  | none => 0

/-- Ring positions become free behind the station's last read (08 R165). -/
def freeLines (n : Nat) : List Nat → State → State
  | [], s => s
  | slot :: l, s =>
    freeLines n l
      (match s.sheet? slot with
      | none => s
      | some sh =>
        match sh.on n with
        | none => s
        | some i =>
          let low := s.nextLow n i.k
          (s.dropLines (fun w => w.sheetId = sh.id && (w.line : Int) < low) n).setStation n fun st => { st with nextRead := low })

/-- A retrace begins: the lines decoded by now are present from the next sweep on (08 R165). -/
def State.readyLines (s : State) (n : Nat) : State :=
  let s := s.setStation n fun st => { st with
    window := st.window.map fun w => { w with ready := true }, nextRead := 0 }
  freeLines n (s.imagedOn n) s

/-- The buffer line that holds cell `a` of the trim master (08 R162, 12 R247). -/
def trimLine (n a : Nat) : Nat := (0x800000 + 34 * 32768 * n + a) / 64

/-- One word is loaded again from the trim master, once the master line is good (18 R383). -/
def State.reloadTrim (s : State) (n w : Nat) : State :=
  if s.mem.failing.any fun f => f.1 = trimLine n (16 * w) then s
  else
    let cells := (List.range 16).map fun i => (16 * w + i, Store.get zeroByte s.mem.master (34 * 32768 * n + 16 * w + i))
    let s := s.setPipe n fun p => { p with
      trim := Store.putAll zeroByte p.trim cells, trimBad := p.trimBad.erase w, reloads := p.reloads ++ [(w, s.now)],
      reloadCnt := satAdd 0xFF p.reloadCnt 1 }
    s.raise Ev.TRIM_RELOADED n 0xFF [BitVec.ofNat 8 n, BitVec.ofNat 8 (w / 2048)]

def reloadTrims (n : Nat) : List Nat → State → State
  | [], s => s
  | w :: ws, s => reloadTrims n ws (s.reloadTrim n w)

/-! The retrace program (12 R257, 13 R273). -/

/-- The emitter of an APC pulse, 0x3F when it is skipped; one under HEAD_CAL needs no target yet (12 R257, R259). -/
def State.apcEmitter (s : State) (n e : Nat) : Nat :=
  if s.on (Fld.STN_APC_EN n) && !(s.emitter n e).failed &&
    (s.imm (Fld.STN_TARGET n e) ≠ 0 || bit (s.pipe n).calMask e) then e else 0x3F

/-- The pulses weigh in the duty guard while the laser is enabled (12 R254). -/
def State.weighApc (s : State) (n e : Nat) : State :=
  if e < 34 ∧ (s.link n).laserEn = true then
    s.weigh n e (s.codeWeight n (s.imm (Fld.STN_APC_CODE n)) * s.imm (Fld.STN_APC_DOTS n))
  else s

/-- A point of the station's count, in fine steps after the edge of the sweep in progress, as whole UI after R (13 R270, R273). -/
def State.uiAfterR (s : State) (n : Nat) (fine : Int) : Nat :=
  let r : Int := match (s.link n).frame with | some f => f.r | none => 0
  (125 * ((s.scan n).edgeTick : Int) - r + nearest (125 * fine * (s.pixRate n).2) (64 * (s.pixRate n).1)).toNat

/-- The program of the retrace after the present sweep (12 R257, 13 R273): the first APC pulse APC_DELAY after the end of active scan, the
second 64 dots after the first, and the next sync window as it is predicted (09 R183). -/
def State.programBytes (s : State) (n a b : Nat) : List Byte :=
  let c := s.scan n
  let eos := s.startFine n c.facet c.slew + 64 * s.lineDots n
  let first := eos + 64 * s.imm (Fld.STN_APC_DELAY n)
  let dots := s.imm (Fld.STN_APC_DOTS n)
  let len := (nearest (125 * dots * (s.pixRate n).2) (s.pixRate n).1).toNat
  leBytes 1 a ++ leBytes 1 b ++ leBytes 1 (s.imm (Fld.STN_APC_CODE n)) ++ leBytes 1 (s.syncEmitter n) ++
    leBytes 4 (s.uiAfterR n first) ++ leBytes 4 (s.uiAfterR n (first + 64 * (dots + 64))) ++ leBytes 4 len ++
    leBytes 4 (s.uiAfterR n (s.openFine n)) ++ leBytes 4 (s.uiAfterR n (s.closeFine n))

/-- The frame in progress ends with the program of its retrace and EOF, behind its last segment or a SYNC frame's TIME; the pulses of the
retrace are weighed. -/
def State.retraceProgram (s : State) (n : Nat) : State :=
  let m := (s.scan n).sweeps % 17
  let a := s.apcEmitter n (2 * m)
  let b := s.apcEmitter n (2 * m + 1)
  let bytes := s.programBytes n a b
  let s := ((s.weighApc n a).weighApc n b).setPipe n fun p => { p with apcPair := m }
  match (s.link n).frame with
  | none => s
  | some f =>
    let t := if f.sync then f.timeAt + 1 else max (f.timeAt + 1) (s.slotTick n (s.lineDots n - 1) + 2)
    (s.out (.beam n t (.program (s.scan n).sweeps bytes))).setLink n fun l => { l with frame := none }

/-! The two commands. -/

/-- The end of active scan, and the boundary of the station's tumbler groups (01 R20). The next sweep's frame begins. -/
def State.endLine (s : State) (n : Nat) (badWords : List Nat) : State :=
  let s := (((s.sendRest n).retraceProgram n).recordSent n).captureLines n
  let s := finishImages n (s.imagedOn n) s
  let s := (apcUpdates n (List.range 34) s).takeMarks n
  let s := ((s.landSwitch n).landStation n).swapBanks n
  let s := (badTrims n badWords (s.readyLines n))
  let s := reloadTrims n (s.pipe n).trimBad s
  if s.modes.stopping = .orderly then s.trackOff n else s.sendHead n ((s.scan n).sweeps + 1)

/-- On a SHADOW images go on in step with the LEAD's, and nothing is written (20 R404). -/
def State.endScan (s : State) (n : Nat) (badWords : List Nat) : State :=
  if s.pair.role = .shadow then ((finishImages n (s.imagedOn n) s).landSwitch n).swapBanks n else s.endLine n badWords

/-- The last dot of a sweep in any state but OFF. `badWords` are the words that fail their parity in the retrace's check of the
bank (18 R384). -/
def execEndOfActiveScan (station : Nat) (badWords : List Nat) (s : State) : Result :=
  whileUp s fun s =>
    if (s.scan station).state = .off then s
    else (s.at (s.scanEnd station (s.scan station).lineTick)).endScan station badWords

/-- The device is in one of the modes in which stations sweep. -/
def State.sweepMode (s : State) : Bool := s.mode = .warming || s.mode = .ready || s.mode = .printing || s.mode = .service

/-- The count of an OFF station on bypass or with its link down goes on by prediction, and every sweep in which it would image a
sheet stamps STATION_RESET (10 R218, 13 R280). -/
def State.predictedSweep (s : State) (n : Nat) : State :=
  let s := s.sweep n s.now
  let s := s.setScan n fun c => { c with lineTick := s.now }
  let s := stepImages n true s.byOrder s
  let s := if s.pair.role = .shadow then s else stampAll Cause.STATION_RESET s.now (s.imagedOn n) s
  freeLines n (s.imagedOn n) (finishImages n (s.imagedOn n) s)

def execPredictedSweep (station tick : Nat) (s : State) : Result :=
  whileUp s fun s =>
    if (s.station station).powered = true ∧ (s.scan station).state = .off ∧ s.sweepMode = true ∧
      ((s.link station).state ≠ .up ∨ (s.pll station).locked = false ∨ bit s.resets.busy (Fn.STATION + station) = true) then
      (s.at tick).predictedSweep station
    else s

end Sys2Proof.Machine
end

