-- ==== Sys2Proof/Machine/NvOps.lean ====
section
/-! DEFINITION. The stored copies and fused settings as other chapters use them (22 R443-R450), residency (18 R377) and the
trim bank's loads (12 R247-R249). -/

namespace Sys2Proof.Machine

/-! Regions of the flash, in the order of SYS_NV_STAT.VALID (22 R442, R456). -/

def Rgn.PATCH0 : Nat := 0
def Rgn.PATCH1 : Nat := 1
def Rgn.PROFILE0 : Nat := 2
def Rgn.PROFILE1 : Nat := 3
def Rgn.PLAN_A : Nat := 4
def Rgn.PLAN_B : Nat := 5
def Rgn.TRIM_A : Nat := 6
def Rgn.TRIM_B : Nat := 7

/-- The settings that act from RESETn, as shadowed at boot; the others as they are fused now (22 R450). -/
def State.acting (s : State) (code : Nat) : Nat := s.nv.acting.getD (code - 1) 0

/-- A region can be read: it is valid, and its ENGINE_ID is the fused one but for a patch (22 R444). -/
def State.regionGood (s : State) (r : Nat) : Bool :=
  s.nv.readable && (s.region r).valid && (r < 2 || (s.region r).engineId = s.acting 7)

/-- The copy in force of two: the valid one of the higher GENERATION, the first on a tie (22 R445). -/
def State.inForce (s : State) (a b : Nat) : Option Nat :=
  if s.regionGood a && (!s.regionGood b || (s.region b).generation ≤ (s.region a).generation) then some 0
  else if s.regionGood b then some 1 else none

def State.planCopy (s : State) : Option (List (Nat × List Byte)) :=
  (s.inForce Rgn.PLAN_A Rgn.PLAN_B).map fun i => s.nv.plans.getD i []
def State.trimCopy (s : State) : Option (List Host.Cell) :=
  (s.inForce Rgn.TRIM_A Rgn.TRIM_B).map fun i => s.nv.trims.getD i []
def State.bandCopy (s : State) : Option (List (Nat × Word)) :=
  (s.inForce Rgn.PLAN_A Rgn.PLAN_B).map fun i => s.nv.bands.getD i []

/-- An entry of the plan store; an empty one is stored as no bytes (22 R446). -/
def State.storedPlan (s : State) (e : Nat) : List Byte :=
  match s.planCopy with
  | some l => ((l.find? fun x => x.1 = e).map Prod.snd).getD []
  | none => []

/-! The trim master and the trim banks. -/

/-- The first cell of an emitter in the trim master (12 R247). -/
def masterBase (n e : Nat) : Nat := (34 * n + e) * 32768

/-- The cells of an address range, moved to a new base. -/
def moveCells (lo len base : Nat) (l : List Host.Cell) : List Host.Cell :=
  (l.filter fun c => lo ≤ c.1 && c.1 < lo + len).map fun c => (base + (c.1 - lo), c.2)

/-- A range of cells replaced by others; cells not given are 0. -/
def replaceCells (lo len : Nat) (new l : List Host.Cell) : List Host.Cell :=
  Store.putAll zeroByte (Store.drop (fun a => lo ≤ a && a < lo + len) l) new

/-- An emitter's cells copied from the trim master into its station's bank; words that were bad or stuck are new ones but for
the stuck (18 R383, R385). -/
def State.loadTrim (s : State) (n e : Nat) : State :=
  s.setPipe n fun p => { p with
    trim := replaceCells (32768 * e) 32768 (moveCells (masterBase n e) 32768 (32768 * e) s.mem.master) p.trim,
    trimBad := p.trimBad.filter fun w => w / 2048 ≠ e,
    trimLoaded := p.trimLoaded.set e true }

def loadTrims (n : Nat) : List Nat → State → State
  | [], s => s
  | e :: es, s => loadTrims n es (s.loadTrim n e)

/-- An emitter of the trim master that is not resident is read from the copy in force, or set to 0 (18 R377). -/
def State.residentTrim (s : State) (n e : Nat) : State :=
  if s.mem.resident.getD (34 * n + e) false then s
  else
    let lo := masterBase n e
    let src := moveCells lo 32768 lo ((s.trimCopy).getD [])
    { s with mem := { s.mem with
      master := replaceCells lo 32768 src s.mem.master, resident := s.mem.resident.set (34 * n + e) true,
      changed := s.mem.changed.set (34 * n + e) false } }

/-- A line of an emitter's cells in the trim master fails its check (18 R378). -/
def State.trimLineBad (s : State) (n e : Nat) : Bool :=
  s.mem.failing.any fun f => masterBase n e ≤ 64 * f.1 - 0x800000 && 0x800000 ≤ 64 * f.1 &&
    64 * f.1 - 0x800000 < masterBase n e + 32768

/-! The Sahhex blocks of the TRIM and PLAN regions (07 R158, R159). -/

/-- One emitter's 32,768 cells as a line of BPD 6. -/
def trimLineOf (cells : List Host.Cell) (n e : Nat) : List Byte :=
  leBytes 24576 (packDots 6 ((List.range 32768).map fun i => (Store.get zeroByte cells (masterBase n e + i)).toNat))

/-- 17 blocks of two lines for each station. -/
def trimBlocks (cells : List Host.Cell) : List Encoded :=
  (List.range 85).map fun i =>
    ⟨1, 6, 32768, 2, i / 17, i % 17, 0, 0, trimLineOf cells (i / 17) (2 * (i % 17)) ++ trimLineOf cells (i / 17) (2 * (i % 17) + 1)⟩

/-- Bytes cut into lines of at most 65,535. -/
def cutLines : Nat → List Byte → List (List Byte)
  | 0, _ => []
  | fuel + 1, b => if b = [] then [] else b.take 65535 :: cutLines fuel (b.drop 65535)

/-- The bytes of a station's plans, masks and band table. DESIGN CHOICE: each entry behind its length, an empty one of length 0, then the
words of the band table (log entry 7). -/
def planStoreBytes (plans : List (Nat × List Byte)) (bands : List (Nat × Word)) (n : Nat) : List Byte :=
  ((plans.filter fun x => x.1 / 36 = n).flatMap fun x => leBytes 2 x.2.length ++ x.2) ++
    (bands.filter fun w => (List.range 32).any fun i => w.1 = Reg.STN_BAND n i).flatMap fun w => leBytes 4 w.2.toNat

/-- The PLAN blocks of every station, numbered within it. -/
def planBlocks (plans : List (Nat × List Byte)) (bands : List (Nat × Word)) : List Encoded :=
  allStations.flatMap fun n =>
    (cutLines 64 (planStoreBytes plans bands n)).mapIdx fun i l => ⟨2, 8, l.length, 1, n, i, 0, 0, l⟩

/-- The blocks of a region, none of a PATCH or PROFILE region. -/
def Nv.blocks (v : Nv) (r : Nat) : List Encoded :=
  if Rgn.TRIM_A ≤ r then trimBlocks (v.trims.getD (r - Rgn.TRIM_A) [])
  else if Rgn.PLAN_A ≤ r then planBlocks (v.plans.getD (r - Rgn.PLAN_A) []) (v.bands.getD (r - Rgn.PLAN_A) [])
  else []

/-- The headers of a region's blocks as they stand in flash: RAW where the block's first copy did not compare, else with tokens of a free
length. -/
def State.storedHeaders (s : State) (r : Nat) : List (List Byte) :=
  (s.nv.blocks r).mapIdx fun i b => (b.header ((s.region r).raws.contains i) (Config.freeNat ((s.region r).seed + i))).bytes

end Sys2Proof.Machine
end

