-- ==== Sys2Proof/Machine/Clock.lean ====
section
/-! DEFINITION. Station resets as a link or clock loss starts them (05 R117), the return to tracking, the station PLL (10
R208-R219) and the band survey (10 R211). -/

namespace Sys2Proof.Machine

/-! The STATIONn reset (05 R117). -/

/-- A function enters reset. -/
def State.enterReset (s : State) (f : Nat) : State :=
  { s with resets := { s.resets with busy := setBit s.resets.busy f, started := s.resets.started.set f s.now } }

def State.inReset (s : State) (f : Nat) : Bool := bit s.resets.busy f

/-- Commands on a station's pipeline and link that its reset stops. -/
def stationCmd (n : Nat) (c : Cmd) : Bool :=
  [Op.HEAD_CAL, Op.CAPTURE, Op.LINK_LOOPBACK].contains c.op && c.p.target = n

/-- What a pipeline loses (05 R117): the line in progress, the duty windows and the samples; failure marks, banks and
statistics stay. -/
def Pipe.cleared (p : Pipe) : Pipe :=
  { p with
    sending := [], sentTo := 0, sent := [], headWins := [], headWeight := 0, headClamp := false, headDuty := 0, calMask := 0,
    calSamples := [],
    emitters := p.emitters.map fun x => { x with fresh := false, windows := [], weight := 0, dutySum := 0, clamp := false } }

/-- The writing of the images on a station ends until the next sheet. -/
def cutImages (n : Nat) : List Nat → State → State
  | [], s => s
  | i :: is, s => cutImages n is (s.setImaging i n fun x => { x with cut := true })

/-- The STATIONn reset begins; one that runs is not disturbed, but tracking and the link fall all the same (05 R117, R118). -/
def State.beginStationReset (s : State) (n : Nat) : State :=
  let l := s.imagedOn n
  let s := cutImages n l (stampAll Cause.STATION_RESET s.now l s)
  let s := ((s.trackOff n).setPipe n Pipe.cleared).train n
  let s := finishWhere (stationCmd n) (fun _ => St.ABORTED_RESET) (fun _ => 0)
    { s with captures := s.captures.filter fun j => j.station ≠ n }
  let s := s.abortApplies fun a => isStationGroup a.group && a.inst = n
  if s.inReset (Fn.STATION + n) then s else s.enterReset (Fn.STATION + n)

/-- A station that is OFF returns to tracking when nothing keeps it off (05 R117; 09 R193; 10 R218). In WARMING the
beam-detect step starts it, once its polygon is at speed and the load is done (05 R116). -/
def State.resume (s : State) (n : Nat) : State :=
  let c := s.scan n
  if (s.station n).powered && (s.station n).pending.isNone && c.state = .off && ((s.link n).state = .up || s.pair.role = .shadow) && (s.pll n).locked &&
      !s.inReset (Fn.STATION + n) && s.modes.stopping = .none && !s.safety.interlock && !s.pair.dboltIn &&
      (s.active n).isSome && (s.mode = .ready || s.mode = .printing ||
        (s.mode = .warming && s.modes.warmDone.contains .load && s.modes.warmDone.contains .polygons)) then s.acquire n
  else s

/-! The PLL. -/

/-- A lock sequence is under way. -/
def State.locking (s : State) (n : Nat) : Bool :=
  (s.station n).powered && (s.pll n).enabled && !(s.pll n).locked && !(s.pll n).survey

/-- The PLL is enabled, and locks from now on unless it is locked or retries already (10 R208, R209). -/
def State.pllOn (s : State) (n : Nat) : State :=
  if !(s.station n).powered || (s.pll n).enabled then s
  else (s.setPll n fun p => { p with enabled := true }).startLock n

def pllsOn : List Nat → State → State
  | [], s => s
  | n :: ns, s => pllsOn ns (s.pllOn n)

/-- Landed applies of STNn_LINE that wait for the lock (10 R207). -/
def State.waitsLock (n : Nat) (a : Apply) : Bool := a.is Grp.STN_LINE n && a.landed

/-- When the present lock sequence fails. -/
def State.lockDue (s : State) (n : Nat) : Nat := (s.pll n).started + us (100 * s.imm (Fld.STN_RELOCK_MAX n))

/-- The applies of a station that wait for its lock end: LOCK_FAILED where RELOCK_MAX has passed since they landed, else as given (10
R207). -/
def State.endLocks (s : State) (n st : Nat) : State :=
  let late := s.tumbler.waiting.filter fun a => State.waitsLock n a && a.deadline < s.now
  let s := endApplies St.LOCK_FAILED late s
  endApplies st (s.tumbler.waiting.filter (State.waitsLock n)) s

/-- The PLL locks within RELOCK_MAX, and the island switches to OUT0 (10 R209). `vctl` is the control voltage it settles at. -/
def execPllLock (station vctl tick : Nat) (s : State) : Result :=
  whileUp s fun s =>
    if s.locking station && (s.pll station).trying && s.bandHolds station && tick ≤ s.lockDue station then
      let s := (s.at tick).setPll station fun p => { p with
        locked := true, relocking := false, halted := false, vctl := vctl % 1024 }
      ((s.countDots station).endLocks station St.OK).resume station
    else s

/-- 16 comparisons in a row, the last of `n` so far, whose PFD phase error is above 5.0 ns; errors in ps (10 R217). -/
def badPhases : Nat → List Nat → Bool
  | _, [] => false
  | n, e :: es => if 5000 < e then n = 15 || badPhases (n + 1) es else badPhases 0 es

/-- An OUT3 count over 40.96 µs that is off by more than 0.5 %: 1,024 · N_FB / (REF_DIV · DIV3) is expected (10 R205, R217). -/
def State.badCount (s : State) (n count : Nat) : Bool :=
  let got : Int := count * (s.liv (Fld.STN_REF_DIV n) * s.liv (Fld.STN_DIV3 n))
  let want := 1024 * s.liv (Fld.STN_N_FB n)
  want < 200 * (got - want).natAbs

/-- The lock monitor's tests, masked during a lock and a survey. -/
def State.findsUnlock (s : State) (n : Nat) (phases : List Nat) (count : Option Nat) : Bool :=
  (s.pll n).locked && !(s.pll n).survey && (badPhases 0 phases || match count with | some c => s.badCount n c | none => false)

/-- The PLL is found unlocked from the phase errors of comparisons in a row or an OUT3 count (10 R217, R218). -/
def execPllUnlock (station : Nat) (phases : List Nat) (count : Option Nat) (tick : Nat) (s : State) : Result :=
  whileUp s fun s =>
    if s.findsUnlock station phases count then
      let s := ((s.at tick).turnPll station).laserOff station
      let s := (s.setPll station fun p => { p with relocking := true, unlocks := satAdd 0xFFFF p.unlocks 1 }).startLock station
      (s.raise Ev.PLL_UNLOCK station 0xFF []).beginStationReset station
    else s

/-- A lock is not achieved within RELOCK_MAX: the applies that waited for it fail, the halt latches once, and the PLL retries on
the live set (10 R207, R219). Applies that wait for a PLL disabled meanwhile fail as late. -/
def execRelockMaxExpiry (station : Nat) (s : State) : Result :=
  whileUp s fun s =>
    if s.locking station then
      let s := s.at (s.lockDue station)
      let late := s.tumbler.waiting.filter fun a => State.waitsLock station a && a.deadline ≤ s.now
      let s := endApplies St.LOCK_FAILED late s
      let first := !(s.pll station).halted
      let s := (s.setPll station fun p => { p with relocking := true, halted := true }).startLock station
      if first then s.halt Halt.PLL_UNLOCK else s
    else
      match s.tumbler.waiting.find? (State.waitsLock station) with
      | some a => (s.at a.deadline).endLocks station St.LOCK_FAILED
      | none => s

/-! BAND_SURVEY (10 R211). -/

def execBandSurvey (p : Packet) (s : State) : Result :=
  command Op.BAND_SURVEY .service p (fun s =>
    [inModes s fun m => m = .service, stationOn s p,
      (p.target < 5 && ((s.scan p.target).state ≠ .off || (s.pll p.target).survey), St.TARGET_BUSY), targetBelow p 5,
      params p []])
    (fun c s => (s.start c).setPll p.target fun q => { q with survey := true, locked := false }) s

/-- A band's entry: LO rounded up and HI rounded down to MHz, VALID by its width and place. Ends are given in kHz. -/
def bandEntry (b : Nat × Nat) : Nat × Nat × Bool :=
  let lo := (b.1 + 999) / 1000
  let hi := b.2 / 1000
  (lo, hi, lo + 100 ≤ hi && 2300 ≤ lo && hi ≤ 3700)

def State.writeBand (s : State) (n b : Nat) (m : Nat × Nat) : State :=
  let (lo, hi, ok) := bandEntry m
  ((s.setImm (Fld.STN_BAND_LO n b) lo).setImm (Fld.STN_BAND_HI n b) hi).setImm (Fld.STN_BAND_VALID n b) (if ok then 1 else 0)

def writeBands (n : Nat) (ms : List (Nat × Nat)) : List Nat → State → State
  | [], s => s
  | b :: bs, s => writeBands n ms bs (s.writeBand n b (ms.getD b (0, 0)))

/-- CAL_DONE: what was calibrated, and its instance (19 R399). -/
def State.calDone (s : State) (what inst : Nat) : State :=
  s.raise Ev.CAL_DONE inst 0xFF [BitVec.ofNat 8 what, BitVec.ofNat 8 inst]

/-- The survey is done: the table is written, the PLL relocks on the live set. `bands` are the measured ends, in kHz. -/
def execBandSurveyDone (station : Nat) (bands : List (Nat × Nat)) (tick : Nat) (s : State) : Result :=
  whileUp s fun s =>
    if (s.pll station).survey then
      let s := writeBands station bands (List.range 32) (s.at tick)
      let s := ((s.setPll station fun p => { p with survey := false, enabled := true }).startLock station).setStation station
        fun st => { st with surveyTj := s.afe.tj }
      let mask := (List.range 32).foldl (fun m b => if s.on (Fld.STN_BAND_VALID station b) then setBit m b else m) 0
      (finishWhere (fun c => c.op = Op.BAND_SURVEY && c.p.target = station) (fun _ => St.OK) (fun _ => mask) s).calDone 0x10
        station
    else s

end Sys2Proof.Machine
end

