-- ==== Sys2Proof/Machine/Links.lean ====
section
/-! DEFINITION. The beam link (13 R275-R284), the duty guard (12 R254, R255), and what the head reports (12 R258-R260). -/

namespace Sys2Proof.Machine

/-! Messages of the return lane (13 R276). -/

/-- TYPE, LEN and payload of a message, over which its CRC-16 runs. -/
def headMessage (type : Nat) (payload : List Byte) : List Byte := leBytes 1 type ++ leBytes 1 payload.length ++ payload

/-- A message from the head of a powered station. One whose CRC is wrong is discarded and counted in RET_ERRORS. -/
def receive (station type : Nat) (payload : List Byte) (crc tick : Nat) (f : State → State) (s : State) : Result :=
  whileUp s fun s =>
    if (s.station station).powered = false ∨ (s.link station).state = .down then s
    else
      let s := s.at tick
      if (crc16 (headMessage type payload)).toNat = crc then f (s.setLink station fun l => { l with lastMsg := s.now })
      else s.setLink station fun l => { l with retErrors := satAdd 0xFFFF l.retErrors 1 }

/-! Training (13 R275). -/

/-- T0 ends: blocks leave from now on, IDLE with alignment markers at first. -/

def execTrainingT0End (station : Nat) (s : State) : Result :=
  whileLeads s fun s =>
    if (s.link station).state = .t0 then
      let s := s.at ((s.link station).since + us 10)
      (s.setLink station fun l => { l with state := .t1, since := s.now, blocksAt := s.now }).out (.beam station s.now .training)
    else s

/-- The limit of a training step. -/
def stepLimit : LinkState → Option Nat
  | .t1 => some (us 400)
  | .t2 => some (us 50)
  | _ => none

def execTrainingStepTimeout (station : Nat) (s : State) : Result :=
  whileUp s fun s =>
    match stepLimit (s.link station).state with
    | none => s
    | some d =>
      let s := s.at ((s.link station).since + d)
      s.setLink station fun l => { l with state := .wait, since := s.now }

def execTrainingRetry (station : Nat) (s : State) : Result :=
  whileUp s fun s =>
    if (s.link station).state = .wait then (s.at ((s.link station).since + ms 1)).train station else s

/-- HELLO: what the head is, and the end of T1 with the 16 TRAIN_DONE blocks (13 R276, R284). DESIGN CHOICE: no command brings the comma
alignment of RXn by itself; the model takes it as held from the first good HELLO on, until RET_ALIGN_LOST (log entry 43). -/
def execHello (station vendor model fw emitters caps crc tick : Nat) (s : State) : Result :=
  receive station 0x01
    (leBytes 2 vendor ++ leBytes 2 model ++ leBytes 2 fw ++ leBytes 1 emitters ++ leBytes 1 caps) crc tick
    (fun s =>
      let trains : Bool := (s.link station).state = .t1
      let s := s.setLink station fun l => { l with
        retLocked := true, helloSeen := true, vendor := vendor % 65536, model := model % 65536, fw := fw % 65536,
        emitters := emitters % 64, caps := caps % 8, state := if trains then .t2 else l.state,
        since := if trains then s.now else l.since }
      if trains then s.out (.beam station s.now .trainDone) else s) s

/-- READY: the link is UP. -/
def execReadyMsg (station crc tick : Nat) (s : State) : Result :=
  receive station 0x02 [] crc tick
    (fun s =>
      if (s.link station).state = .t2 then
        (s.setLink station fun l => { l with
          state := .up, trainings := satAdd 0xFFFF l.trainings 1, since := s.now, upAt := s.now }).resume station
      else s) s

/-! Loss (13 R280). -/

/-- A loss while UP: LASER_EN falls, BEAM_LINK_DOWN, and the STATIONn reset, which retrains the link. -/
def State.linkLost (s : State) (n ret cause reason : Nat) : State :=
  if (s.link n).state = .up then
    ((s.laserOff n).raise Ev.BEAM_LINK_DOWN n 0xFF
      [BitVec.ofNat 8 ret, BitVec.ofNat 8 cause, BitVec.ofNat 8 reason]).beginStationReset n
  else s

def execRetrain (station reason crc tick : Nat) (s : State) : Result :=
  receive station 0x03 (leBytes 1 reason) crc tick (fun s => s.linkLost station 0 2 (reason % 256)) s

/-- HEAD_FAULT is counted in any state of the link; while UP it is a loss. -/
def execHeadFault (station cause crc tick : Nat) (s : State) : Result :=
  receive station 0x21 (leBytes 1 cause) crc tick
    (fun s => (s.setLink station fun l => { l with headFaults := satAdd 0xFFFF l.headFaults 1 }).linkLost station 0 3
      (cause % 256)) s

/-- No good message for RET_TIMEOUT, as it stands now. -/
def execRetTimeout (station tick : Nat) (s : State) : Result :=
  whileUp s fun s =>
    if (s.link station).lastMsg + us (s.imm (Fld.STN_RET_TIMEOUT station)) ≤ tick then (s.at tick).linkLost station 0x10 1 0
    else s

def execRetAlignLost (station tick : Nat) (s : State) : Result :=
  whileUp s fun s =>
    if (s.link station).retLocked then
      ((s.at tick).setLink station fun l => { l with retLocked := false }).linkLost station 0x10 0 0
    else s

/-! Loopback (13 R283). -/

def execLinkLoopback (p : Packet) (s : State) : Result :=
  command Op.LINK_LOOPBACK .service p (fun s =>
    [inModes s fun m => m = .service, stationOn s p,
      (p.target < 5 && ((s.scan p.target).state ≠ .off || (s.link p.target).state = .loopback ||
        !bit (s.link p.target).caps 2), St.TARGET_BUSY), targetBelow p 5, params p [(0, 1)], badParam (par p 0 1 = 0)])
    (fun c s => (s.start c).setLink p.target fun l => { l with
      state := .loopback, loopEnds := s.now + ms (par p 0 1), since := s.now }) s

/-- DURATION ends, and the wait for LOOP_RESULT begins: `loopEnds` is 0 from then on. -/
def execLoopbackDurationEnd (station : Nat) (s : State) : Result :=
  whileUp s fun s =>
    if (s.link station).state = .loopback ∧ (s.link station).loopEnds ≠ 0 then
      let s := s.at (s.link station).loopEnds
      s.setLink station fun l => { l with loopEnds := 0, since := s.now }
    else s

/-- The loopback of a station ends with a RESULT and the link trains again. -/
def State.endLoopback (s : State) (n result : Nat) : State :=
  finishWhere (fun c => c.op = Op.LINK_LOOPBACK && c.p.target = n) (fun _ => St.OK) (fun _ => result) (s.train n)

/-- RESULT: the lanes without errors, and all errors, which stop at 0xFFFF. -/
def loopErrors (es : List Nat) : Nat :=
  ((List.range 4).foldl (fun m i => if es.getD i 0 = 0 then setBit m i else m) 0) + 2 ^ 16 * min 0xFFFF es.sum

def execLoopResult (station e0 e1 e2 e3 crc tick : Nat) (s : State) : Result :=
  receive station 0x30 (leBytes 4 e0 ++ leBytes 4 e1 ++ leBytes 4 e2 ++ leBytes 4 e3) crc tick
    (fun s =>
      if (s.link station).state = .loopback ∧ (s.link station).loopEnds = 0 then
        s.endLoopback station (loopErrors [e0, e1, e2, e3])
      else s) s

/-- No LOOP_RESULT within 1 ms after DURATION. The manual gives no RESULT for it. -/
def execLoopResultTimeout (station : Nat) (s : State) : Result :=
  whileUp s fun s =>
    if (s.link station).state = .loopback ∧ (s.link station).loopEnds = 0 then
      let s := s.at ((s.link station).since + ms 1)
      let (v, s) := s.drawNat
      s.endLoopback station v
    else s

/-! What the head reports. -/

def execStatusMsg (station : Nat) (temp : Int) (flags seq crc tick : Nat) (s : State) : Result :=
  receive station 0x20 (leInt 1 temp ++ leBytes 1 flags ++ leBytes 2 seq) crc tick
    (fun s => s.setLink station fun l => { l with temp := temp, flags := flags % 8 }) s

/-- A full sweep count from its low bits: the latest one not after `now`, where there is one. -/
def sweepFrom (now low m : Nat) : Nat :=
  let back := (now + m - low % m) % m
  if now < back then low % m else now - back

/-- APC_SAMPLE: kept for the update at the next end of active scan; the samples before it move down (12 R258, 24 R486). -/
def execApcSample (station sweep emitter sample crc tick : Nat) (s : State) : Result :=
  receive station 0x10 (leBytes 2 sweep ++ leBytes 1 emitter ++ leBytes 1 0 ++ leBytes 2 sample) crc tick (fun s =>
    if (s.link station).state = .up ∧ emitter < 34 then
      let full := sweepFrom (s.scan station).sweeps sweep 65536
      let s := s.setEmitter station emitter fun x => { x with
        hist := ((x.sample + 4096 * (x.smpSweep % 65536)) :: x.hist).take 8, sample := sample % 4096, smpSweep := full,
        fresh := true }
      if bit (s.pipe station).calMask emitter then
        s.setPipe station fun p => { p with
          calSamples := if (p.calSamples.filter fun c => c.1 = emitter).length < 8 then
            p.calSamples ++ [(emitter, sample % 4096)] else p.calSamples }
      else s
    else s) s

/-- EMITTER_FAULT: OPEN or SHORT, its first lost sweep the one the message names (12 R260). -/
def execEmitterFault (station emitter kind sweep crc tick : Nat) (s : State) : Result :=
  receive station 0x11 (leBytes 1 emitter ++ leBytes 1 kind ++ leBytes 4 sweep) crc tick
    (fun s =>
      if (s.link station).state = .up ∧ emitter < 34 ∧ (kind = 1 ∨ kind = 2) then
        s.mark station emitter kind (sweepFrom (s.scan station).sweeps sweep (2 ^ 32))
      else s) s

/-! SEG_ERROR (13 R277, R279). -/

/-- The segments that carry a code above 0 in the sweep in progress. -/
def State.segmentsNow (s : State) (n : Nat) : Nat :=
  if (s.link n).laserEn then
    ((s.pipe n).sending.filter fun x => !(s.emitter n x.1).gone).foldl
      (fun m x => m ||| sentSegments (s.liv (Fld.STN_LINE_KDOTS n)) x.2) 0
  else 0

/-- The segments that carried a code above 0 in a sweep; all of one more than four sweeps old. -/
def State.segmentsOf (s : State) (n sweep : Nat) : Nat :=
  if sweep + 4 < (s.scan n).sweeps then 0xFFFFFFFF
  else
    match (s.link n).sent.find? fun r => r.sweep = sweep with
    | some r => r.segments
    | none => if sweep = (s.scan n).sweeps then s.segmentsNow n else 0

/-- The sheet that a station imaged in a sweep, with its sheet sweep. -/
def State.imagedIn (s : State) (n sweep : Nat) : Option (Nat × Sheet × Imaging × Int) :=
  (List.range 24).findSome? fun slot =>
    match s.sheet? slot with
    | none => none
    | some sh =>
      match sh.on n with
      | none => none
      | some i =>
        let k := i.firstK + ((sweep : Int) - i.sweep0)
        if i.started && i.firstK ≤ k && k ≤ i.k then some (slot, sh, i, k) else none

/-- The lowest line of the sheet written in sheet sweep `k` by the plan of that time. -/
def State.lowestAt (s : State) (n : Nat) (sh : Sheet) (i : Imaging) (k : Int) : Nat :=
  match (i.spans (s.active n)).find? fun x => x.2.1 ≤ k && k ≤ x.2.2 with
  | none => 0
  | some x =>
    let ls := (List.range 32).filterMap fun j =>
      match x.1.lineOf (s.headOfs n) j k with
      | some l => if 0 ≤ l && l < (sh.lines n : Int) then some l else none
      | none => none
    (ls.foldl min (ls.headD 0)).toNat

/-- The segments of a report are counted, one at least (log entry 43); a segment that carried dots of a sheet makes its line count as not
present (08 R178). -/
def execSegError (station sweep mask reason crc tick : Nat) (s : State) : Result :=
  receive station 0x12 (leBytes 4 sweep ++ leBytes 4 mask ++ leBytes 1 reason) crc tick (fun s =>
    if (s.link station).state ≠ .up then s
    else
      let named := max 1 (maskList mask 32).length
      let s := (s.sendNow station).setLink station fun l => { l with segErrors := satAdd 0xFFFF l.segErrors named }
      let full := sweepFrom (s.scan station).sweeps sweep (2 ^ 32)
      if reason = 3 ∨ mask &&& s.segmentsOf station full = 0 then s
      else
        match s.imagedIn station full with
        | none => s
        | some (slot, sh, i, k) =>
          let time := match (s.link station).sent.find? fun r => r.sweep = full with
            | some r => r.time
            | none => s.lineTickOf station i k
          s.underrun slot station (s.lowestAt station sh i k) time) s

/-! The duty guard (12 R254, R255). Sums are kept in sixteenths of a code. -/

/-- The last `n` of a list. -/
def lastOf {α : Type} (n : Nat) (l : List α) : List α := l.drop (l.length - n)

/-- A window's sum exceeds its limit, and a clamp's sum is at most 7/8 of it. `full` is the sum of a window at full code. -/
def overDuty (sum max full : Nat) : Bool := max * full < 256 * sum
def underDuty (sum max full : Nat) : Bool := 8 * 256 * sum ≤ 7 * max * full

/-- A clamp starts: the event, the count, the stamps. -/
def State.clampStarts (s : State) (n who : Nat) : State :=
  let s := (s.setPipe n fun p => { p with clamps := satAdd 0xFFFF p.clamps 1 }).raise Ev.DUTY_CLAMP n 0xFF [BitVec.ofNat 8 who]
  s.clampStamps n (s.scan n).lineTick

/-- A duty in 1/65,536 of its base. -/
def dutyShare (sum full : Nat) : Nat := (divOpen (sum * 65536) full).toNat

def State.emitterWindow (s : State) (n cycles e : Nat) : State :=
  let x := s.emitter n e
  let ws := lastOf 16 (x.windows ++ [x.weight])
  let full := 16 * 55 * cycles
  let max := (s.pipe n).dutyCfg % 256
  let starts := !x.clamp && bit (s.pipe n).dutyCfg 22 && overDuty ws.sum max full
  let s := s.setEmitter n e fun x => { x with
    windows := ws, weight := 0, dutySum := dutyShare ws.sum full,
    clamp := starts || (x.clamp && !underDuty ws.sum max full) }
  if starts then s.clampStarts n e else s

def emitterWindows (n cycles : Nat) : List Nat → State → State
  | [], s => s
  | e :: es, s => emitterWindows n cycles es (s.emitterWindow n cycles e)

def State.headWindow (s : State) (n cycles : Nat) : State :=
  let p := s.pipe n
  let ws := lastOf 40 (p.headWins ++ [p.headWeight])
  let full := 16 * 55 * 32 * cycles
  let max := p.dutyHead / 256 % 256
  let starts := !p.headClamp && bit p.dutyHead 22 && overDuty ws.sum max full
  let s := s.setPipe n fun p => { p with
    headWins := ws, headWeight := 0, headDuty := dutyShare ws.sum full,
    headClamp := starts || (p.headClamp && !underDuty ws.sum max full) }
  if starts then s.clampStarts n 0xFF else s

/-- A sub-window ends: of every emitter each 16 µs, of the head each 250 µs. `cycles` are the island cycles in the whole
window. The duty fields as they stand act from the next sub-window (12 R263). -/
def execDutySubwindowEnd (station : Nat) (head : Bool) (cycles tick : Nat) (s : State) : Result :=
  whileUp s fun s =>
    if (s.station station).powered then
      let s := (s.at tick).sendNow station
      let cfg := (s.reg (Reg.STN_DUTY_CFG station)).toNat
      if head then (s.headWindow station cycles).setPipe station fun p => { p with dutyHead := cfg }
      else (emitterWindows station cycles (List.range 34) s).setPipe station fun p => { p with dutyCfg := cfg }
    else s

/-! HEAD_CAL (12 R259). -/

/-- An emitter mask of R248: bits 34 to 39 are 0, and 0 names every emitter. -/
def badMask (p : Packet) : Bool × Nat := badParam (2 ^ 34 ≤ par p 0 5)
def emitterMask (p : Packet) : Nat := if par p 0 5 = 0 then 2 ^ 34 - 1 else par p 0 5

def execHeadCal (p : Packet) (s : State) : Result :=
  command Op.HEAD_CAL .service p (fun s =>
    [inModes s fun m => m = .service, stationOn s p,
      (p.target < 5 && ((s.scan p.target).state ≠ .track || (s.pipe p.target).calMask ≠ 0), St.TARGET_BUSY), targetBelow p 5,
      params p [(0, 5)], badMask p])
    (fun c s => (s.start c).setPipe p.target fun q => { q with calMask := emitterMask p, calSamples := [] }) s

/-- The emitters under HEAD_CAL that can be sampled: those not marked failed. -/
def State.calEmitters (s : State) (n : Nat) : List Nat :=
  (maskList (s.pipe n).calMask 34).filter fun e => !(s.emitter n e).failed

def State.calSum (s : State) (n e : Nat) : List Nat :=
  ((s.pipe n).calSamples.filter fun c => c.1 = e).map Prod.snd

def setTargets (n : Nat) : List Nat → State → State
  | [], s => s
  | e :: es, s => setTargets n es (s.setImm (Fld.STN_TARGET n e) ((s.calSum n e).sum / 8))

/-- Every named emitter has its eight samples: the means become TARGETs. -/
def execHeadCalDone (station : Nat) (s : State) : Result :=
  whileUp s fun s =>
    let es := s.calEmitters station
    if (s.pipe station).calMask ≠ 0 ∧ (es.all fun e => (s.calSum station e).length = 8) = true then
      let s := (setTargets station es s).setPipe station fun p => { p with calMask := 0, calSamples := [] }
      (finishWhere (fun c => c.op = Op.HEAD_CAL && c.p.target = station) (fun _ => St.OK) (fun _ => es.length) s).calDone 0x11
        station
    else s

/-! CAPTURE (03 R80). -/

def execCapture (p : Packet) (s : State) : Result :=
  command Op.CAPTURE .owner p (fun s =>
    [inModes s fun m => m = .ready || m = .printing || m = .service, needInit s, stationOn s p,
      (s.captures.any fun j => j.station = p.target, St.TARGET_BUSY), targetBelow p 5,
      params p [(0, 1), (4, 6), (0x0C, 16)],
      badParam (1 < par p 0 1 || par p 4 4 = 0 || par p 8 2 = 0 || 4096 < par p 8 2 || par p 0x10 8 % 64 ≠ 0 ||
        par p 0x18 4 % 64 ≠ 0),
      (par p 0x0C 4 ≠ 0 && (s.slotOf (par p 0x0C 4)).isNone, St.SHEET_UNKNOWN),
      (match (s.slotOf (par p 0x0C 4)).bind s.sheet? with
        | some sh => par p 0x0C 4 ≠ 0 && match sh.on p.target with | some i => i.started | none => false
        | none => false, St.SHEET_PAST_HINGE)])
    (fun c s =>
      let j : CaptureJob :=
        { station := p.target, cmd := c.seq, what := par p 0 1, lanes := par p 4 4, sweeps := par p 8 2, sheetId := par p 0x0C 4,
          addr := par p 0x10 8, length := par p 0x18 4, started := false, done := 0, written := 0, lines := 0, dropped := 0,
          blocks := 0, full := false, held := [] }
      { s.start c with captures := s.captures ++ [j] }) s

/-- A capture has run its sweeps, or its buffer is full: the flushing read, and its completion. -/
def execCaptureDone (station : Nat) (s : State) : Result :=
  whileUp s fun s =>
    match s.captures.find? fun j => j.station = station && (j.full || j.sweeps ≤ j.done) with
    | none => s
    | some j =>
      let s := { s with captures := s.captures.filter fun x => x.station ≠ station }
      finish j.cmd (if j.full then St.NO_SPACE else St.OK) (j.lines + 2 ^ 16 * j.dropped) (s.out .flushRead)

end Sys2Proof.Machine
end

