-- ==== Sys2Proof/Machine/Failover.lean ====
section
/-! DEFINITION. Steps 2 and 3 of a speed-changing failover (11 R236, R231; 15 R329). -/

namespace Sys2Proof.Machine

/-- The slots that drive drums, belt and fuser roller take a reference mode. -/
def takeRefs (t : RefTake) : List Nat → State → State
  | [], s => s
  | d :: ds, s =>
    match s.slotFor 1 d with
    | none => takeRefs t ds s
    | some n => takeRefs t ds (s.setLoop n fun L => { L with take := t, r2 := 0 })

/-- The plans of step 2: the alternate into slot 0 on the failed station, slots 0 and 1 exchanged on every other. -/
def slowPlans (n e : Nat) : List Nat → State → State
  | [], s => s
  | m :: ms, s =>
    let s := s.mirrorOn (.journal (.failover m (if m = n then 2 + e else 1)))
    slowPlans n e ms
      (if m = n then s.setPlans m fun P => { P.put 0 (P.slots.getD (2 + e) .reset) with
        source := 2 + e }
       else s.setPlans m Plans.swap)

/-- A station acquires anew. While its link is not UP it stays OFF (13 R280), and acquires as soon as that has ended. -/
def State.acquireAnew (s : State) (n : Nat) : State :=
  if (s.link n).state = .up || s.pair.role = .shadow then s.acquire n else s

def acquireAnews : List Nat → State → State
  | [], s => s
  | n :: ns, s => acquireAnews ns (s.acquireAnew n)

/-- The polygons go to their set-points for N′. -/
def polygonsTo (runN : Nat) : List Nat → State → State
  | [], s => s
  | n :: ns, s => polygonsTo runN ns (s.driveMove n (s.rampMove n (s.polygonRpm n runN)))

/-- Step 2, at the first end of active scan of the process master with no slot in IMAGING. A SHADOW takes the plans from the
mirror. -/
def execSpeedChangeHold (tick : Nat) (s : State) : Result :=
  whileUp s fun s =>
    if s.run.slowStep = 1 ∧ s.noneImaging = true then
      let s := s.at tick
      let l := s.runStations
      let s := takeRefs .held mechanics { s with run := { s.run with slowStep := 2 } }
      let s := acquireAnews l s
      let s := if s.pair.role = .shadow then s else slowPlans s.run.slowStation s.run.slowEmitter l s
      polygonsTo s.run.slowN l s
    else s

/-- The switch of every station is counted and raised (11 R236, R238). -/
def switchedAll : List Nat → State → State
  | [], s => s
  | n :: ns, s =>
    switchedAll ns ((s.setPlans n fun P => { P with failovers := satAdd 0xFFFF P.failovers 1 }).planSwitched n ((s.plans n).source))

/-- Step 3, once every station has completed ACQUIRE. -/
def execSpeedChangeResume (tick : Nat) (s : State) : Result :=
  whileUp s fun s =>
    let l := s.runStations
    if s.run.slowStep = 2 ∧ (l.all fun n => (s.scan n).tracking) = true then
      let s := reBase l (takeRefs .none mechanics (s.at tick))
      let s := ({ s with run := { s.run with runN := s.run.slowN, slowStep := 0 } }).project
      switchedAll l s
    else s

end Sys2Proof.Machine
end

