-- ==== Sys2Proof/Machine/Dma.lean ====
section
/-! DEFINITION. The 16 DMA channels (06): lists, descriptors, the scratch region, staging through to the commitment of a band,
bus errors. -/

namespace Sys2Proof.Machine

/-! The regions whose sizes are live (08 R162, R163). -/

def MiB : Nat := 2 ^ 20

def State.windowBase (s : State) (n : Nat) : Nat := 0x1000000 + (s.feed.winMiB.take n).sum * MiB
def State.scratchBase (s : State) : Nat := s.windowBase 5
def State.stagingBase (s : State) : Nat := s.scratchBase + s.feed.scratchMiB * MiB

/-- Bytes of the region that a descriptor names. -/
def State.regionBytes (s : State) (region : Nat) : Nat := if region = 0 then s.stagingBytes else s.feed.scratchMiB * MiB

/-- A write over failing lines ends their failing, and cancels what corrects them (18 R375). -/
def State.overwrite (s : State) (p : Nat → Bool) : State :=
  let hit := s.mem.failing.filter fun f => p f.1
  { s with mem := { s.mem with
    failing := s.mem.failing.filter fun f => !p f.1,
    superseded := satAdd 0xFF s.mem.superseded (hit.filter fun f => f.2 ≠ 0xFF).length } }

def State.overLines (s : State) (lo n : Nat) : State := s.overwrite fun l => lo ≤ l && l < lo + n

/-! Descriptors (06 R121). -/

def Desc.dir (d : Desc) : Nat := d.flags % 2
def Desc.barrier (d : Desc) : Bool := bit d.flags 1
def Desc.wb (d : Desc) : Bool := bit d.flags 2
def Desc.region (d : Desc) : Nat := bitsOf d.flags 3 2
def Desc.station (d : Desc) : Nat := bitsOf d.flags 5 3
def Desc.toScratch (d : Desc) : Bool := d.region = 1 && d.dir = 0

def readDesc (b : List Byte) : Desc :=
  { hostAddr := fieldAt b 0 8, ofs := fieldAt b 8 4, length := fieldAt b 0x0C 4 % 2 ^ 24, next := fieldAt b 0x10 8,
    flags := fieldAt b 0x18 2, id := fieldAt b 0x1A 2, stale := false, target := none, req := 0, line := [],
    staged := false }

/-- The checks of a fetched descriptor, the first that fails giving its status (06 R122). -/
def State.badDesc (s : State) (b : List Byte) : Option Nat :=
  let d := readDesc b
  firstFail
    [((crc32c (slice b 0 0x1C)).toNat ≠ fieldAt b 0x1C 4 || fieldAt b 0x0F 1 ≠ 0 || fieldAt b 0x19 1 ≠ 0, St.BAD_PACKET),
      (1 < d.region || (d.region = 0 && (4 < d.station || d.dir = 1)) || (d.region = 1 && d.station ≠ 7) || d.hostAddr % 4 ≠ 0 ||
        d.ofs % 64 ≠ 0 || d.next % 32 ≠ 0 || d.length = 0 || d.length % (if d.region = 1 then 64 else 4) ≠ 0, St.BAD_PARAM),
      (s.regionBytes d.region < d.ofs + d.length, St.NO_SPACE),
      (d.region = 0 && (!(s.station d.station).powered || (s.station d.station).pending.isSome), St.DOMAIN_OFF)]

/-! The scratch region (06 R125). -/

/-- Lines marked as written. -/
def markWritten (lo n : Nat) (l : List Nat) : List Nat :=
  (l.filter fun x => x < lo) ++ (List.range n).map (lo + ·) ++ l.filter fun x => lo + n ≤ x

/-- Whole lines written at an offset. -/
def State.scratchWrite (s : State) (ofs : Nat) (b : List Byte) : State :=
  let s := { s with dma := { s.dma with
    scratch := Store.putAll zeroByte s.dma.scratch (((List.range b.length).map (ofs + ·)).zip b),
    written := markWritten (ofs / 64) (b.length / 64) s.dma.written } }
  s.overLines ((s.scratchBase + ofs) / 64) (b.length / 64)

/-- A line that is read poisoned. -/
def State.poisonedLine (s : State) (line : Nat) : Bool :=
  !s.dma.written.contains line || s.mem.failing.any fun f => f.1 = s.scratchBase / 64 + line

/-- Lines of the scratch region sent to the host. -/
def scratchSend (host : Nat) : List Nat → State → State
  | [], s => s
  | line :: ls, s =>
    scratchSend (host + 64) ls
      (if s.poisonedLine line then s.out (.poisoned host 64)
       else s.out (.hostWrite host ((List.range 64).map fun i => Store.get zeroByte s.dma.scratch (64 * line + i))))

def Desc.lineList (d : Desc) : List Nat := (List.range (d.length / 64)).map (d.ofs / 64 + ·)

/-! How descriptors and lists end (06 R120, R123, R126). -/

/-- A list of a channel ends, its command with it. -/
def State.endList (s : State) (c st : Nat) : State :=
  match (s.channel c).lists with
  | [] => s
  | l :: ls =>
    let s := s.setChannel c fun C => { C with
      lists := ls, cur := none, last := if st = St.OK then C.last else st,
      err := if st = St.ABORTED_BUS then setBit C.err 0
        else if st = St.ABORTED_POWER ∨ st = St.DOMAIN_OFF then setBit C.err 2 else C.err }
    finish l.cmd.seq st l.good s

/-- The status written back into a descriptor (06 R126). -/
def State.writeBackDesc (s : State) (c : Nat) (d : Desc) (st : Nat) : State :=
  if d.wb then
    s.out (.hostWrite ((s.channel c).curAddr + 0x18)
      (leBytes 2 (d.flags % 2 ^ 15 + 2 ^ 15) ++ leBytes 2 d.id ++ leBytes 2 st ++ leBytes 2 0))
  else s

def State.setList (s : State) (c : Nat) (f : DmaList → DmaList) : State :=
  s.setChannel c fun C => { C with lists := C.lists.modify 0 f }

/-- The current descriptor of a channel finishes; its list goes on, or ends. -/
def State.endDesc (s : State) (c st : Nat) : State :=
  match (s.channel c).cur, (s.channel c).lists with
  | some d, l :: _ =>
    let s := (s.writeBackDesc c d st).record 4 c (leBytes 2 d.id ++ leBytes 2 st ++ leBytes 4 d.length)
    if st = St.OK then
      let s := (s.setList c fun l => { l with good := l.good + 1, next := d.next }).setChannel c fun C => { C with
        cur := none, done := (C.done + 1) % 2 ^ 32,
        landing := match d.target with
          | some (i, j) => if d.staged then C.landing else C.landing ++ [⟨i, j, d.req, d.line⟩]
          | none => C.landing }
      if d.next = 0 then s.endList c St.OK else if l.count ≤ l.seen then s.endList c St.BAD_PARAM else s
    else s.endList c st
  | _, _ => s

def State.moved (s : State) (c n : Nat) : State := s.setChannel c fun C => { C with bytes := (C.bytes + n) % 2 ^ 64 }

/-- What an aborted descriptor has moved is open (06 R132). A device-to-host one without BARRIER that had issued its last byte would
have finished (06 R127). -/
def State.partWay (s : State) (c : Nat) (d : Desc) : State :=
  let (v, s) := s.drawNat
  let n := d.length / 64
  if d.toScratch then
    let k := v % (n + 1)
    let (b, s) := s.drawBytes (64 * k)
    (s.scratchWrite d.ofs b).moved c (64 * k)
  else if d.region = 1 then (scratchSend d.hostAddr (d.lineList.take (v % n)) s).moved c (64 * (v % n))
  else s.moved c (4 * (v % (d.length / 4 + 1)))

/-- The last byte of a device-to-host descriptor is issued; with BARRIER the read of its last dword is (06 R127). -/
def State.sendAll (s : State) (c : Nat) (d : Desc) : State :=
  let s := (scratchSend d.hostAddr d.lineList s).moved c d.length
  if d.barrier then s.out .flushRead else s

/-- A device-to-host descriptor that has delivered a poisoned line finishes so (06 R125). -/
def State.sentStatus (s : State) (d : Desc) : Nat := if d.lineList.any s.poisonedLine then St.UNINIT_OR_CORRUPT else St.OK

/-- A descriptor that waits only for the read of its last dword when a bus error stops it: whether it does is a free value (06
R131). -/
def State.onlyReads (s : State) (d : Desc) (st : Nat) : Bool × State :=
  if st = St.ABORTED_BUS ∧ d.region = 1 ∧ d.dir = 1 ∧ d.barrier = true then
    let (v, s) := s.drawNat
    (v % 2 = 1, s)
  else (false, s)

/-- The running list of a channel is stopped; the Bool says whether the list ended with `st`. A descriptor whose last line was
committed, or at a bus error whose last byte to the host was issued, finishes as it would have (06 R131, R137). With `goOn` the
list then goes on (06 R123), else it ends with `st`. -/
def State.stopList (s : State) (c st : Nat) (goOn : Bool) : State × Bool :=
  match (s.channel c).cur, (s.channel c).lists with
  | none, _ => (s.endList c st, true)
  | some d, l :: _ =>
    let (only, s) := s.onlyReads d st
    if d.staged || only then
      let s := if only then (s.sendAll c d).endDesc c (s.sentStatus d) else (s.moved c d.length).endDesc c St.OK
      let left := (s.channel c).lists.any fun m => m.cmd.seq = l.cmd.seq
      if left && !goOn then (s.endList c st, true) else (s, false)
    else ((s.partWay c d).endDesc c st, true)
  | some _, [] => (s, false)

/-- The running lists of some channels are stopped; with the mask of the channels whose list ended with `st`. -/
def stopLists (st : Nat) (goOn : Bool) : List Nat → State → State × Nat
  | [], s => (s, 0)
  | c :: cs, s =>
    let (s, hit) := s.stopList c st goOn
    let (s, m) := stopLists st goOn cs s
    (s, if hit then setBit m c else m)

def endQueued (c st : Nat) : Nat → State → State
  | 0, s => s
  | n + 1, s => endQueued c st n (s.endList c st)

/-- Every list of a channel ends, the running one first. -/
def State.endLists (s : State) (c st : Nat) : State :=
  let s := (s.stopList c st false).1
  endQueued c st (s.channel c).lists.length s

def endAllLists (st : Nat) : List Nat → State → State
  | [], s => s
  | c :: cs, s => endAllLists st cs (s.endLists c st)

/-! Commands (06 R119, R133, R135, R138). -/

def execDmaStart (p : Packet) (s : State) : Result :=
  command Op.DMA_START .owner p (fun s =>
    [needInit s, (s.inReset Fn.DMA || (p.target < 16 && 8 ≤ (s.channel p.target).lists.length), St.TARGET_BUSY),
      targetBelow p 16, params p [(0, 8), (8, 4)],
      badParam (par p 0 8 % 32 ≠ 0 || par p 8 4 = 0 || 1048575 < par p 8 4)])
    (fun c s => (s.start c).setChannel p.target fun C => { C with lists := C.lists ++ [⟨c, par p 0 8, par p 8 4, 0, 0⟩] }) s

def execDmaStop (p : Packet) (s : State) : Result :=
  command Op.DMA_STOP .owner p (fun _ => [targetBelow p 16, params p []])
    (fun c s => complete c St.OK 0 (s.endLists p.target St.ABORTED_HOST)) s

/-- STOPPED clears; what was outstanding at the error must still return (DMA_CHANNELS_RESTART). -/
def execDmaResume (p : Packet) (s : State) : Result :=
  command Op.DMA_RESUME .owner p (fun s => [needInit s, noTarget p, params p []])
    (fun c s => complete c St.OK 0 { s with dma := { s.dma with stopped := false } }) s

/-- A descriptor that a channel holds belongs to a station that is going down. -/
def State.powerWait (s : State) (c : Nat) : Bool :=
  match (s.channel c).cur with
  | some d => d.region = 0 && (s.station d.station).pending.isSome
  | none => false

/-- DMAn_STATE (06 R138). -/
def State.dmaState (s : State) (c : Nat) : Nat :=
  let l := (s.channel c).lists.length
  (if s.inReset Fn.DMA then 4 else if s.dma.stopped || s.dma.draining then 2 else if s.powerWait c then 3
    else if l = 0 then 0 else 1) + 8 * l

/-- SYS_DMA_STAT (06 R138). -/
def State.dmaStat (s : State) : Nat := flag s.dma.stopped 0 + 2 * s.dma.unexpected + 2 ^ 16 * s.dma.busErrors

def execDmaStatus (p : Packet) (s : State) : Result :=
  command Op.DMA_STATUS .observer p (fun _ => [(16 ≤ p.target && p.target ≠ 0xFFFF, St.BAD_TARGET), params p []])
    (fun c s => complete c St.OK (if p.target = 0xFFFF then s.dmaStat else s.dmaState p.target) s) s

/-! Descriptors on their way. -/

/-- What returns while the channels are stopped is for a read outstanding at the error: it is discarded and counted (06 R133). -/
def State.unexpected (s : State) : State :=
  { s with dma := { s.dma with unexpected := satAdd 0x7FFF s.dma.unexpected 1 } }

/-- The channels are stopped, or wait after a resume for what was outstanding. -/
def State.dmaHeld (s : State) : Bool := s.dma.stopped || s.dma.draining

/-- The channels run. -/
def State.dmaRuns (s : State) : Bool :=
  s.modes.memReady && !s.dma.stopped && !s.dma.draining && !s.inReset Fn.DMA && !s.feed.shedLoad

/-- A descriptor fetched for the running list (06 R122). One that returns for a read outstanding at a bus error is discarded
(06 R133). -/
def execDescriptorFetch (channel : Nat) (raw : List Byte) (s : State) : Result :=
  whileUp s fun s =>
    if s.dmaHeld then s.unexpected
    else
      match (s.channel channel).lists with
      | [] => s
      | l :: _ =>
        if s.dmaRuns && (s.channel channel).cur.isNone then
          let s := (s.setChannel channel fun C => { C with cur := some (readDesc raw), curAddr := l.next }).setList channel
            fun l => { l with seen := l.seen + 1 }
          match s.badDesc raw with
          | some st => (s.setChannel channel fun C => { C with err := setBit C.err 1 }).endDesc channel st
          | none => s
        else s

/-- The band whose open request a DEV_OFS answers (07 R153). -/
def State.openAt (s : State) (ofs : Nat) : Option (Nat × Nat) :=
  (s.feed.ring.find? fun r => !r.released && r.ofs = ofs &&
    (match s.band? r.slot r.idx with | some b => b.state = .requested | none => false)).map fun r => (r.slot, r.idx)

/-- The header names another band than the request's (07 R153). -/
def namesOther (line : List Byte) (sh : Sheet) (b : Band) : Bool :=
  let h := readHeader line
  headerChecks line && (h.sheetId ≠ sh.id || h.station ≠ b.station || h.band ≠ b.band)

/-- The header of a staged block is good (07 R153). -/
def State.headerGood (s : State) (d : Desc) (sh : Sheet) (b : Band) (line : List Byte) : Bool :=
  let h := readHeader line
  headerChecks line && h.magic = 0x5853 && h.version = 1 && h.flags < 4 && h.content = 0 && h.bpd = 4 &&
    h.dots = s.lineDots d.station && 1 ≤ h.lines && h.lines ≤ 32 && h.origLen = h.lines * h.dots / 2 && h.origLen ≤ 65536 &&
    compAgrees h.raw h.origLen h.compLen && h.station = d.station && h.station = b.station && h.sheetId = sh.id &&
    h.band = b.band && h.first = b.first && h.lines = b.lines && h.last = b.last && h.raw = b.raw && h.compLen = b.comp &&
    d.length = b.padded

/-- Staged bytes kept for a re-decode that lie where a new block lands (18 R381). -/
def State.overStaged (s : State) (lo n : Nat) : State :=
  { s with sheets := { s.sheets with slots := s.sheets.slots.map fun o => o.map fun sh => { sh with
      bands := sh.bands.map fun b =>
        if b.state = .decoded && b.ofs < lo + n && lo < b.ofs + b.space then { b with block := [] } else b } } }

/-- The first line of a STAGING descriptor: a stale answer, a rejected header, or the band's data from here on (07 R153, 08
R175). -/
def execStagingFirstLine (channel : Nat) (line : List Byte) (tick : Nat) (s : State) : Result :=
  whileUp s fun s =>
    if s.dmaHeld then s.unexpected
    else match (s.channel channel).cur with
    | none => s
    | some d =>
      if d.region ≠ 0 ∨ d.stale = true ∨ d.target.isSome = true ∨ s.dmaRuns = false then s
      else
        let s := s.at tick
        let stale := { (s.setChannel channel fun C => { C with cur := some { d with stale := true } }) with
          feed := { s.feed with stale := satAdd 0xFFFF s.feed.stale 1 } }
        match s.openAt d.ofs with
        | none => stale
        | some (i, j) =>
          match s.sheet? i, s.band? i j with
          | some sh, some b =>
            if namesOther line sh b then stale
            else if s.headerGood d sh b line then
              ((s.setChannel channel fun C => { C with
                cur := some { d with target := some (i, j), req := b.reqSeq, line := line } }).overStaged d.ofs b.space).overLines ((s.stagingBase + d.ofs) / 64) (b.space / 64)
            else
              ({ s with feed := { s.feed with hdrRejects := satAdd 0xFFF s.feed.hdrRejects 1 } }).endDesc channel
                St.BLOCK_MALFORMED
          | _, _ => stale

/-- A band's last line and check are committed (06 R129): the block begins with the line whose header was checked. Where the request
was given up or made again meanwhile, its space is another's and nothing is staged (08 R174, R176). -/
def State.commitBand (s : State) (i j req : Nat) (line block : List Byte) : State :=
  s.setBand i j fun b =>
    if b.state = .requested && b.reqSeq = req then
      { b with state := .staged, block := slice (line ++ block.drop line.length) 0 b.padded }
    else b

/-- The last line of a band is committed; `block` holds the bytes after its first line, which stands in the descriptor. -/
def execBandStaged (channel : Nat) (block : List Byte) (tick : Nat) (s : State) : Result :=
  whileUp s fun s =>
    match (s.channel channel).landing with
    | l :: rest =>
      ((s.at tick).setChannel channel fun C => { C with landing := rest }).commitBand l.slot l.idx l.req l.line block
    | [] =>
      match (s.channel channel).cur with
      | none => s
      | some d =>
        match d.target with
        | none => s
        | some (i, j) =>
          if d.staged then s
          else
            ((s.at tick).setChannel channel fun C => { C with cur := some { d with staged := true } }).commitBand i j d.req
              d.line block

/-- A descriptor finishes by its barrier rule (06 R125, R127). `data` are the bytes a host-to-device scratch descriptor
brought. -/
def execDescriptorDone (channel : Nat) (data : List Byte) (tick : Nat) (s : State) : Result :=
  whileUp s fun s =>
    if s.dmaHeld then s.unexpected
    else match (s.channel channel).cur with
    | none => s
    | some d =>
      if s.dmaRuns = false then s
      else
        let s := s.at tick
        if d.region = 0 then
          if d.stale || (d.target.isSome && (d.staged || !d.barrier)) then (s.moved channel d.length).endDesc channel St.OK
          else s
        else if d.dir = 0 then
          ((s.scratchWrite d.ofs (slice data 0 d.length)).moved channel d.length).endDesc channel St.OK
        else
          (s.sendAll channel d).endDesc channel (s.sentStatus d)

/-! Bus errors (06 R131-R133). -/

/-- The address of a channel's current descriptor, the one being fetched for a running list among them (06 R138). -/
def State.currentDesc (s : State) (c : Nat) : Nat :=
  match (s.channel c).lists with
  | l :: _ => if s.dmaRuns && (s.channel c).cur.isNone then l.next else (s.channel c).curAddr
  | [] => (s.channel c).curAddr

def keepCurrent : List Nat → State → State
  | [], s => s
  | c :: cs, s => keepCurrent cs (s.setChannel c fun C => { C with curAddr := s.currentDesc c })

/-- Every channel stops; every running list completes ABORTED_BUS, and then the event is posted. No list runs while the channels wait
after a resume. -/
def State.busError (s : State) : State :=
  let hit := if s.dmaHeld then [] else (List.range 16).filter fun c => (s.channel c).lists ≠ []
  let s := keepCurrent (List.range 16) s
  let s := { s with dma := { s.dma with
    busErrors := satAdd 0xFFFF s.dma.busErrors 1, stopped := true, draining := true } }
  let (s, mask) := stopLists St.ABORTED_BUS false hit s
  s.raise Ev.DMA_BUS_ERROR 0xFF 0xFF
    (leBytes 4 ((List.range 16).filter (bit mask)).length ++ leBytes 2 mask)

/-- An error of a read or of a write. While STOPPED a further error is only counted, and a failing read was outstanding at the error
taken: it belongs to that error, also after DMA_RESUME, and counts as a completion discarded (06 R131, R133). -/
def execDmaBusError (channel : Nat) (write : Bool) (tick : Nat) (s : State) : Result :=
  whileUp s fun s =>
    if channel < 16 then
      if s.dmaHeld && !write then s.unexpected
      else if s.dma.stopped then { s with dma := { s.dma with busErrors := satAdd 0xFFFF s.dma.busErrors 1 } }
      else (s.at tick).busError
    else s

/-- A read of a channel that is outstanding at an error belongs to that error (06 R133). -/
def execCompletionTimeout (channel : Nat) (s : State) : Result :=
  whileUp s fun s =>
    if s.dmaHeld || (s.channel channel).lists.isEmpty then s else s.busError

def execDmaChannelsRestart (s : State) : Result :=
  whileUp s fun s => if s.dma.stopped then s else { s with dma := { s.dma with draining := false } }

end Sys2Proof.Machine
end

