-- ==== Sys2Proof/Machine/Engines.lean ====
section
/-! DEFINITION. The twelve decompression engines (08 R166-R170, 07 R154-R156) and the posting of data requests (08 R172). -/

namespace Sys2Proof.Machine

/-! Dispatch (08 R166). -/

/-- A band whose lines stand in its window already, being decoded again for failing lines (18 R381). -/
def State.held (s : State) (i j : Nat) : Bool :=
  match s.sheet? i, s.band? i j with
  | some sh, some b => s.inWindow sh b
  | _, _ => false

/-- The blocks that may be dispatched: deadline, slot and index, and whether it is a re-decode of a block that has decoded. -/
def State.eligible (s : State) : List ((Int × Nat × Nat) × Bool) :=
  let fresh := (s.bandsWhere fun b => b.state = .staged).filter fun x =>
    s.held x.2.1 x.2.2 || match s.band? x.2.1 x.2.2 with | some b => s.bandFree b | none => false
  sortBy (fun a b => s.sooner a.1 b.1) (fresh.map (fun x => (x, false)) ++ s.feed.redo.map fun r => ((r.2.2, r.1, r.2.1), true))

/-- Engine `e` is idle and has returned no verdict for the block. -/
def State.takes (s : State) (b : Band) (e : Nat) : Bool :=
  (s.engine e).active && (s.engine e).job.isNone && !b.verdicts.any fun v => v.1 = e && v.2 < 3

/-- The earliest block that an engine can take, and the lowest such engine. -/
def State.nextJob (s : State) : Option (((Int × Nat × Nat) × Bool) × Nat) :=
  s.eligible.findSome? fun x =>
    match s.band? x.1.2.1 x.1.2.2 with
    | some b => ((List.range 12).find? (s.takes b)).map fun e => (x, e)
    | none => none

/-- A trace record of an engine (03 R78 source 5). -/
def State.traceEngine (s : State) (e kind code i j : Nat) : State :=
  match s.sheet? i, s.band? i j with
  | some sh, some b => s.record 5 e (leBytes 1 kind ++ leBytes 1 code ++ leBytes 1 b.station ++ leBytes 1 0 ++ leBytes 4 sh.id)
  | _, _ => s

/-- A block is dispatched again: RETRIES, DECOMP_RETRY and the count (08 R167, 02 R44). -/
def State.retry (s : State) (i : Nat) : State :=
  match s.sheet? i with
  | none => s
  | some sh =>
    let n := satAdd 0xFFFF sh.retries 1
    let s := s.setSheet i fun x => { x with retries := n }
    let s := s.mirrorOn (.journal (.retries i n))
    { (s.stamp i Cause.DECOMP_RETRY s.now) with feed := { s.feed with redispatched := satAdd 0xFFFF s.feed.redispatched 1 } }

/-- A block given to an engine with its deadline; SYS_DEC_CFG acts on it as it now stands (08 R179). -/
def State.dispatch (s : State) (due : Int) (i j e : Nat) (redo : Bool) : State :=
  let again := match s.band? i j with | some b => !redo && b.verdicts ≠ [] | none => false
  let s := if again then s.retry i else s
  let s := s.setEngine e fun E => { E with
    job := some (i, j), since := s.now, redo := redo, due := due, cfg := s.reg Reg.SYS_DEC_CFG }
  let s := if redo then { s with feed := { s.feed with redo := s.feed.redo.filter fun r => !(r.1 = i && r.2.1 = j) } }
    else s.setBand i j fun b => { b with state := .decoding }
  s.traceEngine e 0 0 i j

def execBlockDispatch (tick : Nat) (s : State) : Result :=
  whileLeads s fun s =>
    if !s.modes.memReady || s.feed.shedLoad || s.inReset Fn.DECOMP then s
    else
      match (s.at tick).nextJob with
      | none => s
      | some (x, e) => (s.at tick).dispatch x.1.1 x.1.2.1 x.1.2.2 e x.2

/-! Strikes and retirement (08 R167, R168). -/

/-- The block of an engine goes back to the scheduler, a re-decode with its own deadline. -/
def State.giveBack (s : State) (e : Nat) : State :=
  match (s.engine e).job with
  | none => s
  | some (i, j) =>
    let s := if (s.engine e).redo then { s with feed := { s.feed with redo := s.feed.redo ++ [(i, j, (s.engine e).due)] } }
      else s.setBand i j fun b => if b.state = .decoding then { b with state := .staged, verdicts := b.verdicts ++ [(e, 3)] } else b
    s.setEngine e fun E => { E with job := none, redo := false }

def State.activeEngines (s : State) : Nat := (s.feed.engines.filter fun e => e.active).length

/-- A field of SYS_DEC_CFG as it stood at the last dispatch to an engine (08 R179). -/
def Engine.limit (E : Engine) (f : FieldRef) : Nat := wordField E.cfg f

/-- A strike; the last of STRIKES within STRIKE_WINDOW retires the engine. -/
def State.strike (s : State) (e : Nat) : State :=
  let E := s.engine e
  if !E.active then s
  else
    let l := (E.strikes.filter fun t => s.now ≤ t + sec (E.limit Fld.STRIKE_WINDOW)) ++ [s.now]
    let s := s.setEngine e fun E => { E with strikes := l }
    if l.length < E.limit Fld.STRIKES then s
    else
      let s := (s.giveBack e).setEngine e fun E => { E with active := false }
      s.raise Ev.ENGINE_RETIRED e 0xFF [BitVec.ofNat 8 s.activeEngines]

def strikes : List Nat → State → State
  | [], s => s
  | e :: es, s => strikes es (s.strike e)

/-- No verdict within ENGINE_TIMEOUT of the dispatch. -/
def execEngineTimeout (engine : Nat) (s : State) : Result :=
  whileUp s fun s =>
    match (s.engine engine).job with
    | none => s
    | some (i, j) =>
      let s := s.at ((s.engine engine).since + us ((s.engine engine).limit Fld.ENGINE_TIMEOUT))
      ((s.traceEngine engine 1 3 i j).giveBack engine).strike engine

/-! Verdicts (07 R154-R156). -/

/-- The band counts as unstaged and is asked for again with a reason (07 R156, 08 R169). -/
def State.askAgain (s : State) (i j st : Nat) : State :=
  (s.release fun r => r.slot = i && r.idx = j).setBand i j fun b => { b with
    state := .waiting, block := [], verdicts := [], again := some st }

/-- A block is condemned (07 R156); a re-decode stamps nothing (18 R381). -/
def State.condemn (s : State) (i j st : Nat) (redo : Bool) : State :=
  let s := { s with feed := { s.feed with condemned := satAdd 0xFFF s.feed.condemned 1 } }
  (if redo then s else s.stamp i Cause.DECOMP_RETRY s.now).askAgain i j st

/-- Failing lines of a window rewritten from a new decode (18 R381). -/
def State.repairWindow (s : State) (b : Band) (id : Nat) (orig : List Byte) : State :=
  let w := s.lineBytes b.station
  s.setStation b.station fun st => { st with window := st.window.map fun x =>
    if x.bad && x.sheetId = id && b.first ≤ x.line && x.line < b.first + b.lines then
      { x with bad := false, bytes := slice orig ((x.line - b.first) * w) w } else x }

/-- The lines of the WINDOW region that hold line `l` of a station (08 R164). -/
def State.windowLines (s : State) (n l : Nat) : Nat × Nat :=
  let w := s.lineBytes n
  (((s.windowBase n) + l % s.capacity n * w) / 64, w / 64)

/-- A failing line has been corrected: the event and the counts (18 R379, R386). -/
def State.corrected (s : State) (line source : Nat) : State :=
  let s := { s with mem := { s.mem with
    failing := s.mem.failing.filter fun f => f.1 ≠ line, corrected := satAdd 0xFFF s.mem.corrected 1, lastLine := line,
    lastSource := source } }
  s.raise Ev.MEM_CORRECTED 0xFF 0xFF (leBytes 4 line ++ leBytes 1 source)

def correctedAll : List (Nat × Nat) → State → State
  | [], s => s
  | f :: fs, s => correctedAll fs (s.corrected f.1 f.2)

/-- The failing buffer lines under a band's window lines. -/
def State.failingUnder (s : State) (b : Band) : List (Nat × Nat) :=
  s.mem.failing.filter fun f => (List.range b.lines).any fun k =>
    let r := s.windowLines b.station (b.first + k)
    r.1 ≤ f.1 && f.1 < r.1 + r.2

/-- The engines that failed a block which another has decoded: their strikes stand (07 R156). -/
def Band.failedBy (b : Band) : List Nat := (b.verdicts.filter fun v => v.2 < 3).map Prod.fst

/-- The lines of a decoded block: those in the window are rewritten where they failed, others come in (07 R155, 18 R381). -/
def State.placeLines (s : State) (i j : Nat) (sh : Sheet) (b : Band) (orig : List Byte) : State :=
  if s.held i j then correctedAll (s.failingUnder b) (s.repairWindow b sh.id orig) else (s.overwrite fun l => (s.failingUnder b).any fun f => f.1 = l).fillWindow b sh.id orig

/-- A block has decoded OK: its lines are in the window, the space of a first decode is released, and the strikes of engines that failed
it stand (07 R155, R156; 08 R172). -/
def State.decodedOk (s : State) (i j : Nat) (sh : Sheet) (b : Band) (orig : List Byte) (redo : Bool) : State :=
  let s := (s.placeLines i j sh b orig).setBand i j fun b => { b with state := .decoded, verdicts := [] }
  strikes b.failedBy (if redo then s else s.release fun r => r.slot = i && r.idx = j)

/-- A failing verdict `v` (1 BLOCK_MALFORMED, 2 BLOCK_CRC): to another engine, or condemned when two agree or three have
failed (07 R156, 08 R167). A re-decode goes back with the deadline it had. -/
def State.failedBlock (s : State) (e i j v : Nat) (b : Band) (atOnce redo : Bool) : State :=
  let vs := b.verdicts ++ [(e, v)]
  if atOnce ∨ (b.verdicts.any fun x => x.2 = v) = true ∨ 3 ≤ (vs.filter fun x => x.2 < 3).length then
    s.condemn i j (if v = 1 then St.BLOCK_MALFORMED else St.BLOCK_CRC) redo
  else if redo then
    ({ s with feed := { s.feed with redo := s.feed.redo ++ [(i, j, (s.engine e).due)] } }).setBand i j fun b => { b with
      verdicts := vs }
  else s.setBand i j fun b => { b with state := .staged, verdicts := vs }

def Verdict.code : Verdict → Nat
  | .ok _ => 0 | .malformed => 1 | .badCrc => 2

/-- What an engine returns for a block: first DOTS is checked against the live line length; `fault` is an engine that fails by itself, with
BLOCK_CRC when true and BLOCK_MALFORMED when false (07 R154, R156). -/
def engineVerdict (b : Band) (dots : Nat) (fault : Option Bool) : Verdict :=
  if (readHeader b.block).dots ≠ dots then .malformed
  else match fault with
    | none => decodeBlock b.block
    | some true => .badCrc
    | some false => .malformed

/-- A wrong DOTS condemns the block at once (07 R154). Staged bytes of a re-decode that are no longer intact are asked for again (18
R381). -/
def execEngineVerdict (engine : Nat) (fault : Option Bool) (tick : Nat) (s : State) : Result :=
  whileUp s fun s =>
    match (s.engine engine).job with
    | none => s
    | some (i, j) =>
      let redo := (s.engine engine).redo
      let s := (s.at tick).setEngine engine fun E => { E with job := none, redo := false }
      match s.sheet? i, s.band? i j with
      | some sh, some b =>
        if redo && b.block = [] then s.askAgain i j St.UNINIT_OR_CORRUPT
        else
          let v := engineVerdict b (s.lineDots b.station) fault
          let s := s.traceEngine engine 1 v.code i j
          match v with
          | .ok orig => s.decodedOk i j sh b orig redo
          | v => s.failedBlock engine i j v.code b ((readHeader b.block).dots ≠ s.lineDots b.station) redo
      | _, _ => s

/-! Data requests (08 R172). -/

/-- The next request, in deadline order over all stations, once the ring has room for it. -/
def execDataRequestPost (tick : Nat) (s : State) : Result :=
  whileLeads s fun s =>
    let s := s.at tick
    match s.inOrder fun b => b.state = .waiting with
    | [] => s
    | x :: _ =>
      match s.band? x.2.1 x.2.2 with
      | none => s
      | some b =>
        if s.pair.role ≠ .shadow ∧ s.ringRoom b.space = true then
          match b.again with
          | some st => s.postRequest x.2.1 x.2.2 1 (if st = St.OK then 0 else st)
          | none => s.postRequest x.2.1 x.2.2 0 0
        else s

end Sys2Proof.Machine
end

