-- ==== Sys2Proof/Machine/Memory.lean ====
section
/-! DEFINITION. Memory integrity (18): lines whose check fails, their sources and corrections, the scrubber, INIT_MEMORY, and the
commands that keep plans and trim in buffer memory (11 R228-R230, 12 R248, R249). -/

namespace Sys2Proof.Machine

/-- Lines of buffer memory (18 R373). -/
def bufferLines : Nat := 2031616

/-! Where a line lies (08 R162). -/

/-- The station and the ring position of an address of the WINDOW region, and the window line held there. -/
def State.windowAt (s : State) (a : Nat) : Option (Nat × WinLine) :=
  ((List.range 5).find? fun n => s.windowBase n ≤ a && a < s.windowBase (n + 1)).bind fun n =>
    if s.lineBytes n = 0 ∨ s.capacity n = 0 then none
    else ((s.station n).window.find? fun w => w.line % s.capacity n = (a - s.windowBase n) / s.lineBytes n).map fun w => (n, w)

/-- The slot and index of the band that holds a window line. -/
def State.bandOf (s : State) (n : Nat) (w : WinLine) : Option (Nat × Nat) :=
  ((s.slotsWhere fun sh => sh.id = w.sheetId).head?).bind fun i =>
    (s.sheet? i).bind fun sh =>
      (sh.bands.findIdx? fun b => b.station = n && b.first ≤ w.line && w.line < b.first + b.lines).map fun j => (i, j)

/-- The held block of the staging region that an address lies in. -/
def State.blockAt (s : State) (a : Nat) : Option (Nat × Nat) :=
  (s.feed.ring.find? fun r => !r.released && r.ofs ≤ a - s.stagingBase && a - s.stagingBase < r.ofs + r.length &&
    (match s.band? r.slot r.idx with | some b => b.state = .staged || b.state = .decoding | none => false)).map fun r =>
      (r.slot, r.idx)

/-- The station and the emitter of a line of the trim master. -/
def trimOwner (line : Nat) : Option (Nat × Nat) :=
  let c := (64 * line - 0x800000) / 32768
  if c < 170 then some (c / 34, c % 34) else none

/-- The other copy of what a plan line or a slot-state line holds fails as well (18 R379, R380). -/
def State.twinFails (s : State) (line : Nat) : Bool :=
  s.mem.failing.any fun f => f.1 ≠ line &&
    match Config.planLine line, Config.planLine f.1 with
    | some (n, i, c), some (m, j, d) => 0x600000 ≤ 64 * line && 64 * line < 0x800000 && 0x600000 ≤ 64 * f.1 && 64 * f.1 < 0x800000 &&
        n = m && i = j && c ≠ d
    | _, _ => false

def State.slotTwinFails (s : State) (line : Nat) : Bool :=
  s.mem.failing.any fun f => f.1 ≠ line && 0x200000 ≤ 64 * f.1 && 64 * f.1 < 0x600000 &&
    (Config.journalLine line).1 = 0 && (Config.journalLine f.1).1 = 0 &&
    (Config.journalLine line).2.1 = (Config.journalLine f.1).2.1 && (Config.journalLine line).2.2 ≠ (Config.journalLine f.1).2.2

/-- The station's trim bank holds a line of the trim master, and its words there are good. -/
def State.bankHolds (s : State) (n e line : Nat) : Bool :=
  let w := (64 * line - 0x800000 - 34 * 32768 * n) / 16
  (s.station n).powered && (s.pipe n).trimLoaded.getD e false &&
    (List.range 4).all fun k => !(s.pipe n).trimBad.contains (w + k) && !(s.pipe n).trimStuck.contains (w + k)

/-- The source code of R379 that a failing line is corrected from, 0xFF for none. A part of a region that holds nothing is
rewritten as zeros. -/
def State.sourceOf (s : State) (line : Nat) : Nat :=
  let a := 64 * line
  if a < 0x200000 then (if s.boot.patchValid && s.nv.readable then 1 else 0xFF)
  else if a < 0x600000 then
    (match (Config.journalLine line).1 with
      | 0 => if s.slotTwinFails line then 0xFF else 2
      | 1 => if s.pair.synced then 6 else 5
      | _ => 0)
  else if a < 0x800000 then
    (match Config.planLine line with
      | none => if s.bandCopy.isSome then 1 else 0xFF
      | some _ => if s.twinFails line then 0xFF else 2)
  else if a < 0x1000000 then
    (match trimOwner line with
      | none => 0
      | some (n, e) =>
        if s.bankHolds n e line then 3
        else if !s.mem.changed.getD (34 * n + e) false && s.trimCopy.isSome then 1 else 0xFF)
  else if a < s.scratchBase then
    (match s.windowAt a with
      | none => 0
      | some (n, w) =>
        match (s.bandOf n w).bind fun x => s.band? x.1 x.2 with
        | some b => if b.block = [] then 5 else 4
        | none => 0)
  else if a < s.stagingBase then 0xFF
  else if (s.blockAt a).isSome then 5 else 0

/-! What a failing line does at once. -/

/-- A line that no source can correct: the event, the count, and what R380 says follows. -/
def State.uncorrectable (s : State) (line : Nat) : State :=
  let s := { s with mem := { s.mem with
    uncorrectable := satAdd 0xFFF s.mem.uncorrectable 1, lastLine := line, lastSource := 0xFF } }
  let s := s.raise Ev.MEM_CORRECTED 0xFF 0xFF (leBytes 4 line ++ leBytes 1 0xFF)
  let a := 64 * line
  if a < 0x200000 then { s with boot := { s.boot with patchValid := false } }
  else if a < 0x600000 then
    (match Config.journalLine line with
      | (0, i, _) => (s.setSheet i fun sh => { sh with jammed := true }).close i
      | _ => s)
  else if a < 0x800000 then
    (match Config.planLine line with
      | some (n, i, _) => s.setPlans n fun P => { P with slots := P.slots.modify i fun x => { x with valid := false } }
      | none => s)
  else s

/-- The window lines that a failing line damages are not present until they are decoded again (18 R378, R381). -/
def State.spoilWindow (s : State) (line deadline : Nat) (again : Bool) : State :=
  match s.windowAt (64 * line) with
  | none => s
  | some (n, w) =>
    let s := s.setStation n fun st => { st with window := st.window.map fun x =>
      if x.sheetId = w.sheetId && x.line = w.line then { x with bad := true } else x }
    match s.bandOf n w with
    | none => s
    | some (i, j) =>
      if again then
        s.setBand i j fun b => if b.state = .decoded then { b with state := .waiting, again := some St.UNINIT_OR_CORRUPT } else b
      else if s.feed.redo.any fun r => r.1 = i && r.2.1 = j then s
      else { s with feed := { s.feed with redo := s.feed.redo ++ [(i, j, (deadline : Int))] } }

/-- A failing line of a held staged block drops the block, without a strike (08 R169). -/
def State.dropBlock (s : State) (a : Nat) : State :=
  match s.blockAt a with
  | none => s
  | some (i, j) => (s.dropJobs fun x => x = (i, j)).askAgain i j St.UNINIT_OR_CORRUPT

/-- The check of a line: over its 64 data bytes and its index (18 R374). -/
def lineCheck (line : Nat) (data : List Byte) : Nat := (crcT10 (data ++ leBytes 4 line)).toNat

/-- A read finds that a line fails its check. -/
def State.lineFails (s : State) (line deadline : Nat) : State :=
  if s.mem.failing.any fun f => f.1 = line then s
  else
    let src := s.sourceOf line
    let s := { s with mem := { s.mem with failing := s.mem.failing ++ [(line, src)] } }
    if src = 0xFF then s.uncorrectable line
    else if 0x1000000 ≤ 64 * line ∧ 64 * line < s.scratchBase ∧ (src = 4 ∨ src = 5) then s.spoilWindow line deadline (src = 5)
    else if s.stagingBase ≤ 64 * line ∧ src = 5 then s.dropBlock (64 * line)
    else s

/-- An engine that re-decodes meets a failing line: the staged bytes are no longer intact (18 R381). -/
def State.redoFails (s : State) (e : Nat) : State :=
  match (s.engine e).job with
  | some (i, j) =>
    if (s.engine e).redo then
      (s.setEngine e fun E => { E with job := none, redo := false }).askAgain i j St.UNINIT_OR_CORRUPT
    else s
  | none => s

/-- A lookahead finds its line one sweep before the retrace it is needed at (18 R381). -/
def State.readerDeadline (s : State) : MemReader → Nat
  | .lookahead n => s.now + (s.fineTicks n (s.sweepFine n)).toNat
  | _ => s.now

/-- The lookahead reads only while LOOKAHEAD_EN is set (18 R381). -/
def State.reads (s : State) : MemReader → Bool
  | .lookahead _ => s.on Fld.LOOKAHEAD_EN
  | _ => true

/-- A read brings 64 data bytes and a check that do not belong together (18 R378). -/
def execMemCheckFail (line : Nat) (data : List Byte) (check : Nat) (reader : MemReader) (tick : Nat) (s : State) : Result :=
  whileUp s fun s =>
    if s.modes.memReady = true ∧ line < bufferLines ∧ lineCheck line data ≠ check ∧ s.reads reader = true then
      let s := s.at tick
      let s := match reader with
        | .engine e => s.redoFails e
        | _ => s
      s.lineFails line (s.readerDeadline reader)
    else s

/-! Corrections (18 R379). -/

/-- Cells of the trim master rewritten from a bank or from flash. -/
def State.masterFrom (s : State) (line : Nat) (src : List Host.Cell) : State :=
  { s with mem := { s.mem with master := replaceCells (64 * line - 0x800000) 64 src s.mem.master } }

/-- A line is rewritten from its source. Lines of blocks wait for their decode, which corrects them (ENGINE_VERDICT), unless
nothing holds them any longer. -/
def State.correctLine (s : State) (line : Nat) : State :=
  match s.mem.failing.find? fun f => f.1 = line with
  | none => s
  | some (_, src) =>
    let a := 64 * line
    if src = 0xFF then s
    else if 0x1000000 ≤ a ∧ a < s.scratchBase ∧ (s.windowAt a).isSome = true then s
    else if 0x1000000 ≤ a ∧ a < s.scratchBase then s.corrected line 0
    else
      let s :=
        if 0x200000 ≤ a ∧ a < 0x600000 ∧ src = 0 then
          let k := (Config.journalLine line).2.1
          { s with trace := { s.trace with records := s.trace.records.mapIdx fun i r =>
            if k ≤ i && i < k + 4 then ⟨0, 0, 0, []⟩ else r } }
        else if 0x800000 ≤ a ∧ a < 0x1000000 then
          (match trimOwner line with
            | none => s
            | some (n, _) =>
              if src = 3 then
                let lo := a - 0x800000 - 34 * 32768 * n
                s.masterFrom line (moveCells lo 64 (a - 0x800000) (s.pipe n).trim)
              else s.masterFrom line (moveCells (a - 0x800000) 64 (a - 0x800000) ((s.trimCopy).getD [])))
        else s
      s.corrected line src

def execLineCorrected (line tick : Nat) (s : State) : Result :=
  whileUp s fun s => (s.at tick).correctLine line

/-- The scrubber reads its next line, data and check (18 R382). -/
def execScrubStep (data : List Byte) (check : Nat) (s : State) : Result :=
  whileUp s fun s =>
    if s.modes.memReady && !s.feed.shedLoad && s.imm Fld.SCRUB_PERIOD ≠ 0 then
      let line := s.mem.position
      let s := if lineCheck line data = check then s else s.lineFails line s.now
      let wraps := line + 1 = bufferLines
      { s with mem := { s.mem with
        position := if wraps then 0 else line + 1, passes := if wraps then satAdd 0x7FF s.mem.passes 1 else s.mem.passes } }
    else s

/-- Bands whose index entries stand on the line from entry `k` on, 3 bytes each (08 R171). -/
def shedIndex (k j : Nat) (b : Band) : Band :=
  if k ≤ j && j < k + 22 && b.unstaged then { b with state := .shed } else b

/-- The effect of a band index that cannot be read again (18 R380): a sheet before its Hinge closes HELD; past it, the bands of
that line are not to be had. -/
def State.indexLost (s : State) (line : Nat) : State :=
  match Config.journalLine line, s.mem.failing.find? fun f => f.1 = line with
  | (1, i, k), some (_, src) =>
    if src = 0xFF ∨ 64 * line < 0x200000 ∨ 0x600000 ≤ 64 * line then s
    else
      let marked := s.mem.failing.map fun (f : Nat × Nat) => if f.1 = line then (line, 0xFF) else f
      let s := { s with mem := { s.mem with failing := marked } }
      let s := s.uncorrectable line
      match s.sheet? i with
      | none => s
      | some sh =>
        if !sh.pastHinge then s.close i
        else s.setSheet i fun x => { x with bands := x.bands.mapIdx (shedIndex k) }
  | _, _ => s

/-! INIT_MEMORY and MEM_STATUS (08 R163; 18 R376, R386). -/

/-- The requested allocation: windows, then scratch, values above 8 acting as 8 (08 R179). -/
def State.requestedMiB (s : State) : List Nat :=
  [Fld.WIN0, Fld.WIN1, Fld.WIN2, Fld.WIN3, Fld.WIN4].map s.imm ++ [min 8 (s.imm Fld.SCRATCH)]

def execInitMemory (p : Packet) (s : State) : Result :=
  command Op.INIT_MEMORY .owner p (fun s =>
    [inModes s fun m => m = .standby || m = .service, (s.modes.initBusy, St.TARGET_BUSY), noTarget p, params p [],
      badParam (108 < s.requestedMiB.sum + 16)])
    (fun c s => { s.start { c with notes := s.requestedMiB } with modes := { s.modes with initBusy := true } }) s

/-- Every line is zeros: plans, trim master, windows and scratch hold nothing, the logs read as zeros. -/
def State.zeroed (s : State) : State :=
  { s with
    mem := { s.mem with failing := [], position := 0, passes := 0, master := [], resident := List.replicate 170 false,
                        changed := List.replicate 170 false },
    dma := { s.dma with scratch := [], written := [] },
    trace := { s.trace with records := s.trace.records.map fun _ => ⟨0, 0, 0, []⟩ },
    stations := s.stations.map fun st => { st with
      window := [], plans := { st.plans with slots := List.replicate 36 .reset } },
    feed := { s.feed with ring := [], ringHead := 0 } }

/-- Memory is written: the allocation is live, MEM_READY is set, and the overlays' copy begins. -/
def execInitMemoryDone (s : State) : Result :=
  whileUp s fun s =>
    match s.running.find? fun c => c.op = Op.INIT_MEMORY with
    | none => s
    | some c =>
      let s := s.zeroed
      let s := { s with
        feed := { s.feed with winMiB := c.notes.take 5, scratchMiB := c.notes.getD 5 0 },
        modes := { s.modes with initBusy := false, memReady := true, overlays := false } }
      finish c.seq St.OK 0 s

/-- The tables and overlays of the running patch stand in FIRMWARE. -/
def execOverlayCopyDone (s : State) : Result :=
  whileUp s fun s => if s.modes.memReady then { s with modes := { s.modes with overlays := true } } else s

/-- SYS_MEM_CNT, SYS_MEM_LAST and STNn_TRIM_STAT (18 R386). -/
def State.memCnt (s : State) : Nat := s.mem.corrected + 2 ^ 12 * s.mem.superseded + 2 ^ 20 * s.mem.uncorrectable
def State.memLast (s : State) : Nat := s.mem.lastLine + 2 ^ 24 * s.mem.lastSource
def State.trimStat (s : State) (n : Nat) : Nat :=
  (s.pipe n).parityErrs + 2 ^ 16 * (s.pipe n).reloadCnt + 2 ^ 24 * min 0xFF (s.pipe n).trimStuck.length

def execMemStatus (p : Packet) (s : State) : Result :=
  let k := par p 0 1
  command Op.MEM_STATUS .observer p (fun s =>
    [(k = 2 && (stationOn s p).1, St.DOMAIN_OFF), (if k = 2 then targetBelow p 5 else noTarget p), params p [(0, 1)],
      badParam (2 < k)])
    (fun c s => complete c St.OK (if k = 0 then s.memCnt else if k = 1 then s.memLast else s.trimStat p.target) s) s

/-! Plans (11 R228, R230). -/

/-- A switch that involves the slot waits for its boundary: a PLAN_SWITCH, the copy of an alternate, or the exchanges of a speed-changing
failover (11 R228, R230, R233, R236). -/
def State.slotBusy (s : State) (n slot : Nat) : Bool :=
  ((s.plans n).switchWait && slot < 2) ||
  (match (s.plans n).copying with | some c => slot = 0 || slot = 2 + c.emitter | none => false) ||
  (s.run.slowStep = 1 && (if n = s.run.slowStation then slot = 0 || slot = 2 + s.run.slowEmitter else s.running? n && slot < 2))

/-- The image that PLAN_LOAD names: from host memory, or an entry of the plan store. -/
def State.planImage (s : State) (p : Packet) : List Byte :=
  if par p 1 1 = 0 then (argBytes p).take (par p 0x0C 4) else s.storedPlan (par p 0x0C 4)

/-- RESULT of PLAN_LOAD (11 R228). -/
def State.loadResult (s : State) (n : Nat) (q : Plan) : Nat :=
  q.n + 64 * q.passes + (if q.n = s.run.runN then 0 else 512) + 2 ^ 16 * q.reach (s.headOfs n)

/-- An image is judged and put into a slot; an invalid one leaves the slot's content as it was, but the slot is resident from
then on (18 R377). -/
def State.loadPlan (s : State) (n slot : Nat) (b : List Byte) (length : Nat) : State × Option (Nat × Nat) :=
  let s := s.setPlans n fun P => { P with slots := P.slots.modify slot fun x => { x with resident := true } }
  match s.judgePlan n slot b length with
  | some r => (s, some r)
  | none =>
    let s := s.overwrite fun l => 0x600000 ≤ 64 * l && 64 * l < 0x800000 &&
      (match Config.planLine l with | some (m, i, _) => m = n && i = slot | none => false)
    let s := s.setPlans n fun P => { P with
      slots := P.slots.set slot ⟨some (readPlan b), true, true⟩, source := if slot = 0 then 0 else P.source }
    (s.mirrorOn (.config (.plan n slot b)), none)

def execPlanLoad (p : Packet) (s : State) : Result :=
  let slot := par p 0 1
  let host := par p 1 1 = 0
  command Op.PLAN_LOAD .owner p (fun s =>
    [(slot = 0 && !(s.mode = .standby || s.mode = .service), St.WRONG_MODE), needInit s, stationOn s p,
      (p.target < 5 && s.slotBusy p.target slot, St.TARGET_BUSY), targetBelow p 5, params p [(0, 2), (4, 8), (0x0C, 4)],
      badParam (35 < slot || 1 < par p 1 1 || par p 4 8 % 4 ≠ 0 || (!host && (par p 4 8 ≠ 0 || 179 < par p 0x0C 4))),
      (if host then argsFailed p (par p 0x0C 4) else (false, 0))])
    (fun c s =>
      let b := s.planImage p
      if !host ∧ b = [] then
        let s := s.setPlans p.target fun P => { P with slots := P.slots.modify slot fun x => { x with resident := true } }
        complete c St.PLAN_INVALID 0 (s.planDiag p.target 0x0C slot 0)
      else
        match s.loadPlan p.target slot b (if host then par p 0x0C 4 else b.length) with
        | (s, some (r, d)) => complete c St.PLAN_INVALID 0 (s.planDiag p.target r slot d)
        | (s, none) => complete c St.OK (s.loadResult p.target (readPlan b)) s) s

/-- PLAN_SWITCH: at once in STANDBY and SERVICE, else at an end of active scan. `notes` holds when it gives up. -/
def execPlanSwitch (p : Packet) (s : State) : Result :=
  command Op.PLAN_SWITCH .owner p (fun s =>
    [needInit s, stationOn s p, (p.target < 5 && (s.plans p.target).switchWait, St.TARGET_BUSY), targetBelow p 5, params p []])
    (fun c s =>
      if s.planUnreadable p.target 0 || s.planUnreadable p.target 1 then complete c St.UNINIT_OR_CORRUPT 0 s
      else
        match s.switchBad p.target with
        | some (st, r, d) => complete c st 0 (if r = 0 then s else s.planDiag p.target r 1 d)
        | none =>
          if s.mode = .standby ∨ s.mode = .service then complete c St.OK 0 (s.exchange p.target)
          else
            (s.start { c with notes := [s.now + ms (s.imm Fld.TUMBLER_TIMEOUT)] }).setPlans p.target fun P => { P with
              switchWait := true }) s

/-! Trim (12 R248, R249). -/

/-- The failing lines under an emitter's cells of the trim master. -/
def State.failingTrim (s : State) (n e : Nat) : List (Nat × Nat) :=
  s.mem.failing.filter fun f => 0x800000 ≤ 64 * f.1 && 64 * f.1 < 0x1000000 && trimOwner f.1 = some (n, e)

def correctLines : List (Nat × Nat) → State → State
  | [], s => s
  | f :: fs, s => correctLines fs (s.correctLine f.1)

/-- The command plane waits for what can be corrected (18 R378). -/
def correctTrims (n : Nat) : List Nat → State → State
  | [], s => s
  | e :: es, s => correctTrims n es (correctLines (s.failingTrim n e) s)

def trimModes (m : Mode) : Bool := m = .standby || m = .ready || m = .service

/-- The emitters of a mask, every one for 0. -/
def maskEmitters (m : Nat) : List Nat := if m = 0 then List.range 34 else maskList m 34

def execTrimLoad (p : Packet) (s : State) : Result :=
  let es := maskEmitters (par p 0 5)
  command Op.TRIM_LOAD .owner p (fun s =>
    [inModes s trimModes, needInit s, stationOn s p, targetBelow p 5, params p [(0, 5)], badParam (2 ^ 34 ≤ par p 0 5)])
    (fun c s =>
      if es.any fun e => (s.failingTrim p.target e).any fun f => f.2 = 0xFF then complete c St.UNINIT_OR_CORRUPT 0 s
      else complete c St.OK es.length (loadTrims p.target es (correctTrims p.target es s))) s

def execTrimWrite (p : Packet) (s : State) : Result :=
  let e := par p 0 1
  let slot := par p 2 2
  let count := par p 4 4
  command Op.TRIM_WRITE .service p (fun s =>
    [inModes s trimModes, needInit s, targetBelow p 5, params p [(0, 1), (2, 2), (4, 4), (8, 8)],
      badParam (33 < e || 32767 < slot || count = 0 || 32768 < slot + count), argsFailed p count,
      badParam (((argBytes p).take count).any fun b => 64 ≤ b.toNat)])
    (fun c s =>
      if (s.failingTrim p.target e).any fun f => f.2 = 0xFF then complete c St.UNINIT_OR_CORRUPT 0 s
      else
        let n := p.target
        let cells := (argBytes p).take count
        let s := (correctTrims n [e] s).residentTrim n e
        let s := { s with mem := { s.mem with
          master := Store.putAll zeroByte s.mem.master (((List.range count).map (masterBase n e + slot + ·)).zip cells),
          changed := s.mem.changed.set (34 * n + e) true } }
        let s := if (s.station n).powered then
            s.setPipe n fun q => { q with trim := Store.putAll zeroByte q.trim (((List.range count).map (32768 * e + slot + ·)).zip cells) }
          else s
        let s := s.mirrorOn (.config (.trim n e slot cells))
        complete c St.OK count s) s

end Sys2Proof.Machine
end

