-- ==== Sys2Proof/Machine/Fixed.lean ====
section
/-! DEFINITION. Logarithm and exponential in fixed point with 64 fractional bits, for the thermistors (19 R400). The manual gives the
formulas over the reals and no rounding (log entry 40). -/

namespace Sys2Proof.Machine

/-- One, in fixed point. -/
def fx1 : Int := 2 ^ 64

/-- The sum z + z³/3 + z⁵/5 + … of `n` terms: `t` is the present power of z. -/
def atanhSum (z2 : Int) : Nat → Nat → Int → Int
  | 0, _, _ => 0
  | n + 1, k, t => t / (2 * k + 1 : Nat) + atanhSum z2 n (k + 1) (t * z2 / fx1)

/-- ln m for 1/2 < m < 2, as 2 atanh((m − 1)/(m + 1)). -/
def lnNear (num den : Int) : Int :=
  let z := (num - den) * fx1 / (num + den)
  2 * atanhSum (z * z / fx1) 45 0 z

def ln2 : Int := lnNear 2 1

/-- ln (a / b) for positive a and b. -/
def lnQ (a b : Nat) : Int :=
  let k : Int := (Nat.log2 a : Int) - Nat.log2 b
  (if 0 ≤ k then lnNear a (b * 2 ^ k.toNat) else lnNear (a * 2 ^ (-k).toNat) b) + k * ln2

/-- The sum 1 + r + r²/2! + … of `n` terms. -/
def expSum (r : Int) : Nat → Nat → Int → Int
  | 0, _, _ => 0
  | n + 1, k, t => t + expSum r n (k + 1) (t * r / fx1 / (k + 1 : Nat))

/-- e to the power y. -/
def expQ (y : Int) : Int :=
  let k := y / ln2
  let m := expSum (y - k * ln2) 30 0 fx1
  if 0 ≤ k then m * 2 ^ k.toNat else m / 2 ^ (-k).toNat

end Sys2Proof.Machine
end

