-- ==== Sys2Proof/Machine/RegBits.lean ====
section
/-! DEFINITION. What a write leaves in a register word: RW fields limited to their range (24 R496), RWS fields as written,
nothing anywhere else. -/

namespace Sys2Proof.Machine

/-- The value an RW field stores: the nearer limit of its range, rounded down to its step (24 R496). -/
def FieldDef.limit (f : FieldDef) (v : Nat) : Nat := min f.hi (max f.lo v) / f.step * f.step

/-- The stored bits of a word written to a register with these fields. -/
def storeWord : List FieldDef → Nat → Nat
  | [], _ => 0
  | f :: fs, w =>
    (match f.acc with
      | .rw => FieldDef.limit f (bitsOf w f.lsb f.width) <<< f.lsb
      | .rws => if f.mbz then 0 else bitsOf w f.lsb f.width <<< f.lsb
      | _ => 0) ||| storeWord fs w

/-- A word stored in a register, or in its shadow, by its fields. -/
def State.store (s : State) (a w : Nat) : State :=
  match posOf a with
  | none => s
  | some p => s.setReg a (BitVec.ofNat 32 (storeWord p.fields w))

end Sys2Proof.Machine
end

