-- ==== Sys2Proof/Machine/Loops.lean ====
section
/-! DEFINITION. The loop engine (15): its commands, one sample of a slot, the coefficient window, and the re-arming after a
LOOPS reset (05 R117). -/

namespace Sys2Proof.Machine

/-- TARGET names no slot. -/
def noSlot (p : Packet) : Bool × Nat := targetBelow p 24

/-! LOOP_LOAD (15 R321). -/

/-- The image's check fails, or a must-be-0 byte of it is set. -/
def badImage (b : List Byte) : Bool :=
  (crc32c (slice b 0 0x340)).toNat ≠ fieldAt b 0x340 4 || fieldAt b 0x18 4 ≠ 0

/-- Writes the six registers of an image into the shadow. -/
def loadRegs (b : List Byte) : List (Nat × Nat) → State → State
  | [], s => s
  | (i, a) :: l, s => loadRegs b l (s.store a (fieldAt b (4 * i) 4))

/-- A bank entry as it is stored: unused indices and bits read 0 (15 R320). DESIGN CHOICE: the manual says nothing of bits [31:20] of entry
0xB4; the model stores them as 0 (log entry 52). -/
def coefEntry (i v : Nat) : Word :=
  BitVec.ofNat 32 (if i = 0xAF ∨ (0xB5 ≤ i ∧ i ≤ 0xB7) then 0 else if i = 0xAE then v % 2 ^ 30
    else if i = 0xB4 then v % 2 ^ 20 else v)

/-- An image written into the shadow of slot `n`: six registers and 201 bank entries. -/
def State.loadImage (s : State) (n : Nat) (b : List Byte) : State :=
  let s := loadRegs b ((List.range 6).zip (groupRegs Grp.LOOP_COEF n)) s
  s.setLoop n fun L => { L with
    coefShadow := Store.putAll (fun _ => (0 : Word)) [] ((List.range 201).map fun i =>
      (i, coefEntry i (fieldAt b (0x1C + 4 * i) 4))) }

def execLoopLoad (p : Packet) (s : State) : Result :=
  command Op.LOOP_LOAD .owner p (fun s =>
    [inModes s (· ≠ .dormant), noSlot p, params p [(0, 8)],
      badParam (par p 0 4 % 4 ≠ 0), argsFailed p 836, badParam (badImage (argBytes p))])
    (fun c s => (s.loadImage p.target (argBytes p)).beginApply Grp.LOOP_COEF p.target c) s

/-! LOOP_CLOSE, LOOP_OPEN, PROFILE_RUN, LOOP_STATUS (15 R323, R324, R328, R330). -/

/-- A destination of the slot is not ready for it: a drive not in RUN, a zone or channel not enabled (15 R324). -/
def State.destUnready (s : State) (n : Nat) : Bool :=
  (List.range (s.liv (Fld.LOOP_NY n))).any fun k =>
    let d := s.loopOutput n k
    if d.1 = 1 then (s.drive d.2).state ≠ .run else !s.destOn d

def execLoopClose (p : Packet) (s : State) : Result :=
  command Op.LOOP_CLOSE .owner p (fun s =>
    [noHalt s, (p.target < 24 && (s.loop p.target).state ≠ .off && s.destUnready p.target, St.TARGET_BUSY), noSlot p,
      ((s.loop p.target).state = .off, St.BAD_TARGET), params p [(0, 1)], badParam (2 < par p 0 1)])
    (fun c s =>
      let s := finishWhere (fun d => d.op = Op.LOOP_CLOSE && d.p.target = p.target) (fun _ => St.ABORTED_HOST) (fun _ => 0) s
      (s.closeLoop p.target (par p 0 1)).start c) s

/-- Commands that end when their slot opens. -/
def openEnds (n : Nat) (c : Cmd) : Bool :=
  (c.op = Op.LOOP_CLOSE || c.op = Op.PROFILE_RUN) && c.p.target = n

/-- The slot delivers to a drive that runs. -/
def State.runsDrive (s : State) (n : Nat) : Bool :=
  (List.range (s.liv (Fld.LOOP_NY n))).any fun k =>
    let d := s.loopOutput n k
    d.1 = 1 && (s.drive d.2).state = .run

def execLoopOpen (p : Packet) (s : State) : Result :=
  command Op.LOOP_OPEN .owner p (fun s =>
    [(p.target < 24 && s.livOn (Fld.LOOP_EN p.target) && s.runsDrive p.target && s.mode ≠ .standby && s.mode ≠ .service,
        St.WRONG_MODE), noSlot p, params p [(0, 1)], badParam (1 < par p 0 1)])
    (fun c s =>
      let s := finishWhere (openEnds p.target) (fun _ => St.ABORTED_HOST) (fun _ => 0) (s.openLoop p.target (par p 0 1 = 1))
      complete c St.OK 0 s) s

/-- Some output of the slot goes to a drive. -/
def State.feedsDrive (s : State) (n : Nat) : Bool :=
  (List.range (s.liv (Fld.LOOP_NY n))).any fun k => (s.loopOutput n k).1 = 1

/-- Commands that a later move of the slot's reference replaces (15 R328). -/
def profileCmd (s : State) (n : Nat) (c : Cmd) : Bool :=
  (c.op = Op.PROFILE_RUN && c.p.target = n) || (c.op = Op.FUSER_SET && s.imm (Fld.FZ_SLOT c.p.target) = n)

def execProfileRun (p : Packet) (s : State) : Result :=
  command Op.PROFILE_RUN .owner p (fun s =>
    [(p.target < 24 && (s.liv (Fld.LOOP_REF_MODE p.target) ≠ 0 || s.feedsDrive p.target ||
        (s.loop p.target).state ≠ .closed), St.TARGET_BUSY), noSlot p, params p [(0, 4)]])
    (fun c s =>
      let s := finishWhere (profileCmd s p.target) (fun _ => St.ABORTED_HOST) (fun _ => 0) s
      (s.refMove p.target (s.profileMove p.target (parInt p 0 4))).start c) s

/-- The state code of LOOPn_STAT (15 R322). -/
def LoopState.code : LoopState → Nat
  | .off => 0 | .opened => 1 | .closed => 2 | .fenced => 3

/-- REF_STATE of LOOPn_STAT: idle, moving, following, taken over (15 R329, R330). -/
def State.refState (s : State) (n : Nat) : Nat :=
  match (s.loop n).take, (s.loop n).move with
  | .none, some _ => 1
  | .none, none => if (s.loop n).state = .off ∨ s.liv (Fld.LOOP_REF_MODE n) = 0 then 0 else 2
  | _, _ => 3

/-- LOOPn_STAT (15 R330). -/
def State.loopStat (s : State) (n : Nat) : Nat :=
  let L := s.loop n
  let pend := if (s.firstApply Grp.LOOP_COEF n).isSome then 8 else 0
  let sat := (List.range 4).foldl (fun m k => if L.sat.getD k 0 ≠ 0 then setBit m k else m) 0
  L.state.code + pend + 16 * sat + 256 * L.frozen + 65536 * s.refState n + if L.oscSeen then 2 ^ 18 else 0

def execLoopStatus (p : Packet) (s : State) : Result :=
  command Op.LOOP_STATUS .observer p (fun _ => [noSlot p, params p []])
    (fun c s => complete c St.OK (s.loopStat p.target) s) s

/-! One sample (15 R313-R329). -/

/-- The slot closes at this sample: FENCED on a SHADOW (15 R322, R324). -/
def State.closeNow (s : State) (n init : Nat) : State :=
  s.setLoop n fun L => { L with
    state := if s.pair.role = .shadow then .fenced else .closed, x := s.initStates n init, closeInit := none,
    oscSign := 0, reversals := [] }

/-- What the detector does when it fires (15 R325). A FENCED slot latches no halt. -/
def State.oscFired (s : State) (n : Nat) : State :=
  let s := s.raise Ev.LOOP_OSCILLATION n 0xFF [BitVec.ofNat 8 n]
  if s.on (Fld.LOOP_OSC_HALT n) ∧ (s.loop n).state ≠ .fenced then s.halt Halt.LOOP_OSCILLATION else s

/-- FUSER_ENABLE completes once the slot of every named zone has delivered (17 R366): its notes are the slots still
waited for. -/
def State.zonesDelivered (s : State) (n : Nat) : State :=
  let s := { s with running := s.running.map fun c =>
    if c.op = Op.FUSER_ENABLE then { c with notes := c.notes.filter (· ≠ n) } else c }
  finishWhere (fun c => c.op = Op.FUSER_ENABLE && c.notes.isEmpty) (fun _ => St.OK) (fun _ => 0) s

/-- The computation, delivery and reference step of a CLOSED or FENCED slot. A SYNCED LEAD sends what the slot latched
(20 R409); on the SHADOW a sample without LOOPIN is a divergence. -/
def State.runLoop (s : State) (n : Nat) : State :=
  let v := s.loopVector n
  let fenced := (s.loop n).state = .fenced
  let s := if s.syncedLead then s.mirror (.loopin n (v.take 4) (v.getD 4 0) (v.getD 5 0)) else s
  let s := if fenced ∧ (s.loop n).loopin = none then
    { s with pair := { s.pair with digestRun := s.pair.digestRun.set n 0, slots := clrBit s.pair.slots n } } else s
  let (s, osc) := s.computeLoop n
  let s := if s.trace.slot = n then s.record 7 n (leInt 4 ((s.loop n).u.getD 0 0) ++ leInt 4 ((s.loop n).x.getD 0 0)) else s
  let s := if fenced then s else deliverOutputs n (s.loop n).u (s.liv (Fld.LOOP_NY n)) s
  let s := finishWhere (fun c => c.op = Op.LOOP_CLOSE && c.p.target = n) (fun _ => St.OK) (fun _ => 0) s
  let s := s.zonesDelivered n
  let (s, done) := s.stepRef n
  let s := if done then finishWhere (profileCmd s n) (fun _ => St.OK) (fun _ => 0) s else s
  if osc then s.oscFired n else s

/-- The slot samples now (15 R318): on its time base at the multiples of SAMPLE, on a drive's with that drive's periods, which the command
counts. -/
def State.sampleDue (s : State) (n : Nat) : Bool :=
  s.livOn (Fld.LOOP_SYNC n) || s.now % us (s.liv (Fld.LOOP_SAMPLE n)) = 0

/-- A sample of a slot: a waiting apply lands before it, a destination that went off opens the slot, a LOOP_CLOSE that
waits for no apply takes effect. -/
def execLoopSample (slot tick : Nat) (s : State) : Result :=
  whileUp s fun s =>
    let s := s.at tick
    if bit s.resets.busy Fn.LOOPS || !s.sampleDue slot then s
    else
      let s := s.landGroup Grp.LOOP_COEF slot
      let L := s.loop slot
      if L.state = .off then s
      else if L.state = .closed ∧ s.destsOn slot = false then
        finishWhere (openEnds slot) (fun _ => St.ABORTED_HOST) (fun _ => 0) (s.openLoop slot false)
      else
        let s := match L.closeInit with
          | some i => if (s.firstApply Grp.LOOP_COEF slot).isNone ∧ s.destsOn slot = true then s.closeNow slot i else s
          | none => s
        if (s.loop slot).state = .opened then s else s.runLoop slot

/-! The coefficient window (15 R320, R330). -/

/-- INDEX after a write of COEF_DATA with AUTO_INC. DESIGN CHOICE: behind the last entry, 0xC8, the manual does not say where INDEX goes; the
model leaves it there (log entry 52). -/
def State.stepCoef (s : State) (n : Nat) : State :=
  if s.on (Fld.LOOP_AUTO_INC n) then s.setImm (Fld.LOOP_INDEX n) (min 200 (s.imm (Fld.LOOP_INDEX n) + 1)) else s

/-- A write of LOOPn_COEF_DATA: the addressed shadow entry. -/
def State.writeCoef (s : State) (n : Nat) (w : Word) : State :=
  let i := s.imm (Fld.LOOP_INDEX n)
  (s.setLoop n fun L => { L with coefShadow := Store.put (fun _ => (0 : Word)) L.coefShadow i (coefEntry i w.toNat) }).stepCoef n

/-- The slots whose 50 ms after a LOOPS reset are over, and those of them still open (05 R117). -/
def State.rearmOver (s : State) : List (Nat × Nat) := s.resets.rearm.filter fun r => r.2 + ms 50 ≤ s.now
def State.rearmLate (s : State) : Bool := s.rearmOver.any fun r => (s.loop r.1).state = .opened

/-- The duties that are over leave the list. -/
def State.endRearm (s : State) : State :=
  { s with resets := { s.resets with rearm := s.resets.rearm.filter fun r => s.now < r.2 + ms 50 } }

/-- A slot that was closed before a LOOPS reset is still open 50 ms after it: the safe-stop (05 R117). -/
def execLoopRearmExpiry (s : State) : Result :=
  whileUp s fun s =>
    match s.resets.rearm with
    | [] => s
    | r :: _ =>
      let s := s.at (r.2 + ms 50)
      if s.rearmLate then s.endRearm.halt Halt.LOOP_REARM else s.endRearm

end Sys2Proof.Machine
end

