-- ==== Sys2Proof/Machine/HvFuser.lean ====
section
/-! DEFINITION. High voltage and fuser (17): channel and zone commands, one set-point PWM period, settling and arcs, mains
crossings, band and rise checks. -/

namespace Sys2Proof.Machine

def noChannel (p : Packet) : Bool × Nat := targetBelow p 24

/-- A CLOSED slot delivers to the channel (15 R317, 17 R359). A channel that is being disabled takes its ramp to 0 instead (17
R360). -/
def State.hvSlot (s : State) (n : Nat) : Bool :=
  match s.slotFor 3 n with | some k => (s.loop k).state = .closed | none => false

/-- No enable may rise: a halt is latched, or a gate is asserted (17 R369). -/
def State.noRise (s : State) : Bool := s.modes.haltMask ≠ 0 || s.gated

/-- HV_SET commands waiting on a channel complete with a status. -/
def State.finishSets (s : State) (n st : Nat) : State :=
  finishWhere (fun c => c.op = Op.HV_SET && c.p.target = n) (fun _ => st) (fun _ => 0) s

def execHvSet (p : Packet) (s : State) : Result :=
  command Op.HV_SET .owner p (fun s =>
    [(p.target < 24 && s.hvSlot p.target, St.TARGET_BUSY), noChannel p, params p [(0, 4)],
      badParam (s.imm (Fld.HV_FULL p.target) < par p 0 2 || par p 2 2 = 0)])
    (fun c s =>
      let n := p.target
      let s := (s.setImm (Fld.HV_SET n) (par p 0 2)).setImm (Fld.HV_RAMP n) (par p 2 2)
      let s := s.finishSets n St.ABORTED_HOST
      if (s.hvCh n).en && !(s.hvCh n).disabling then (s.rampTo n (par p 0 2)).watchHold.start c else complete c St.OK 0 s) s

def execHvEnable (p : Packet) (s : State) : Result :=
  let on := bit (par p 3 1) 0
  command Op.HV_ENABLE .owner p (fun s =>
    [inModes s (fun m => m ≠ .dormant && (!on || m ≠ .standby)), (on && s.noRise, St.HALT_LATCHED), noTarget p,
      params p [(0, 4)], badParam (3 < par p 3 1)])
    (fun c s =>
      let chans := maskList (par p 0 3) 24
      if on then ((hvOnAll chans s).watchHold.start c).finishHv
      else if bit (par p 3 1) 1 then ((hvOffAll chans s).start c).finishHv
      else ((hvDownAll chans s).start c).finishHv) s

/-! Zones (17 R365, R366). -/

/-- The zones of a mask whose slot is OFF. -/
def State.zoneUnslotted (s : State) (m : Nat) : Bool :=
  (maskList m 4).any fun z => (s.loop (s.imm (Fld.FZ_SLOT z))).state = .off

/-- The set-point WHICH names is the one in force (17 R366). -/
def State.setInForce (s : State) (which : Nat) : Bool := (s.mode = .standby) = (which = 1)

def execFuserSet (p : Packet) (s : State) : Result :=
  command Op.FUSER_SET .owner p (fun s =>
    [inModes s (· ≠ .dormant), targetBelow p 4, params p [(0, 5)],
      badParam (1 < par p 4 1 || parInt p 0 4 < -32768 || 32767 < parInt p 0 4)])
    (fun c s =>
      let z := p.target
      let n := s.imm (Fld.FZ_SLOT z)
      let s := s.setImm (if par p 4 1 = 0 then Fld.FZ_RUN z else Fld.FZ_STBY z) (par p 0 2)
      if s.setInForce (par p 4 1) && (s.zone z).enabled then
        let s := finishWhere (profileCmd s n) (fun _ => St.ABORTED_HOST) (fun _ => 0) s
        let s := s.moveZone z
        if (s.zone z).enabled then s.start c else complete c St.OK 0 s
      else complete c St.OK 0 s) s

def execFuserEnable (p : Packet) (s : State) : Result :=
  let on := bit (par p 1 1) 0
  command Op.FUSER_ENABLE .owner p (fun s =>
    [(on && s.noRise, St.HALT_LATCHED), noTarget p, (on && s.zoneUnslotted (par p 0 1), St.BAD_TARGET), params p [(0, 2)],
      badParam (15 < par p 0 1 || 1 < par p 1 1)])
    (fun c s =>
      let zs := maskList (par p 0 1) 4
      let same (d : Cmd) : Bool := d.op = Op.FUSER_ENABLE && zs.any fun z => bit (par d.p 0 1) z
      let s := finishWhere same (fun _ => St.ABORTED_HOST) (fun _ => 0) s
      if on then
        let s := (zonesOn zs s).watchHold
        let slots := (zs.filter fun z => (s.zone z).enabled).map fun z => s.imm (Fld.FZ_SLOT z)
        if slots.isEmpty then complete c St.OK 0 s else s.start { c with notes := slots }
      else complete c St.OK 0 (zonesOff zs s)) s

/-! Status words (17 R372, 14 R312, 21 R441). -/

/-- HVn_STAT; POL only sets the sign of the reading (17 R357). -/
def State.hvStat (s : State) (n : Nat) : Nat :=
  let h := s.hvCh n
  (if s.on (Fld.HV_POL n) then unsigned 16 (-(h.mon : Int)) else h.mon % 2 ^ 16) + flag h.en 16 + flag h.settled 17 +
    flag h.fault 18

/-- FZn_STAT. -/
def State.zoneStat (s : State) (z : Nat) : Nat :=
  let Z := s.zone z
  min (s.zoneP z) 2047 + flag Z.firing 11 + flag Z.inBand 12 + flag Z.fault 13

/-- SYS_SUPPLY_STAT. -/
def State.supplyStat (s : State) : Nat :=
  s.supply.vin % 4096 + flag s.supply.warning 12 + flag s.supply.vinHigh 13 + 65536 * s.supply.warnings

/-- SYS_BUS_STAT. -/
def State.busStat (s : State) : Nat :=
  s.bus.vbus % 4096 + flag s.bus.gate 12 + 8192 * (s.bus.chopper % 4) + flag s.bus.noRegen 15 + 65536 * (s.bus.brkI % 65536)

def execSupplyStatus (p : Packet) (s : State) : Result :=
  command Op.SUPPLY_STATUS .observer p (fun _ =>
    let k := par p 0 1
    [((k < 2 && p.target ≠ 0xFFFF) || (k = 2 && 24 ≤ p.target) || (k = 3 && 4 ≤ p.target), St.BAD_TARGET),
      params p [(0, 1)], badParam (3 < k)])
    (fun c s =>
      let k := par p 0 1
      complete c St.OK (if k = 0 then s.supplyStat else if k = 1 then s.busStat else if k = 2 then s.hvStat p.target
        else s.zoneStat p.target) s) s

/-! A set-point PWM period (17 R357, R360, R361). -/

/-- Since when the monitor has been within TOL of T after a ramp (17 R361). -/
def State.judgeHv (s : State) (n : Nat) : State :=
  let ok := s.hvWithin n
  s.setHv n fun h => { h with
    inSince := if h.rampEnd.isNone || !ok then none else h.inSince <|> some s.now }

/-- The tick at which a ramp reaches its end. -/
def Hv.rampDone (h : Hv) : Option (Nat × Nat) :=
  h.ramp.map fun r => (r.1, h.rampAt + (((r.1 : Int) - h.t).natAbs * 100000 + (r.2 - 1)) / max 1 r.2)

/-- A ramp that has reached its end: T stands, and a channel being disabled loses its enable (17 R360). -/
def State.endRamp (s : State) (n : Nat) : State :=
  match (s.hvCh n).rampDone with
  | none => s
  | some (v, t) =>
    if s.now < t then s
    else
      let s := s.setHv n fun h => { h with t := v, ramp := none, rampEnd := some t, inSince := none }
      if (s.hvCh n).disabling then (s.hvOff n).finishHv else s

/-- The correction in 1/256 code, and the duty of 12 bits (17 R357). -/
def State.hvDuty (s : State) (n : Nat) : State :=
  let h := s.hvCh n
  let t := h.targetAt s.now
  let lim : Int := 256 * s.imm (Fld.HV_CORR_MAX n)
  let corr := if s.on (Fld.HV_REG_EN n) then clampInt (-lim) lim (h.corr + s.imm (Fld.HV_KI n) * ((t : Int) - h.mon)) else 0
  let duty := (clampInt 0 4095 (divOpen (t * 4095) (s.imm (Fld.HV_FULL n)) + corr / 256)).toNat
  s.setHv n fun h => if h.arcPause then { h with duty := 0 } else { h with corr := corr, duty := duty }

def execHvPwmPeriod (channel tick : Nat) (s : State) : Result :=
  whileUp s fun s =>
    let s := s.at tick
    if (s.hvCh channel).en = false ∨ bit s.resets.busy Fn.AFE = true ∨ bit s.resets.busy Fn.HV = true then s
    else
      let s := if s.hvSlot channel && !(s.hvCh channel).disabling then s.setHv channel fun h => { h with ramp := none }
        else s.endRamp channel
      if (s.hvCh channel).en then (s.hvDuty channel).judgeHv channel else s

/-- The monitor has stayed within TOL for 1 ms after the ramp's end (17 R361). -/
def execHvSettled (channel : Nat) (s : State) : Result :=
  whileUp s fun s =>
    let h := s.hvCh channel
    match h.rampEnd, h.inSince with
    | some e, some i =>
      if h.settled || h.arcPause then s
      else
        let s := (s.at (max e i + ms 1)).setHv channel fun h => { h with settled := true }
        (s.finishSets channel St.OK).finishHv
    | _, _ => s

/-- FAULT of a channel, and the safe-stop it starts (17 R361). -/
def State.hvFails (s : State) (n : Nat) : State := (s.hvFault n).halt Halt.SUPPLY_FAULT

def execHvSettleTimeout (channel : Nat) (s : State) : Result :=
  whileUp s fun s =>
    match (s.hvCh channel).rampEnd with
    | some e =>
      if (s.hvCh channel).settled || (s.hvCh channel).fault then s
      else (s.at (e + ms (s.imm (Fld.HV_SETTLE channel)))).hvFails channel
    | none => s

/-! Arcs (17 R362, R363). -/

/-- The sheets that a channel's causes belong to (17 R363). -/
def State.served (s : State) (n : Nat) : List Nat :=
  let v := s.imm (Fld.HV_SERVE n)
  if v < 5 then s.imagedOn v
  else if v = 5 then s.slotsWhere fun sh => sh.state = .imaging || sh.state = .finishing
  else if v = 6 then s.slotsWhere fun sh => sh.state = .finishing
  else []

/-- The monitor of a scan frame is an arc of its channel. -/
def State.isArc (s : State) (n mon : Nat) : Bool :=
  let h := s.hvCh n
  let t := h.targetAt s.now
  h.en && h.settled && h.ramp.isNone && !h.arcPause && s.imm (Fld.HV_ARC_DEV n) * t < 256 * ((mon : Int) - t).natAbs

/-- An arc found in the frame stamped `time`. -/
def State.arc (s : State) (n mon time : Nat) : State :=
  let times := ((s.hvCh n).arcTimes.filter fun x => time < x + sec 1) ++ [time]
  let s := s.setHv n fun h => { h with
    arcPause := true, duty := 0, settled := false, rampEnd := none, inSince := none, arcs := satAdd 0xFFFF h.arcs 1,
    arcTimes := times }
  let s := s.watchHold
  let s := s.raiseAt Ev.HV_ARC n 0xFF (leBytes 2 mon) time
  let s := stampAll Cause.HV_ARC time (s.served n) s
  if s.imm (Fld.HV_ARC_LIMIT n) ≤ times.length then s.hvFails n else s

/-- The pause of ARC_OFF ends: T ramps back from 0 under the latched rate. -/
def execArcOffExpiry (channel : Nat) (s : State) : Result :=
  whileUp s fun s =>
    let h := s.hvCh channel
    if !h.arcPause then s
    else
      let s := s.at (h.arcTimes.getLastD s.now + ms (s.imm (Fld.HV_ARC_OFF channel)))
      let toward := match h.ramp with | some r => r.1 | none => h.t
      let s := s.setHv channel fun h => { h with arcPause := false }
      if s.hvSlot channel then s
      else (s.setHv channel fun h => { h with t := 0, ramp := none }).rampAt channel toward h.lastRate

/-! The mains (17 R364). -/

/-- A crossing, accepted when its half-period is 7.69 to 11.11 ms. One that comes sooner is ignored. -/
def execZeroCrossing (tick : Nat) (s : State) : Result :=
  whileUp s fun s =>
    let s := s.at tick
    let d := tick - s.safety.lastEdge
    if d < 769000 then s
    else
      let s := { s with safety := { s.safety with lastEdge := tick } }
      if 1111000 < d then s
      else
        let s := { s with safety := { s.safety with lastZc := tick, zcLost := false, halfUs := d / 100 } }
        if bit s.resets.busy Fn.FUSER then s else crossZones (List.range 4) s

def execZcLost (s : State) : Result :=
  whileUp s fun s =>
    if s.safety.zcLost then s
    else
      let s := s.at (s.safety.lastZc + ms 25)
      { s with safety := { s.safety with zcLost := true, timerAt := s.now } }

/-- The device's own 10.000 ms timer, until crossings return. -/
def execHalfCycleTimer (s : State) : Result :=
  whileUp s fun s =>
    if !s.safety.zcLost then s
    else
      let s := s.at (s.safety.timerAt + ms 10)
      let s := { s with safety := { s.safety with timerAt := s.now } }
      if bit s.resets.busy Fn.FUSER then s else crossZones (List.range 4) s

/-! Faults and bands of zones (17 R367, R368). -/

/-- FAULT of a zone: KAn stops, the commands waiting on it complete, a safe-stop starts. -/
def State.zoneFails (s : State) (z : Nat) : State :=
  let waits (c : Cmd) : Bool :=
    (c.op = Op.FUSER_SET && c.p.target = z) || (c.op = Op.FUSER_ENABLE && bit (par c.p 1 1) 0 && bit (par c.p 0 1) z)
  (finishWhere waits (fun _ => St.SUPPLY_FAULT) (fun _ => 0) (s.zoneFault z)).halt Halt.SUPPLY_FAULT

/-- P has been at least 1,000 for RISE_S: TH must have risen by RISE_MIN. -/
def execFuserRiseCheck (zone : Nat) (s : State) : Result :=
  whileUp s fun s =>
    match (s.zone zone).highFrom with
    | none => s
    | some (t, temp) =>
      let s := s.at (t + sec (s.imm (Fld.FZ_RISE_S zone)))
      let now := (s.therm (s.imm (Fld.FZ_CFG_TH zone))).temp
      if now - temp < 10 * s.imm (Fld.FZ_RISE_MIN zone) then s.zoneFails zone
      else s.setZone zone fun Z => { Z with highFrom := some (s.now, now) }

/-- The reference of a zone's slot, in 0.01 °C: r′ of its generator (15 R326). -/
def State.zoneRef (s : State) (z : Nat) : Int := (s.loop (s.imm (Fld.FZ_SLOT z))).r1 / 2 ^ 32

/-- The sheets in a zone: past the lead edge at SS_IN, not past the trail edge at SS_OUT. -/
def State.inZone (s : State) (z : Nat) : List Nat :=
  s.slotsWhere fun sh =>
    (sh.tracks.any fun t => t.sensor = s.imm (Fld.FZ_SS_IN z) && t.lead.isSome) &&
      !(sh.tracks.any fun t => t.sensor = s.imm (Fld.FZ_SS_OUT z) && t.trail.isSome)

/-- One scan of a zone's thermistors: the fault of R368, then the band (17 R367). `inBand` is what the last scan found. -/
def State.scanZone (s : State) (z time : Nat) : State :=
  let th := s.therm (s.imm (Fld.FZ_CFG_TH z))
  let th2 := s.therm (s.imm (Fld.FZ_TH2 z))
  let dead := th.opened || th.short || (s.imm (Fld.FZ_TH2 z) < 8 && (th2.opened || th2.short))
  let off := (th.temp - s.zoneRef z).natAbs
  let inb : Bool := off ≤ 100 * s.imm (Fld.FZ_BAND z)
  let en := (s.zone z).enabled
  let was := (s.zone z).bandUp
  let s := (s.setZone z fun Z => { Z with inBand := inb, bandUp := en && inb }).watchHold
  if en && dead then s.zoneFails z
  else if en && !inb then
    let s := stampAll Cause.FUSER_BAND time (s.inZone z) s
    if was then s.raiseAt Ev.FUSER_BAND z 0xFF ([BitVec.ofNat 8 z, 0] ++ leInt 2 th.temp) time else s
  else s

end Sys2Proof.Machine
end

