-- ==== Sys2Proof/Machine/Afe.lean ====
section
/-! DEFINITION. The analogue front end (19): frames, the Marigold cycle, drift and retirement, zeros, AFE_CALIBRATE, thermistors. -/

namespace Sys2Proof.Machine

/-! Slices. -/

def Bank.diagAt (b : Bank) (slice i : Nat) : Int := (b.diag.getD slice []).getD i 0
def Bank.setDiag (b : Bank) (slice i : Nat) (v : Int) : Bank := { b with diag := b.diag.modify slice fun l => l.set i v }

/-- Slices that are not retired. -/
def Bank.slices (b : Bank) : Nat := 5 - popCount 5 b.retired

/-- The coefficients of a slice, in 1/16 LSB: those of its last calibration, and before one an ideal slice. -/
def Bank.coefs (b : Bank) (slice : Nat) : Int × Int :=
  if b.diagAt slice 2 = 0 then (0, 16 * 8192) else (b.diagAt slice 1, b.diagAt slice 2)

/-- The corrected code of a raw one, in 1/65,536 LSB (19 R390). -/
def Bank.correct (b : Bank) (slice raw : Nat) : Int :=
  let (c0, cBG) := b.coefs slice
  nearest ((16 * (raw : Int) - c0) * 8192 * 2 ^ 16) (cBG - c0)

/-- The calibrated code of a channel (19 R397). -/
def AfeChannel.calibrated (c : AfeChannel) (v : Int) : Int :=
  nearest ((v - signed 12 (c.ofsLive.toNat % 4096) * 2 ^ 16) * c.gainLive.toInt) (2 ^ 40)

/-! Events and commands of a calibration. -/

def isCal (kind : Nat) (c : Cmd) : Bool := c.op = Op.AFE_CALIBRATE && par c.p 0 1 = kind

/-- What a MARIGOLD command remembers: the banks it waits for, those whose cycle has begun, the slices retired. -/
def calBegins (b : Nat) (c : Cmd) : Cmd :=
  if isCal 0 c && bit (c.notes.getD 0 0) b then { c with notes := c.notes.set 1 (setBit (c.notes.getD 1 0) b) } else c

def calEnds (b ret : Nat) (c : Cmd) : Cmd :=
  if isCal 0 c && bit (c.notes.getD 1 0) b then
    { c with notes := [clrBit (c.notes.getD 0 0) b, clrBit (c.notes.getD 1 0) b, c.notes.getD 2 0 + ret * 2 ^ (5 * b)] }
  else c

/-- A bank's cycle is over for the commands that triggered it (19 R399). -/
def State.cycleOver (s : State) (b : Nat) : State :=
  let s := { s with running := s.running.map (calEnds b (s.bank b).cycleRet) }
  finishWhere (fun c => isCal 0 c && c.notes.getD 0 0 = 0) (fun _ => St.OK) (fun c => c.notes.getD 2 0) s

/-- A Marigold cycle is triggered, or kept for the end of the one that runs (19 R392). -/
def State.trigger (s : State) (b : Nat) : State := s.setBank b fun B => { B with again := true }

def triggers : List Nat → State → State
  | [], s => s
  | b :: bs, s => triggers bs (s.trigger b)

/-! The cycle (19 R391, R394). -/

/-- The frame length, in 16 µs, that lets every scan channel fit after the timed conversions. -/
def frameSteps (n timed scan : Nat) : Nat :=
  ((List.range 63).find? fun k => timed * (k + 1) + scan + n ≤ 64 * n * (k + 1)).elim 63 (· + 1)

/-- A slice is retired with its cause (24 R486 DIAG_s_4), and a spare that stands in for it stays in its place (19 R393, R394). -/
def State.retireSlice (s : State) (b w cause : Nat) : State :=
  let s := s.setBank b fun B => ({ B with
    retired := setBit B.retired w, inService := clrBit B.inService w, suspended := clrBit B.suspended w,
    spare := if w = B.spare || (B.spare < 5 && bit B.inService B.spare) then 7 else B.spare,
    calSlice := if B.calSlice = w then 7 else B.calSlice,
    cycleRet := setBit B.cycleRet w } : Bank).setDiag w 4 (B.diagAt w 4 % 256 + 256 * cause)
  let n := (s.bank b).slices
  let s := s.setBank b fun B => { B with
    stale := B.stale || n ≤ 3, frame := if n < 3 then 16 * frameSteps n B.timed B.scan else B.frame }
  s.raise Ev.SLICE_RETIRED b 0xFF [BitVec.ofNat 8 b, BitVec.ofNat 8 w, BitVec.ofNat 8 n]

/-- The end of a cycle. -/
def State.endCycle (s : State) (b : Nat) : State :=
  let s := s.setBank b fun B => { B with
    calSlice := 7, waiting := [], calTj := s.afe.tj, cycles := satAdd 0xFFFF B.cycles 1, lastCycle := s.now }
  (s.calDone 0 b).cycleOver b

/-- The next slice of the list that can be calibrated now: the spare, one the spare stands in for, or one whose slots three
others carry. -/
def calNext (b : Nat) : List Nat → State → State
  | [], s => s.endCycle b
  | w :: ws, s =>
    let B := s.bank b
    if bit B.retired w || bit B.suspended w then calNext b ws s
    else if w = B.spare then s.setBank b fun B => { B with calSlice := w, waiting := ws }
    else if B.spare < 5 && !bit B.inService B.spare then
      s.setBank b fun B => { B with
        calSlice := w, waiting := ws, inService := setBit (clrBit B.inService w) B.spare }
    else if popCount 5 B.inService = 4 then
      s.setBank b fun B => { B with calSlice := w, waiting := ws, inService := clrBit B.inService w }
    else calNext b ws s

/-- A triggered cycle starts at a frame boundary (19 R392). -/
def State.startCycle (s : State) (b : Nat) : State :=
  let B := s.bank b
  let due := B.again || s.imm Fld.CAL_DT < (s.afe.tj - B.calTj).natAbs
  if B.calSlice ≠ 7 || !due then s
  else
    let s := s.setBank b fun B => { B with again := false, cycleRet := 0 }
    let s := { s with running := s.running.map (calBegins b) }
    if popCount 5 B.inService < 4 then (s.setBank b fun B => { B with stale := true }).cycleOver b
    else calNext b ((if B.spare < 5 then [B.spare] else []) ++ maskList B.inService 5) s

/-- A slice's calibration ends: its coefficients, or its retirement (19 R390, R393). `c0` and `cBG` are the means in 1/16 LSB, `check`
the BGDIV mean less 2,048 in 1/16 LSB. -/
def execSliceCalDone (bank : Nat) (c0 cBG check : Int) (tick : Nat) (s : State) : Result :=
  whileUp s fun s =>
    let w := (s.bank bank).calSlice
    if w = 7 || s.inReset Fn.AFE then s
    else
      let s := s.at tick
      let gain := nearest (1000000 * (16 * 8192 - (cBG - c0))) (cBG - c0)
      let s := s.setBank bank fun B => (((B.setDiag w 1 c0).setDiag w 2 cBG).setDiag w 3 check).setDiag w 6 0
      let cause :=
        if 16 * s.imm Fld.OFS_LIMIT < c0.natAbs then 1 else if 100 * s.imm Fld.GAIN_LIMIT < gain.natAbs then 2
        else if 16 * s.imm Fld.CHECK_TOL < check.natAbs then 3 else 0
      let s :=
        if cause = 0 then
          s.setBank bank fun B => { B with
            ofs := B.ofs.set w c0, gain := B.gain.set w gain, calSlice := 7,
            inService := if w = B.spare then B.inService
              else setBit (if B.spare < 5 then clrBit B.inService B.spare else B.inService) w }
        else s.retireSlice bank w cause
      calNext bank (s.bank bank).waiting s

def execCalPeriodExpiry (bank : Nat) (s : State) : Result :=
  whileUp s fun s =>
    if s.imm Fld.CAL_PERIOD = 0 then s
    else (s.at ((s.bank bank).lastCycle + sec (s.imm Fld.CAL_PERIOD))).trigger bank

/-! Drift between calibrations (19 R395). -/

/-- A slice fails its drift check and is suspended; the spare takes over, from a calibration if need be. -/
def State.suspend (s : State) (b w : Nat) : State :=
  let B := s.bank b
  let cut := B.calSlice ≠ 7 && B.spare < 5 && (B.calSlice = B.spare || bit B.inService B.spare)
  let s := s.setBank b fun B => ({ B with
    suspended := setBit B.suspended w,
    inService :=
      let m := clrBit B.inService w
      let m := if B.spare < 5 then setBit m B.spare else m
      if cut && B.calSlice ≠ B.spare then setBit m B.calSlice else m } : Bank).setDiag w 4
        (B.diagAt w 4 / 256 * 256 + min 255 (B.diagAt w 4 % 256 + 1))
  let s := { s with afe := { s.afe with suspensions := satAdd 0xFFFF s.afe.suspensions 1 } }
  if cut then
    let l := (s.bank b).waiting ++ [B.calSlice]
    calNext b l (s.setBank b fun B => { B with calSlice := 7 })
  else s

/-- A suspended slice passes its check. -/
def State.unsuspend (s : State) (b w : Nat) : State :=
  s.setBank b fun B =>
    let m := setBit B.inService w
    { B with suspended := clrBit B.suspended w, inService := if 4 < popCount 5 m && B.spare < 5 then clrBit m B.spare else m }

/-- The drift check of one slice. -/
def State.driftCheck (s : State) (b w : Nat) (drift : Int) : State :=
  let s := s.setBank b fun B =>
    ((B.setDiag w 0 drift).setDiag w 6 (max (B.diagAt w 6) drift.natAbs)).setDiag w 5 ((B.diagAt w 5 + 1) % 2 ^ 32)
  let B := s.bank b
  let bad := s.imm Fld.DRIFT_TOL < drift.natAbs
  if bit B.suspended w then (if bad then s.retireSlice b w 4 else s.unsuspend b w)
  else if bad && bit B.inService w then s.suspend b w
  else s

def driftChecks (b : Nat) : List (Nat × Int) → State → State
  | [], s => s
  | (w, d) :: l, s => driftChecks b l (if w < 5 ∧ bit (s.bank b).retired w = false then s.driftCheck b w d else s)

/-! Publication (19 R388, R397). -/

/-- A channel samples as part of the scan, and not as a timed conversion. -/
def scanChannel (c : Nat) : Bool := c < 24 || (120 ≤ c && c < 128) || 152 ≤ c

/-- One result; a code that does not fit its 16 bits is open. -/
def State.publishOne (s : State) (b c slice raw : Nat) : State :=
  let v := (s.bank b).correct slice raw
  let k := (s.afeChan c).calibrated v
  let (free, s) := if -32768 ≤ k ∧ k ≤ 32767 then (k, s) else ((signed 16 (s.drawInt.1 % 2 ^ 16).toNat), s.drawInt.2)
  let s := s.setBank b fun B => B.setDiag slice 5 ((B.diagAt slice 5 + 1) % 2 ^ 32)
  s.setAfeChan c fun C => { C with value := free, at_ := s.now, raw := raw % 2 ^ 14, slice := slice, corrected := v }

/-- The frame's results; those of a slice suspended in it are withheld. -/
def publish (b : Nat) : List (Nat × Nat × Nat) → State → State
  | [], s => s
  | (c, slice, raw) :: l, s =>
    publish b l
      (if bankOf c ≠ b ∨ 160 ≤ c ∨ 5 ≤ slice then s
       else if bit (s.bank b).suspended slice || bit (s.bank b).retired slice then
        s.setBank b fun B => { B with withheld := satAdd 0xFFFF B.withheld 1 }
       else s.publishOne b c slice raw)

/-- HV monitors and their arcs (17 R361, R362). -/
def scanHv (b : Nat) : List Nat → State → State
  | [], s => s
  | n :: ns, s =>
    let c := s.imm (Fld.HV_MON_CH n)
    if bankOf c ≠ b ∨ 160 ≤ c then scanHv b ns s
    else
      let mon := (s.afeChan c).value.toNat
      let s := s.setHv n fun h => { h with mon := mon }
      scanHv b ns (if s.isArc n mon then s.arc n mon s.now else s)

/-! Thermistors (19 R400). -/

/-- The code that x = 1 stands for, in 1/65,536 LSB: full scale, or with TH_EXT the corrected code of channel 159 (19 R400, 20 R418). -/
def State.thermFull (s : State) : Int := if s.afe.thExt then (s.afeChan 159).corrected else 16384 * 2 ^ 16

/-- The temperature in 0.01 °C of a corrected code `v` out of `full`, none where the formula has no value: no resistance between
the ends, or no thermistor constants. -/
def thermTemp (v full : Int) (beta res : Nat) : Option Int :=
  if v ≤ 0 ∨ full ≤ v ∨ beta = 0 ∨ res = 0 then none
  else
    let l := lnQ (4990 * v.toNat) ((full - v).toNat * (1000 * res))
    let inv := 100 * fx1 / 29815 + l / beta
    if inv ≤ 0 then none else some (nearest (100 * fx1 * fx1) (inv * fx1) - 27315)

/-- One thermistor's reading, open where the formula gives none, with its OPEN and SHORT (17 R368). -/
def State.scanTherm (s : State) (t : Nat) : State :=
  let v := (s.afeChan (s.imm (Fld.TH_CFG_CH t))).corrected
  let (x, s) := match thermTemp v s.thermFull (s.imm (Fld.TH_BETA t)) (s.imm (Fld.TH_RES25 t)) with
    | some x => (x, s)
    | none => s.drawInt
  s.setTherm t fun T => { T with temp := x, opened := x < -4000, short := 32000 < x }

def scanTherms (b : Nat) : List Nat → State → State
  | [], s => s
  | t :: ts, s =>
    let c := s.imm (Fld.TH_CFG_CH t)
    scanTherms b ts (if bankOf c = b ∧ c < 160 then s.scanTherm t else s)

def scanZones (time : Nat) : List Nat → State → State
  | [], s => s
  | z :: zs, s => scanZones time zs (s.scanZone z time)

/-- The junction temperature, and DIE_TEMP_HIGH once until it has fallen below 110 °C (23 R474). -/
def State.scanTj (s : State) (tj : Int) : State :=
  let hot := 1150 ≤ tj && !s.afe.hotRaised
  let s := { s with afe := { s.afe with tj := tj, hotRaised := if tj < 1100 then false else s.afe.hotRaised || hot } }
  if hot then s.raise Ev.DIE_TEMP_HIGH 0xFF 0xFF (leInt 2 tj) else s

/-! SPAN (19 R399). -/

/-- The GAIN that makes `sum`, 256 corrected codes, read as `value`; none when it does not fit Q8.24. -/
def spanGain (value sum ofs : Int) : Option Int :=
  let d := sum - 256 * ofs * 2 ^ 16
  let g := if d < 0 then nearest (-(value * 2 ^ 48)) (-d) else nearest (value * 2 ^ 48) d
  if d = 0 ∨ g < -2 ^ 31 ∨ 2 ^ 31 ≤ g then none else some g

def State.endSpan (s : State) (c : Cmd) (sum : Int) : State :=
  let n := c.p.target
  let (g, s) := match spanGain (parInt c.p 4 4) sum (signed 12 ((s.afeChan n).ofsLive.toNat % 4096)) with
    | some g => (g, s)
    | none => s.drawInt
  let w : Word := BitVec.ofInt 32 g
  (finish c.seq St.OK w.toNat (s.setAfeChan n fun C => { C with gainLive := w, gainShadow := w })).calDone 2 n

/-- One more frame for the SPAN commands of a bank: frames counted, and the sums of the codes above and below 0. -/
def spans (b : Nat) : List Cmd → State → State
  | [], s => s
  | c :: cs, s =>
    if isCal 2 c && bankOf c.p.target = b then
      let v := (s.afeChan c.p.target).corrected
      let k := c.notes.getD 0 0 + 1
      let hi := c.notes.getD 1 0 + v.toNat
      let lo := c.notes.getD 2 0 + (-v).toNat
      spans b cs (if k = 256 then s.endSpan c ((hi : Int) - lo) else s.noteCmd c.seq fun _ => [k, hi, lo])
    else spans b cs s

/-! The end of a frame. -/

/-- `raws` are the conversions whose results stand at the frame's end: channel, slice, raw code; `drifts` the drift checks less
8,192. -/
def execAfeFrameEnd (bank : Nat) (raws : List (Nat × Nat × Nat)) (drifts : List (Nat × Int)) (tj : Int) (tick : Nat)
    (s : State) : Result :=
  whileUp s fun s =>
    if s.inReset Fn.AFE then s
    else
      let s := s.at tick
      let s := if bank = 2 then s.scanTj tj else s
      let s := s.setBank bank fun B => { B with
        frames := (B.frames + 1) % 2 ^ 32, scan := (raws.filter fun r => scanChannel r.1).length,
        timed := (raws.filter fun r => !scanChannel r.1).length }
      let s := publish bank raws (driftChecks bank drifts s)
      let s := scanTherms bank (List.range 8) (scanHv bank (List.range 24) s)
      let s := if bank = 2 then scanZones s.now (List.range 4) s else s
      let s := ((spans bank s.running s).landGroup Grp.AFEB_CHAN bank).startCycle bank
      if bank = 2 then { s with afe := { s.afe with thExt := s.on Fld.TH_EXT } } else s

/-! Zeros (19 R398). -/

/-- The quantity of a channel is known to be zero. -/
def State.zeroHolds (s : State) (c : Nat) : Bool :=
  if c < 24 then
    s.mode = .standby && !(s.hvCh c).en && (s.hvCh c).offAt + ms (100 * s.imm Fld.HV_ZERO_S) ≤ s.now
  else if c < 60 then
    !(s.drive ((c - 24) / 3)).bridge && (s.drive ((c - 24) / 3)).offAt + ms 1 ≤ s.now
  else
    let a := if 96 ≤ c ∧ c < 120 then some ((c - 96) / 2) else if 128 ≤ c ∧ c < 152 then some (12 + (c - 128) / 2) else none
    match a with
    | some a => !(s.axis a).energised && (s.axis a).offAt + ms 1 ≤ s.now
    | none => false

/-- A zero was measured: `mean` is the offset in corrected LSB. -/
def State.newZero (s : State) (c : Nat) (mean : Int) : State :=
  let C := s.afeChan c
  if 64 < (mean - signed 12 (C.ofsLive.toNat % 4096)).natAbs then
    { s with afe := { s.afe with zeroRejects := satAdd 0xFFFF s.afe.zeroRejects 1 } }
  else
    let put (w : Word) : Word := BitVec.ofNat 32 (w.toNat / 4096 * 4096 + unsigned 12 mean)
    s.setAfeChan c fun C => { C with
      ofsLive := put C.ofsLive, ofsShadow := if C.written then C.ofsShadow else put C.ofsShadow }

/-- The offset of a channel is measured again: where AUTOZERO asks for it, or for a ZERO command. -/
def execAutozero (channel : Nat) (mean : Int) (s : State) : Result :=
  whileUp s fun s =>
    let asked := s.running.any fun c => isCal 1 c && c.p.target = channel
    if s.inReset Fn.AFE || !s.zeroHolds channel || !(asked || (s.on Fld.AUTOZERO_EN && (s.afeChan channel).ofsLive.getLsbD 12)) then s
    else
      let s := s.newZero channel mean
      if asked then
        (finishWhere (fun c => isCal 1 c && c.p.target = channel) (fun _ => St.OK) (fun _ => 0) s).calDone 1 channel
      else s

/-! THERM_POINT (19 R399, R400). -/

/-- The resistance of a thermistor in Ω, as a fraction, from its corrected code out of `full`. -/
def thermRes (v full : Int) : Nat × Nat := (4990 * v.toNat, (full - v).toNat)

/-- BETA in K and RES25 in kΩ of two points (resistance as a fraction, 0.01 °C); none when the pair is not good. -/
def thermFit (a b : Nat × Nat × Int) : Option (Nat × Nat) :=
  let (ra, da, ta) := a
  let (rb, db, tb) := b
  let ka := ta + 27315
  let kb := tb + 27315
  if (ta - tb).natAbs < 2000 ∨ ra = 0 ∨ rb = 0 ∨ da = 0 ∨ db = 0 ∨ ka ≤ 0 ∨ kb ≤ 0 then none
  else
    let beta := nearest (lnQ (ra * db) (rb * da) * (ka * kb)) (100 * fx1 * (kb - ka))
    let beta := if kb < ka then nearest (-(lnQ (ra * db) (rb * da) * (ka * kb))) (100 * fx1 * (ka - kb)) else beta
    if beta < 2000 ∨ 6000 < beta then none
    else
      let e := expQ (beta * (100 * fx1 / 29815 - 100 * fx1 / ka))
      some (beta.toNat, (nearest (ra * e) (da * 1000 * fx1)).toNat)

/-- A point is recorded; the second one fits. -/
def State.thermPoint (s : State) (c : Cmd) : State :=
  let t := c.p.target
  let r := thermRes (s.afeChan (s.imm (Fld.TH_CFG_CH t))).corrected s.thermFull
  let here : Nat × Nat × Int := (r.1, r.2, parInt c.p 4 4)
  match (s.therm t).point with
  | none => (complete c St.OK 1 (s.setTherm t fun T => { T with point := some here })).calDone 3 t
  | some a =>
    let s := s.setTherm t fun T => { T with point := none }
    match thermFit a here with
    | none => (complete c St.BAD_PARAM 0 s).calDone 3 t
    | some (beta, res) =>
      (complete c St.OK 2 ((s.setImm (Fld.TH_BETA t) beta).setImm (Fld.TH_RES25 t) (min 255 res))).calDone 3 t

/-! Commands. -/

def execAfeCalibrate (p : Packet) (s : State) : Result :=
  let kind := par p 0 1
  let banks := if p.target = 0xFFFF then [0, 1, 2] else [p.target]
  command Op.AFE_CALIBRATE .owner p (fun s =>
    [(2 ≤ kind && kind ≤ 3 && s.mode ≠ .service, St.WRONG_MODE),
      (kind = 1 && p.target < 160 && !s.zeroHolds p.target, St.TARGET_BUSY),
      ((kind = 0 && 3 ≤ p.target && p.target ≠ 0xFFFF) || (kind = 1 && 160 ≤ p.target) ||
        (kind = 2 && (160 ≤ p.target || (120 ≤ p.target && p.target < 128))) || (kind = 3 && 8 ≤ p.target), St.BAD_TARGET),
      params p [(0, 1), (4, 4)], badParam (3 < kind)])
    (fun c s =>
      if kind = 0 then triggers banks (s.start { c with notes := [banks.foldl setBit 0, 0, 0] })
      else if kind = 3 then s.thermPoint c
      else s.start c) s

/-- AFE_CAL_STAT and AFEBb_STAT (19 R402). -/
def State.afeCalStat (s : State) : Nat :=
  ((List.range 3).foldl (fun m b => if (s.bank b).calSlice ≠ 7 then setBit m b else m) 0) + 2 ^ 16 * s.afe.suspensions

def State.bankStat (s : State) (b : Nat) : Nat :=
  let B := s.bank b
  B.inService + 2 ^ 5 * B.retired + 2 ^ 10 * B.suspended + 2 ^ 15 * B.spare + 2 ^ 18 * B.calSlice + flag B.stale 21 +
    2 ^ 22 * (B.frame % 1024)

def execCalStatus (p : Packet) (s : State) : Result :=
  let k := par p 0 1
  command Op.CAL_STATUS .observer p (fun _ =>
    [(if k = 0 then noTarget p else targetBelow p (if k = 1 then 3 else 5)), params p [(0, 1)], badParam (2 < k)])
    (fun c s =>
      complete c St.OK (if k = 0 then s.afeCalStat else if k = 1 then s.bankStat p.target
        else unsigned 32 (s.station p.target).surveyTj) s) s

/-- The AFE reset abandons a cycle and clears suspensions; a new cycle starts at the first frame after it (19 R396). -/
def State.resetBank (s : State) (b : Nat) : State :=
  s.setBank b fun B =>
    let m := (List.range 5).foldl (fun m i => if bit B.retired i || i = B.spare then m else setBit m i) 0
    { B with suspended := 0, calSlice := 7, waiting := [], again := true, inService := m }

def resetBanks : List Nat → State → State
  | [], s => s
  | b :: bs, s => resetBanks bs (s.resetBank b)

end Sys2Proof.Machine
end

