-- ==== Sys2Proof/Machine/Nv.lean ====
section
/-! DEFINITION. Stored settings, patches, limited-change settings and the audit log (22 R442-R455). -/

namespace Sys2Proof.Machine

/-! Profiles (22 R445, 24 R493). A profile lists the words that differ from their reset value: registers under their own
addresses, table entries under the pseudo-addresses below. -/

def segKey (n k : Nat) : Nat := 0x1000000 + 0x10000 * n + k
def dctKey (n k : Nat) : Nat := 0x2000000 + 0x10000 * n + k
def coefKey (slot k : Nat) : Nat := 0x3000000 + 0x10000 * slot + k
def afeKey (k : Nat) : Nat := 0x4000000 + k

/-- The registers a profile leaves out beside the QUE block (24 R493). Write-only and W1C fields hold nothing in `regs`. -/
def unheld (a : Nat) : Bool :=
  a = Reg.AFE_CH_ADDR || a = Reg.AFE_READ_SEL ||
    ((List.range 5).any fun n => a = Reg.STN_SEG_ADDR n || a = Reg.STN_DCT_ADDR n || a = Reg.STN_PIX_RATE n) ||
    ((List.range 24).any fun n => a = Reg.LOOP_COEF_ADDR n) || ((List.range 12).any fun n => a = Reg.DRV_CAP_CTL n)

def held? (a : Nat) : Bool :=
  match posOf a with
  | none => false
  | some p => p.block ≠ .que && !unheld a

/-- What STORE_PROFILE writes: shadows of tumbler groups, immediate fields, the live segment bank and the tables' shadows. -/
def State.profileWords (s : State) : List (Nat × Word) :=
  (s.regs.filter fun c => held? c.1) ++
    ((List.range 5).flatMap fun n => (s.pipe n).segLive.map fun c => (segKey n c.1, BitVec.ofNat 32 c.2)) ++
    ((List.range 5).flatMap fun n => (s.pipe n).dctShadow.map fun c => (dctKey n c.1, BitVec.ofNat 32 c.2)) ++
    ((List.range 24).flatMap fun n => (s.loop n).coefShadow.map fun c => (coefKey n c.1, c.2)) ++
    ((List.range 160).flatMap fun c =>
      let C := s.afeChan c
      (if C.gainShadow = 0x01000000 then [] else [(afeKey (2 * c), C.gainShadow)]) ++
        (if C.ofsShadow = 0 then [] else [(afeKey (2 * c + 1), C.ofsShadow)]))

/-! Stores (22 R443-R447). -/

/-- KIND of a region's header (22 R443). -/
def kindOf (r : Nat) : Nat := if r < 2 then 1 else if r < 4 then 2 else if r < 6 then 3 else 4

/-- The next GENERATION of a KIND. -/
def State.nextGeneration (s : State) (kind : Nat) : Nat :=
  (((List.range 8).filter fun r => kindOf r = kind && s.regionGood r).foldl (fun m r => max m (s.region r).generation) 0 + 1) % 2 ^ 32

def State.generationOf (s : State) (r : Nat) : Nat := if s.regionGood r then (s.region r).generation else 0

/-- Of two copies the invalid one, else the one of the lower GENERATION, the first on a tie (22 R445). -/
def State.storeCopy (s : State) (a b : Nat) : Nat :=
  if !s.regionGood a then 0 else if !s.regionGood b then 1
  else if (s.region a).generation ≤ (s.region b).generation then 0 else 1

/-- A store starts: its region is invalid from the erasure on, and `put` writes what its body will hold. `notes` holds the new and
the previous GENERATION. At most 85 blocks draw the length of their tokens. -/
def State.beginStore (s : State) (c : Cmd) (r version : Nat) (body : List Byte) (put : Nv → Nv) : State :=
  let gen := s.nextGeneration (kindOf r)
  let old := s.generationOf r
  let s := s.setRegion r fun _ => ⟨false, gen, version, if r < 2 then 0 else s.acting 7, body, [], s.freeCount⟩
  let s := { s with freeCount := s.freeCount + 85 }
  ({ s with nv := { put s.nv with storing := some (kindOf r, r), storeCmd := c.seq } }).start { c with notes := [gen, old] }

def storeModes (m : Mode) : Bool := m = .standby || m = .ready || m = .service

/-- The supply test of R447. -/
def State.supplyLow (s : State) : Bool := s.supply.vin < s.imm Fld.STORE_MIN || s.supply.warning

/-- The checks of R447. -/
def storeChecks (s : State) (rest : List (Bool × Nat)) : List (Bool × Nat) :=
  [inModes s storeModes, (s.nv.storing.isSome, St.TARGET_BUSY)] ++ rest ++ [(s.supplyLow, St.STORE_SUPPLY_LOW)]

/-- A store on an unreadable flash (22 R442). -/
def State.noFlash (s : State) (c : Cmd) (kind : Nat) : State :=
  complete c St.FLASH_ERROR 0 (s.auditStore c kind 0xFF St.FLASH_ERROR 0 0)

def execStoreProfile (p : Packet) (s : State) : Result :=
  let which := par p 0 1
  command Op.STORE_PROFILE .owner p (fun s =>
    storeChecks s [noTarget p, params p [(0, 1)], badParam (which ≠ 0 && which ≠ 1 && which ≠ 0xFF)])
    (fun c s =>
      if !s.nv.readable then s.noFlash c 2
      else
        let i := if which = 0xFF then s.storeCopy Rgn.PROFILE0 Rgn.PROFILE1 else which
        let words := s.profileWords
        s.beginStore c (Rgn.PROFILE0 + i) 0 [] fun v => { v with profiles := v.profiles.set i words }) s

/-- Every buffer line of the trim master reads, or is corrected first. -/
def State.trimUnreadable (s : State) : Bool := s.mem.failing.any fun f => f.2 = 0xFF && 0x800000 ≤ 64 * f.1 && 64 * f.1 < 0x1000000

/-- The failing lines of a range of buffer memory. -/
def State.failingIn (s : State) (lo hi : Nat) : List (Nat × Nat) := s.mem.failing.filter fun f => lo ≤ 64 * f.1 && 64 * f.1 < hi

def execStoreTrim (p : Packet) (s : State) : Result :=
  command Op.STORE_TRIM .service p (fun s => storeChecks s [noTarget p, params p []])
    (fun c s =>
      if !s.nv.readable then s.noFlash c 4
      else if !s.modes.memReady || s.trimUnreadable then complete c St.UNINIT_OR_CORRUPT 0 s
      else
        let s := correctLines (s.failingIn 0x800000 0x1000000) s
        let i := s.storeCopy Rgn.TRIM_A Rgn.TRIM_B
        let cells := s.mem.master
        s.beginStore c (Rgn.TRIM_A + i) 0 [] fun v => { v with trims := v.trims.set i cells }) s

/-- Station and slot of a plan-store entry. -/
def State.slotImage (s : State) (e : Nat) : List Byte :=
  match ((s.plans (e / 36)).slots.getD (e % 36) .reset).plan with
  | some q => q.image
  | none => []

/-- The entries a STORE_PLAN writes: those of the named stations as their slots stand, the others from the copy in force. -/
def State.planEntries (s : State) (mask : Nat) : List (Nat × List Byte) :=
  (List.range 180).map fun e => (e, if bit mask (e / 36) then s.slotImage e else s.storedPlan e)

/-- The band table of a station as its registers hold it. -/
def State.bandWords (s : State) (n : Nat) : List (Nat × Word) :=
  (List.range 32).map fun i => (Reg.STN_BAND n i, s.reg (Reg.STN_BAND n i))

/-- The band tables a STORE_PLAN writes. -/
def State.bandEntries (s : State) (mask : Nat) : List (Nat × Word) :=
  (List.range 5).flatMap fun n =>
    if bit mask n then s.bandWords n
    else ((s.bandCopy).getD []).filter fun w => (List.range 32).any fun i => w.1 = Reg.STN_BAND n i

/-- A plan slot of the named stations cannot be read. -/
def State.plansUnreadable (s : State) (mask : Nat) : Bool :=
  (List.range 180).any fun e => bit mask (e / 36) && s.planUnreadable (e / 36) (e % 36)

def execStorePlan (p : Packet) (s : State) : Result :=
  let mask := par p 0 1
  command Op.STORE_PLAN .service p (fun s => storeChecks s [noTarget p, params p [(0, 1)], badParam (31 < mask)])
    (fun c s =>
      if !s.nv.readable then s.noFlash c 3
      else if !s.modes.memReady || s.plansUnreadable mask then complete c St.UNINIT_OR_CORRUPT 0 s
      else
        let i := s.storeCopy Rgn.PLAN_A Rgn.PLAN_B
        let plans := s.planEntries mask
        let bands := s.bandEntries mask
        let put (v : Nv) : Nv := { v with plans := v.plans.set i plans, bands := v.bands.set i bands }
        s.beginStore c (Rgn.PLAN_A + i) 0 [] put) s

/-! Patches (22 R448). -/

/-- The header bytes that a patch's signature covers (22 R443). -/
def patchHead (version : Nat) : List Byte := [0x53, 0x46, 0x4D, 0x4C, 0x01, 0x01] ++ leBytes 2 version

/-- The image part of a patch body, its key and its signature. -/
def patchGood (version : Nat) (body : List Byte) : Bool :=
  let n := body.length
  128 ≤ n &&
    (let key := slice body (n - 128) 64
     sha256 key = (List.range 32).map Config.patchKeyHash &&
       ecdsaGood key (slice body (n - 64) 64) (patchHead version ++ body.take (n - 64)))

def patchVersion (body : List Byte) : Nat := Config.patchVersion body % 2 ^ 16

def execPatchLoad (p : Packet) (s : State) : Result :=
  let length := par p 8 4
  let body := (argBytes p).take length
  command Op.PATCH_LOAD .owner p (fun s =>
    storeChecks s [noTarget p, params p [(0, 8), (8, 4)], badParam (2 * 1024 * 1024 - 64 < length), argsFailed p length])
    (fun c s =>
      if !s.nv.readable then s.noFlash c 1
      else if !patchGood (patchVersion body) body then complete c St.BAD_SIGNATURE 0 s
      else if patchVersion body < s.acting 6 then complete c St.ROLLBACK 0 s
      else
        let r := if s.boot.patchValid then 1 - s.boot.patchRegion else 0
        s.beginStore c r (patchVersion body) body id) s

/-- The emitters whose cells in the trim master are those of a stored copy. -/
def State.unchanged (s : State) (stored : List Host.Cell) : List Bool :=
  (List.range 170).map fun i =>
    let same (l : List Host.Cell) : List Host.Cell := l.filter fun c => c.1 / 32768 = i
    s.mem.changed.getD i false && same s.mem.master ≠ same stored

/-- The blocks of a store whose decoded copy differed from the source are written RAW, and counted (07 R159, R161). -/
def State.rewrittenRaw (s : State) (r : Nat) (raws : List Nat) : State :=
  { s.setRegion r fun g => { g with raws := raws } with
    feed := { s.feed with verifyRaw := satAdd 0xFF s.feed.verifyRaw raws.length } }

/-- A store's end: 0 its header has read back, 1 the flash failed, 2 a RAW copy did not compare either, which ends a TRIM or PLAN store that
has rewritten a block; `raws` are the numbers of the blocks rewritten (07 R159, 22 R447). -/
def execStoreDone (outcome : Nat) (raws : List Nat) (peer : Nat) (s : State) : Result :=
  whileUp s fun s =>
    match s.nv.storing with
    | none => s
    | some (kind, r) =>
      let raws := (raws.filter fun i => i < (s.nv.blocks r).length).eraseDups
      if outcome = 2 ∧ raws = [] then s
      else
        let own := if outcome = 0 then St.OK else if outcome = 1 then St.FLASH_ERROR else St.VERIFY_FAILED
        let s := s.rewrittenRaw r raws
        let s := if kind = 4 ∧ own = St.OK then
            { s with mem := { s.mem with changed := s.unchanged (s.nv.trims.getD (r - Rgn.TRIM_A) []) } }
          else s
        s.endStore own (if own = St.OK ∧ s.syncedLead = true then peer else own)

/-! Limited-change settings (22 R449, R450). -/

/-- The fuse slots of a setting, of a station's for code 3. -/
def State.fuseOf (s : State) (code station : Nat) : FuseSetting :=
  if code = 3 then s.nv.ceilings.getD station (.shipped 4) else s.nv.fuses.getD (code - 1) (.shipped 0)

/-- The slots left of a setting; the first of code 5 and the only one of code 8 are used at shipment. -/
def State.slotsLeft (s : State) (code station : Nat) : Nat :=
  if code = 5 then 3 - s.nv.keySlots.length else if code = 8 then 0
  else (s.fuseOf code station).slots - (s.fuseOf code station).used.length

/-- The live value of a setting other than code 5. -/
def State.fuseValue (s : State) (code station : Nat) : Nat := (s.fuseOf code station).value (fuseShipped code)

/-- The hash of the first `n` slots that were programmed after shipment. -/
def State.keyHash (s : State) (n : Nat) : List Byte :=
  ((s.nv.keySlots.take n).filterMap id).getLastD ((List.range 32).map Config.serviceKeyHash)

/-- A value that the table does not allow (22 R449). -/
def fuseRange (code v : Nat) : Bool :=
  match code with
  | 1 => v ≤ 3 | 2 => 1 ≤ v && v ≤ 5 | 3 => 1 ≤ v && v ≤ 55 | 4 => v ≤ 1 | 5 => v = 0 | 6 => v < 0x10000 | 7 => v ≠ 0
  | _ => false

/-- The slot number that the next change of a setting programs. -/
def State.nextSlot (s : State) (code station : Nat) : Nat :=
  if code = 5 then 1 + s.nv.keySlots.length else (s.fuseOf code station).used.length

/-- A slot is programmed: with its value, or void. -/
def State.program (s : State) (code station : Nat) (v : Option Nat) (hash : Option (List Byte)) : State :=
  let add (f : FuseSetting) : FuseSetting := { f with used := f.used ++ [v] }
  if code = 5 then { s with nv := { s.nv with keySlots := s.nv.keySlots ++ [hash] } }
  else if code = 3 then { s with nv := { s.nv with ceilings := s.nv.ceilings.modify station add } }
  else { s with nv := { s.nv with fuses := s.nv.fuses.modify (code - 1) add } }

/-- An index that tells fuse slots apart. -/
def fuseIndex (code station slot : Nat) : Nat := 1000 * code + 100 * station + slot

/-! The audit log (22 R454, R455). -/

/-- The log erases its oldest sector of 1,024 entries before it wraps. -/
def logPut (log : List AuditEntry) (a : AuditEntry) : List AuditEntry :=
  (if log.length < 65536 then log else log.drop 1024) ++ [a]

/-- An entry reaches flash: the mark of its SEQ is blown, up to 4,096 (22 R455). -/
def Nv.toLog (v : Nv) (a : AuditEntry) : Nv :=
  let m := if a.seq = 256 * (v.marks + 1) ∧ v.marks < 4096 then v.marks + 1 else v.marks
  { v with log := logPut v.log a, marks := m, marksFull := v.marksFull || m = 4096 }

def Nv.toLogAll : List AuditEntry → Nv → Nv
  | [], v => v
  | a :: l, v => Nv.toLogAll l (v.toLog a)

/-- Everything held goes to flash, in SEQ order. -/
def State.flushLog (s : State) : State := { s with nv := { Nv.toLogAll s.nv.held s.nv with held := [] } }

/-- Held entries reach flash outside PRINTING, under the supply test; entries that were dropped are counted in one LOST entry. -/
def execAuditFlush (s : State) : Result :=
  whileUp s fun s =>
    if s.mode = .printing ∨ s.supplyLow = true ∨ s.nv.readable = false then s
    else
      let s := s.flushLog
      if s.nv.lost = 0 then s
      else
        let n := s.nv.lost
        let s := { s with nv := { s.nv with lost := 0 } }
        (s.audit 11 0xFF 0xFF 0xFF n [] [] s.key.epoch s.key.epoch).flushLog

/-- FUSE_WRITE from its audit entry on: the entry reaches flash, then the slot is programmed and read back. -/
def State.fuseProgram (s : State) (c : Cmd) (code station v : Nat) (hash : List Byte) : State :=
  let k := s.nextSlot code station
  let old := if code = 5 then slice (s.keyHash s.nv.keySlots.length) 0 16 else leBytes 4 (s.fuseValue code station)
  let new := if code = 5 then slice hash 0 16 else leBytes 4 v
  let s := (s.audit 8 c.p.master code k St.OK old new s.key.epoch s.key.epoch).flushLog
  let good := Config.fuseReadsBack (fuseIndex code station k)
  let s := s.program code station (if good then some v else none) (if good then some hash else none)
  complete c (if good then St.OK else St.FLASH_ERROR) (s.slotsLeft code station + flag (!good) 31) s

def execFuseWrite (p : Packet) (s : State) : Result :=
  let code := par p 0 1
  let station := par p 1 1
  let v := par p 4 4
  let hash := slice (argBytes p) 0 32
  command Op.FUSE_WRITE .service p (fun s =>
    [inModes s fun m => m = .service, noTarget p, params p ([(0, 2), (4, 4)] ++ if code = 5 then [(8, 8)] else []),
      badParam (code < 1 || 7 < code || (if code = 3 then 4 < station else station ≠ 0)),
      (if code = 5 then argsFailed p 32 else (false, 0))])
    (fun c s =>
      let same := if code = 5 then v = 0 ∧ hash = s.keyHash s.nv.keySlots.length else v = s.fuseValue code station
      if same then complete c St.OK (s.slotsLeft code station) s
      else if !fuseRange code v || (code = 6 && (v < s.fuseValue 6 0 || s.boot.patchVer < v)) then complete c St.BAD_PARAM 0 s
      else if s.slotsLeft code station = 0 then complete c St.SLOTS_EXHAUSTED 0 s
      else if !s.nv.readable then complete c St.FLASH_ERROR (s.slotsLeft code station) s
      else s.fuseProgram c code station v hash) s

/-- FUSE_READ: the live value in [23:0], the slots left in [31:24]. -/
def execFuseRead (p : Packet) (s : State) : Result :=
  let code := par p 0 1
  let station := par p 1 1
  command Op.FUSE_READ .observer p (fun _ =>
    [noTarget p, params p [(0, 2)], badParam (code < 1 || 8 < code || (if code = 3 then 4 < station else station ≠ 0))])
    (fun c s =>
      let v := if code = 5 then leNat ((s.keyHash s.nv.keySlots.length).take 3) else if code = 8 then 1 else s.fuseValue code station
      complete c St.OK (v % 2 ^ 24 + 2 ^ 24 * s.slotsLeft code station) s) s

/-- Copies of log entries delivered to the AUDIT queue. -/
def deliverAudits : List AuditEntry → State → State
  | [], s => s
  | a :: l, s => deliverAudits l (s.deliver (.audit a) true false)

/-- AUDIT_READ: the entries of flash from a SEQ on. -/
def execAuditRead (p : Packet) (s : State) : Result :=
  let first := par p 0 4
  let count := par p 4 4
  command Op.AUDIT_READ .observer p (fun s =>
    [noTarget p, params p [(0, 8)], badParam (count < 1 || 4096 < count),
      ((findQueue fun q => s.queueType q = Ty.AUDIT).isNone, St.NO_QUEUE)])
    (fun c s =>
      let l := if s.nv.readable then s.nv.log.filter fun a => first ≤ a.seq && a.seq < first + count else []
      complete c St.OK l.length (deliverAudits l s)) s

end Sys2Proof.Machine
end

