-- ==== Sys2Proof/Machine/PairOps.lean ====
section
/-! DEFINITION. The pair as far as resets, modes and the supply need it (20 R408-R413): leaving SYNCED, starting and ending a
synchronisation, and the snapshot the LEAD sends. -/

namespace Sys2Proof.Machine

def setPair (s : State) (f : Pair → Pair) : State := { s with pair := f s.pair }

/-! Reasons of PAIR_UNSYNCED (20 R412). -/

def Unsync.LINK_DOWN : Nat := 1
def Unsync.ACK_TIMEOUT : Nat := 2
def Unsync.DRIVE : Nat := 3
def Unsync.SLOT : Nat := 4
def Unsync.STATION : Nat := 5
def Unsync.JOURNAL : Nat := 6
def Unsync.PAIRLINK : Nat := 7
def Unsync.SNAPSHOT : Nat := 8
def Unsync.TAKEOVER : Nat := 9

/-- A synchronisation that runs ends without SYNCED (20 R413). -/
def State.failSync (s : State) (st : Nat) : State :=
  if s.pair.syncing then
    finishWhere (fun c => c.op = Op.PAIR_SYNC) (fun _ => st) (fun _ => 0) (setPair s fun p => { p with syncing := false })
  else s

/-- SYNCED ends with a reason (20 R412). -/
def State.unsync (s : State) (reason : Nat) : State :=
  if s.pair.synced then
    (setPair s fun p => { p with synced := false, reason := reason, unsyncs := satAdd 0xFF p.unsyncs 1 }).raise
      Ev.PAIR_UNSYNCED 0xFF 0xFF [BitVec.ofNat 8 reason]
  else s

/-- The decisions of a LEAD that has lost its SHADOW are held from now on for FENCE_WAIT (20 R410). -/
def State.holdDecisions (s : State) : State :=
  setPair s fun p => { p with fenceFrom := some s.now, unacked := [] }

/-- Entries that waited for an acknowledgement go out, in order (20 R410). -/
def releaseEach : List Waiting → State → State
  | [], s => s
  | w :: ws, s =>
    releaseEach ws ({ s with pairWork := { s.pairWork with awaiting := s.pairWork.awaiting.erase w } }.enqueue w.entry w.host w.mgmt)

def State.releaseWhere (s : State) (p : Waiting → Bool) : State := releaseEach (s.pairWork.awaiting.filter p) s

/-- The heartbeat this chip sends (20 R408). -/
def State.ownBeat (s : State) (quiet : Bool) : Beat :=
  ⟨s.pair.role.code, s.mode.code, s.arbSeq, s.now, s.pair.synced, s.pair.msgApplied, quiet⟩

/-- Heartbeat loss is suppressed for 2 ms (05 R117). -/
def State.quieten (s : State) : State := { s with pairWork := { s.pairWork with quiet := some (s.now + ms 2) } }

/-! The snapshot (20 R413). -/

/-- One record: KIND, 0, LEN, ADDR, bytes. -/
def mirrorRecord (kind addr : Nat) (b : List Byte) : List Byte :=
  leBytes 1 kind ++ [0] ++ leBytes 2 b.length ++ leBytes 4 addr ++ b

/-- The registers that differ from their reset value, and through the alias the live words that do; the others stand at it on both
chips. -/
def State.registerRecords (s : State) : List (List Byte) :=
  (s.regs.map fun c => mirrorRecord 1 c.1 (leBytes 4 c.2.toNat)) ++
    s.live.map fun c => mirrorRecord 1 (0x80000 + c.1) (leBytes 4 c.2.toNat)

/-- The trim master (08 R162), where it is not 0. -/
def State.trimRecords (s : State) : List (List Byte) := s.mem.master.map fun c => mirrorRecord 2 (0x800000 + c.1) [c.2]

/-- The plan slots that hold a plan, entry 36·s + slot at an address of the PLAN region that the manual does not give (log entry 7). -/
def State.planRecords (s : State) : List (List Byte) :=
  (List.range 180).filterMap fun e =>
    ((s.planSlot (e / 36) (e % 36)).plan).map fun q => mirrorRecord 2 (Config.planAddr e) q.image

/-- What the LEAD's key, its sequence numbers and its halt causes are (04 R100, 02 R50; 20 R405, R412), as a journal record whose
layout is the model's (log entry 7). -/
def State.keyRecord (s : State) : List Byte :=
  leBytes 1 s.key.holder ++ leBytes 1 (num s.key.lapsed + 2 * num s.key.windowOpen) ++ leBytes 2 s.key.epoch.toNat ++
    leBytes 8 s.key.renewed ++ leBytes 8 s.key.windowEnds ++ leBytes 4 s.sheets.recordSeq ++ leBytes 4 s.eventSeq ++
    leBytes 4 s.arbSeq ++ leBytes 2 s.modes.haltMask.toNat ++ leBytes 2 s.modes.haltFirst

/-- A claim that waits in the window, in the model's layout (log entry 7). -/
def Claim.bytes (k : Claim) : List Byte :=
  leBytes 1 k.prio ++ leBytes 1 k.master ++ leBytes 1 k.cmd.p.sq ++ leBytes 1 k.cmd.p.cq ++ leBytes 2 k.cmd.p.tag ++
    leBytes 2 k.cmd.p.epoch.toNat ++ leBytes 4 k.cmd.seq

def State.keyRecords (s : State) : List (List Byte) :=
  mirrorRecord 3 0 s.keyRecord :: s.key.claims.map fun k => mirrorRecord 3 1 k.bytes

/-- The SHADOW takes the key, the numbers and the halt causes from the record. -/
def State.readKeyRecord (s : State) (b : List Byte) : State :=
  { s with
    key := { s.key with
      holder := fieldAt b 0 1, lapsed := bit (fieldAt b 1 1) 0, windowOpen := bit (fieldAt b 1 1) 1,
      epoch := BitVec.ofNat 16 (fieldAt b 2 2), renewed := fieldAt b 4 8, windowEnds := fieldAt b 12 8, claims := [] },
    sheets := { s.sheets with recordSeq := fieldAt b 20 4 }, eventSeq := fieldAt b 24 4, arbSeq := fieldAt b 28 4,
    modes := { s.modes with haltMask := BitVec.ofNat 16 (fieldAt b 32 2), haltFirst := fieldAt b 34 2 } }

/-- A claim of the LEAD's window is tracked as its command is. -/
def State.readClaim (s : State) (b : List Byte) : State :=
  let p : Packet :=
    { master := fieldAt b 1 1, sq := fieldAt b 2 1, index := 0, tag := fieldAt b 4 2, epoch := BitVec.ofNat 16 (fieldAt b 6 2),
      fence := false, cq := fieldAt b 3 1, target := 0xFFFF, params := leBytes 48 (fieldAt b 0 1), args := none, tick := s.now }
  let c : Cmd := ⟨Op.CLAIM_KEY, p, fieldAt b 8 4, [], false, false⟩
  { s.start c with key := { s.key with claims := s.key.claims ++ [⟨p.master, fieldAt b 0 1, c⟩] } }

/-- Records in order, in runs of at most 65,535 bytes: the originals of MIRROR blocks, each one line of BPD 8 (07 R158). -/
def packRecords : List (List Byte) → List Byte → List (List Byte)
  | [], run => [run]
  | r :: rs, run => if 65535 < run.length + r.length then run :: packRecords rs r else packRecords rs (run ++ r)

/-- MIRROR blocks sent one after another, numbered from 0. -/
def sendBlocks (band : Nat) : List (List Byte) → State → State
  | [], s => s
  | o :: os, s =>
    let (header, s) := s.encode ⟨4, 8, o.length, 1, 0xFF, band, 0, 0, o⟩
    sendBlocks (band + 1) os (s.sendMirror (.snapshot header o))

/-- What the LEAD sends in a synchronisation. The layout of the sheet journal is not in the manual: its bytes are open, in a record
behind the model's own (log entry 7). -/
def State.sendSnapshot (s : State) : State :=
  let (n, s) := s.drawNat
  let (b, s) := s.drawBytes (n % 65000)
  sendBlocks 0 (packRecords (s.registerRecords ++ s.planRecords ++ s.trimRecords ++ s.keyRecords ++ [mirrorRecord 3 0x100 b]) []) s

/-- A synchronisation starts: live mirroring runs from the first block on. -/
def State.beginSync (s : State) : State :=
  (setPair s fun p => { p with syncing := true, syncStart := s.now }).sendSnapshot

/-- A SHADOW answers on the link. -/
def State.shadowThere (s : State) : Bool := s.pair.paired && s.pair.role == .lead && 0 < s.pair.lanes && s.pair.peerRole = 2

end Sys2Proof.Machine
end

