-- ==== Sys2Proof/Machine/Resets.lean ====
section
/-! DEFINITION. The per-function resets (05 R117, R118): what each loses at once, what follows when it is over, the command
and the register that start them. -/

namespace Sys2Proof.Machine

/-- Commands of a kind are stopped by a reset. -/
def abortOps (ops : List Nat) (s : State) : State :=
  finishWhere (fun c => ops.contains c.op) (fun _ => St.ABORTED_RESET) (fun _ => 0) s

/-- What each function takes, in ticks. -/
def resetTicks (f : Nat) : Nat :=
  us ([20, 50, 100, 3000, 3000, 3000, 3000, 3000, 1000, 10, 1000, 2000, 80, 200, 1000].getD f 0)

def queuesReset : List Nat → State → State
  | [], s => s
  | q :: qs, s =>
    queuesReset qs ((s.setImm (Fld.QUE_ENABLE q) 0).setQueue q fun Q => { Q with head := 0, tail := 0, irqCount := 0, oldest := none })

/-- HOSTQ: every queue disabled and empty; the bands of sheets before their Hinge are asked for again. -/
def State.resetHostq (s : State) : State :=
  (queuesReset (List.range 32) (s.abortApplies fun a => a.group = Grp.QUE_RING)).refeedAll false

/-- DMA: every list ends as for a bus error (06 R136). -/
def State.resetDma (s : State) : State :=
  let s := endAllLists St.ABORTED_RESET (List.range 16) s
  { s with dma := { s.dma with stopped := false, draining := false } }.refeedAll false

def Engine.unstrike (e : Engine) : Engine := { e with strikes := [] }

/-- A block in decoding goes back to the block map. -/
def Band.undecode (b : Band) : Band := if b.state = .decoding then { b with state := .staged, verdicts := [] } else b

def Sheet.undecode (sh : Sheet) : Sheet := { sh with bands := sh.bands.map Band.undecode }

/-- DECOMP: blocks in decoding go back to the block map, without a strike. -/
def State.resetDecomp (s : State) : State :=
  let s := s.dropJobs fun _ => true
  let s := { s with feed := { s.feed with engines := s.feed.engines.map Engine.unstrike } }
  let s := { s with sheets := { s.sheets with slots := s.sheets.slots.map (Option.map Sheet.undecode) } }
  s.refeedAll false

def axesReset : List Nat → State → State
  | [], s => s
  | n :: ns, s => axesReset ns ((s.deEnergise n .off).setAxis n fun a => { a with pos := 0 })

/-- MOTION: every bridge off, every axis position and encoder count 0. -/
def State.resetMotion (s : State) : State :=
  let s := axesReset (List.range 24) (bridgesOff (List.range 12) s)
  let s := { s with
    encoders := s.encoders.map fun e => { e with count := 0, high := 0, fall := 0, raised := false },
    groups := s.groups.map fun g => { g with state := 0, cmd := none } }
  (abortOps motionOps s).abortApplies fun a => a.group = Grp.DRV_MOTOR || a.group = Grp.AXS_GEOM

/-- A slot over a LOOPS reset: open as with HOLD 1, its states and its reference 0. -/
def loopsReset : List Nat → State → State
  | [], s => s
  | n :: ns, s =>
    loopsReset ns ((s.openLoop n true).setLoop n fun L => { L with
      x := List.replicate 8 0, sat := List.replicate 4 0, frozen := 0, r := 0, r1 := 0, r2 := 0 })

/-- LOOPS: the slots that were closed are to be closed again within 50 ms. -/
def State.resetLoops (s : State) : State :=
  let closed := (List.range 24).filter fun n => (s.loop n).state = .closed || (s.loop n).state = .fenced
  let s := loopsReset (List.range 24) s
  let s := { s with resets := { s.resets with
    rearm := (s.resets.rearm.filter fun r => !closed.contains r.1) ++ closed.map fun n => (n, s.now) } }
  (abortOps [Op.LOOP_CLOSE, Op.PROFILE_RUN] s).abortApplies fun a => a.group = Grp.LOOP_COEF

def hvReset : List Nat → State → State
  | [], s => s
  | n :: ns, s =>
    hvReset ns (if (s.hvCh n).en then (s.setHv n fun h => { h with corr := 0, arcPause := false }).rampTo n 0 else s)

/-- HV: every channel ramps to 0. -/
def State.resetHv (s : State) : State := abortOps [Op.HV_SET, Op.HV_ENABLE] (hvReset (List.range 24) s)

/-- FUSER: heater drive stops. -/
def State.resetFuser (s : State) : State :=
  { s with zones := s.zones.map fun Z => { Z with firing := false, accum := 0, highFrom := none } }

/-- AFE: conversions are lost. -/
def State.resetAfe (s : State) : State :=
  (abortOps [Op.AFE_CALIBRATE] (resetBanks [0, 1, 2] s)).abortApplies fun a => a.group = Grp.AFEB_CHAN

/-- PAIRLINK: the peer is told first, then the link and SYNCED are lost; both chips suppress heartbeat loss for 2 ms. -/
def State.resetPairlink (s : State) : State :=
  let s := if s.pair.paired then s.mirror (.heartbeat (s.ownBeat true)) else s
  let s := (s.unsync Unsync.PAIRLINK).failSync St.ABORTED_RESET
  (setPair s fun p => { p with lanes := 0, peerRole := 0, unacked := [], lastBeat := none }).quieten

/-- What function `f` loses as its reset begins. -/
def State.resetEffect (s : State) (f : Nat) : State :=
  if f = Fn.HOSTQ then s.resetHostq else if f = Fn.DMA then s.resetDma else if f = Fn.DECOMP then s.resetDecomp
  else if f < Fn.MOTION then s.beginStationReset (f - Fn.STATION)
  else if f = Fn.MOTION then s.resetMotion else if f = Fn.LOOPS then s.resetLoops else if f = Fn.HV then s.resetHv
  else if f = Fn.FUSER then s.resetFuser else if f = Fn.AFE then s.resetAfe
  else if f = Fn.NVSTORE then s.stopStore St.ABORTED_RESET else if f = Fn.PAIRLINK then s.resetPairlink else s

/-- The reset of function `f` begins; one already running is not disturbed (05 R118). A forced reset of MOTION or HV while
PRINTING is a safe-stop with FORCED_RESET; outside PRINTING no FORCE is needed, and FORCE changes nothing (DEDUCED, log entry 58). -/
def State.beginReset (s : State) (f : Nat) : State :=
  if s.inReset f then s
  else
    let printing := s.mode = .printing
    let s := ((s.enterReset f).resetEffect f).watchHold
    if (f = Fn.MOTION ∨ f = Fn.HV) ∧ printing then s.halt Halt.FORCED_RESET else s

def beginResets : List Nat → State → State
  | [], s => s
  | f :: fs, s => beginResets fs (s.beginReset f)

/-- A function that may not be reset now: MOTION or HV in PRINTING without FORCE (05 R117). -/
def State.needsForce (s : State) (force : Bool) (f : Nat) : Bool :=
  (f = Fn.MOTION || f = Fn.HV) && s.mode = .printing && !force

/-- The STATIONn function of a station whose domain is off. -/
def State.offStation (s : State) (f : Nat) : Bool := Fn.STATION ≤ f && f < Fn.MOTION && !(s.station (f - Fn.STATION)).powered

/-- The functions of a mask. -/
def functions (m : Nat) : List Nat := maskList m 15

/-- FUNCTION_RESET. DESIGN CHOICE: a station that relocks after an unlock is TARGET_BUSY while its 3 ms reset runs and free from its end on,
also when the PLL still relocks; the manual's "during this time" does not say which (10 R218, log entry 58). -/
def execFunctionReset (p : Packet) (s : State) : Result :=
  let fs := functions (par p 0 2)
  let force := bit (par p 2 1) 0
  command Op.FUNCTION_RESET .owner p (fun s =>
    [(fs.any (s.needsForce force), St.WRONG_MODE), (fs.any s.offStation, St.DOMAIN_OFF),
      (fs.any s.inReset, St.TARGET_BUSY), noTarget p, params p [(0, 3)],
      badParam (par p 0 2 = 0 || bit (par p 0 2) 15 || 1 < par p 2 1)])
    (fun c s => beginResets fs (s.start { c with notes := [par p 0 2] })) s

/-- A write of SYS_FUNC_RESET, judged bit by bit: a bit that may not act is dropped and counted (05 R117). -/
def funcBits (force : Bool) : List Nat → State → State
  | [], s => s
  | f :: fs, s =>
    funcBits force fs (if s.inReset f || s.offStation f || s.needsForce force f then s.refuse else s.beginReset f)

/-! When a reset is over. -/

def rampBack : List Nat → State → State
  | [], s => s
  | n :: ns, s =>
    rampBack ns (if (s.hvCh n).en && !(s.hvCh n).disabling then s.rampTo n (s.imm (Fld.HV_SET n)) else s)

def restartZones : List Nat → State → State
  | [], s => s
  | z :: zs, s =>
    restartZones zs (if (s.zone z).enabled then (s.closeLoop (s.imm (Fld.FZ_SLOT z)) 0).moveZone z else s)

/-- What follows the end of a reset: the station resumes, enabled channels ramp back, the temperature loops restart. -/
def State.afterReset (s : State) (f : Nat) : State :=
  if Fn.STATION ≤ f ∧ f < Fn.MOTION then s.resume (f - Fn.STATION)
  else if f = Fn.HV then rampBack (List.range 24) s
  else if f = Fn.FUSER then restartZones (List.range 4) s
  else s

/-- A function has finished its reset: its bit leaves BUSY and every FUNCTION_RESET that waits for it. -/
def execFunctionResetDone (function : Nat) (s : State) : Result :=
  whileUp s fun s =>
    if s.inReset function then
      let s := s.at (s.resets.started.getD function 0 + resetTicks function)
      let s := { s with resets := { s.resets with busy := clrBit s.resets.busy function } }
      let s := s.afterReset function
      let s := { s with running := s.running.map fun c =>
        if c.op = Op.FUNCTION_RESET then { c with notes := c.notes.map fun m => clrBit m function } else c }
      finishWhere (fun c => c.op = Op.FUNCTION_RESET && c.notes = [0]) (fun _ => St.OK) (fun _ => 0) s
    else s

/-! The resets as steps of their own: each begins unless it runs already. -/

def State.resetStep (s : State) (f : Nat) (force : Bool) (tick : Nat) : Result :=
  whileUp s fun s =>
    if s.offStation f || s.needsForce force f then s else (s.at tick).beginReset f

def execHostqReset (tick : Nat) (s : State) : Result := s.resetStep Fn.HOSTQ false tick
def execDmaReset (tick : Nat) (s : State) : Result := s.resetStep Fn.DMA false tick
def execDecompReset (tick : Nat) (s : State) : Result := s.resetStep Fn.DECOMP false tick
def execStationReset (station tick : Nat) (s : State) : Result := s.resetStep (Fn.STATION + station) false tick
def execMotionReset (force : Bool) (tick : Nat) (s : State) : Result := s.resetStep Fn.MOTION force tick
def execLoopsReset (tick : Nat) (s : State) : Result := s.resetStep Fn.LOOPS false tick
def execHvReset (force : Bool) (tick : Nat) (s : State) : Result := s.resetStep Fn.HV force tick
def execFuserReset (tick : Nat) (s : State) : Result := s.resetStep Fn.FUSER false tick
def execAfeReset (tick : Nat) (s : State) : Result := s.resetStep Fn.AFE false tick
def execNvstoreReset (tick : Nat) (s : State) : Result := s.resetStep Fn.NVSTORE false tick
def execPairlinkReset (tick : Nat) (s : State) : Result := s.resetStep Fn.PAIRLINK false tick

end Sys2Proof.Machine
end

