-- ==== Sys2Proof/Machine/RegRead.lean ====
section
/-! DEFINITION. Reading a register (24 R478-R489): the present values of its RO and W1C fields, the stored value of its RW
fields, the shadow or the live value of its RWS fields, the data windows, gated islands, and the snapshots of 64-bit
quantities (01 R19). -/

namespace Sys2Proof.Machine

/-- Fields of a word: place, width, value. -/
def pack : List (Nat × Nat × Nat) → Nat
  | [] => 0
  | (l, w, v) :: fs => v % 2 ^ w * 2 ^ l + pack fs

def maskOf (n : Nat) (p : Nat → Bool) : Nat := (List.range n).foldl (fun m i => if p i then m + 2 ^ i else m) 0
def sx (w : Nat) (v : Int) : Nat := unsigned w v

def LinkState.code : LinkState → Nat
  | .down => 0 | .t0 | .t1 | .t2 | .wait => 1 | .up => 2 | .loopback => 3

/-! The system block (24 R482). -/

def State.modeWord (s : State) : Nat :=
  pack [(0, 3, s.mode.code), (3, 1, num s.modes.memReady), (4, 1, num s.modes.draining),
    (5, 1, num (s.modes.stopping ≠ .none)), (8, 2, s.pair.role.code)]

def State.haltWord (s : State) : Nat :=
  pack [(0, 16, s.modes.haltMask.toNat), (16, 5, if s.modes.haltMask = 0 then 0x1F else s.modes.haltFirst)]

/-- SYS_BOOT.PHASE: before RUN each phase lasts until its time after the release (05 R113). -/
def State.phase (s : State) : Nat :=
  if 5 ≤ s.boot.phase then 5
  else if s.now < us 200 then 0 else if s.now < us 500 then 1 else if s.now < ms 1 then 2 else if s.now < ms 30 then 3 else 4

/-- SYS_BOOT: the patch stands in it from the end of PATCH on, the profile from the end of PROFILE on. -/
def State.bootWord (s : State) : Nat :=
  let b := s.boot
  pack [(0, 4, s.phase), (4, 1, num (b.patchValid && 4 ≤ s.phase)), (5, 1, if 4 ≤ s.phase then b.patchRegion else 0),
    (6, 2, if s.phase = 5 then b.profile else 0), (16, 16, if 4 ≤ s.phase then b.patchVer else 0)]

def State.keyWord (s : State) : Nat :=
  let k := s.key
  pack [(0, 2, k.holder), (2, 1, num k.lapsed), (3, 1, num k.windowOpen), (4, 1, num k.service), (16, 16, k.epoch.toNat)]

def State.tumblerWord (s : State) : Nat :=
  let t := s.tumbler
  pack [(0, 16, t.lastStatus), (16, 8, t.group), (24, 5, t.inst), (29, 1, num (t.waiting.any fun a => a.cmd.isNone))]

def State.memLive (s : State) : Nat :=
  pack ((List.range 5).map fun i => (4 * i, 4, s.feed.winMiB.getD i 0)) +
    pack [(20, 4, s.feed.scratchMiB), (24, 7, s.stagingBytes / MiB)]

def State.decStat (s : State) : Nat := maskOf 12 (fun e => (s.engine e).active) + 2 ^ 16 * s.feed.redispatched

/-- LEAD of SYS_FEED_STAT, in µs (08 R179). -/
def State.feedStat (s : State) : Nat :=
  match s.stagingLead with
  | none => 0xFFFFFF
  | some t => min 0xFFFFFE (t.toNat / 100)

def State.requestsOpen (s : State) : Nat := (s.bandsWhere fun b => b.state = .requested).length

def State.stageStat (s : State) : Nat :=
  pack [(0, 16, min 0xFFFF ((ringUsed s.feed.ring + 4095) / 4096)), (16, 16, min 0xFFFF s.requestsOpen)]

def State.scrubStat (s : State) : Nat := pack [(0, 21, s.mem.position), (21, 11, s.mem.passes)]

def State.planRunStat (s : State) : Nat :=
  let r := s.run
  let on := r.slowStep ≠ 0
  pack [(0, 6, r.runN), (6, 1, num on), (7, 3, if on then r.slowStation else 0), (10, 6, if on then r.slowEmitter else 0),
    (16, 6, if on then r.slowN else 0)]

def State.domainStat (s : State) : Nat :=
  let up := num (s.mode ≠ .dormant)
  pack [(0, 1, up), (1, 1, up), (2, 1, num s.supply.memPower), (3, 1, up), (4, 1, up),
    (5, 5, maskOf 5 fun n => (s.station n).powered), (10, 1, num s.pair.paired),
    (11, 5, maskOf 5 fun n => (s.station n).pending.isSome), (16, 1, num s.supply.refused)]

def State.safetyStat (s : State) : Nat :=
  pack [(0, 1, num s.safety.interlock), (1, 1, num s.safety.overtemp), (2, 1, num s.safety.zcLost),
    (16, 16, s.safety.halfUs)]

def State.pairStat (s : State) : Nat :=
  let p := s.pair
  pack [(0, 1, num s.boot.strap), (1, 1, num s.boot.present), (2, 1, num p.paired), (3, 2, p.lanes), (5, 1, num p.synced),
    (6, 1, num p.syncing), (7, 2, p.peerRole), (9, 1, num p.dboltIn), (10, 1, num p.dboltOut), (11, 1, num p.leadOut),
    (16, 8, p.reason)]

def State.convLo (s : State) : Nat :=
  let p := s.pair
  pack [(0, 12, p.drives), (12, 5, p.stations), (17, 1, num p.axes), (18, 1, num p.acked)]

def State.pairCnt (s : State) : Nat :=
  pack [(0, 8, s.pair.takeovers), (8, 8, s.pair.unsyncs), (16, 16, s.pair.msgErrors)]

/-- A region is valid: readable, with its ENGINE_ID; the log, when it holds an entry (22 R442-R444, R456). -/
def State.regionValid (s : State) (r : Nat) : Bool := if r < 8 then s.regionGood r else s.nv.readable && !s.nv.log.isEmpty

def State.nvStat (s : State) : Nat :=
  pack [(0, 1, num s.nv.storing.isSome), (1, 3, (s.nv.storing.map Prod.fst).getD 0), (4, 9, maskOf 9 s.regionValid),
    (13, 1, num s.nv.truncated), (14, 1, num s.nv.marksFull), (16, 16, s.nv.mib)]

/-- The input level of each ball: what the device drives, or what it finds (24 R486). -/
def State.gpioIn (s : State) : Nat :=
  maskOf 32 fun n => if (s.reg Reg.SYS_GPIO_OE).getLsbD n then (s.reg Reg.SYS_GPIO_OUT).getLsbD n else Config.gpioLevel n s.now

/-- SHT_SLOTs_STATE. -/
def State.slotWord (s : State) (i : Nat) : Nat :=
  match s.sheet? i with
  | none => pack [(8, 8, 0xFE)]
  | some sh => pack [(0, 3, sh.state.code), (3, 5, sh.stations), (8, 8, sh.location), (16, 16, sh.linesLost)]

def State.thermWord (s : State) (i : Nat) : Nat :=
  let t := s.therm i
  pack [(0, 16, sx 16 t.temp), (16, 1, num t.opened), (17, 1, num t.short)]

/-- The fixed words of the system block. -/
def sysFixed : List (Nat × (State → Nat)) :=
  [(Reg.SYS_ID, fun _ => 0x4C4D5032), (Reg.SYS_REV, fun _ => 0x010000A1),
    (Reg.SYS_SERIAL_LO, fun _ => Config.dieSerial.toNat % 2 ^ 32), (Reg.SYS_SERIAL_HI, fun _ => Config.dieSerial.toNat / 2 ^ 32),
    (Reg.SYS_ENGINE_ID, fun s => s.acting 7), (Reg.SYS_TIME_LO, fun s => s.now), (Reg.SYS_TIME_HI, fun s => s.now / 2 ^ 32),
    (Reg.SYS_MODE, State.modeWord), (Reg.SYS_HALT, State.haltWord), (Reg.SYS_BOOT, State.bootWord),
    (Reg.SYS_FUNC_RESET_STATE, fun s => s.resets.busy), (Reg.SYS_KEY_STATE, State.keyWord), (Reg.SYS_ARB_SEQ, State.arbSeq),
    (Reg.SYS_WRITE_REFUSED, State.refused), (Reg.MGMT_SYNC_ERR, fun s => s.mgmt.syncErrors),
    (Reg.SYS_TUMBLER_STAT, State.tumblerWord), (Reg.SHT_RECORD_SEQ, fun s => s.sheets.recordSeq),
    (Reg.SYS_DMA_STAT, State.dmaStat),
    (Reg.SYS_SHX_STAT, fun s => pack [(0, 12, s.feed.hdrRejects), (12, 12, s.feed.condemned), (24, 8, s.feed.verifyRaw)]),
    (Reg.SYS_MEM_LIVE, State.memLive), (Reg.SYS_DEC_STAT, State.decStat), (Reg.SYS_FEED_STAT, State.feedStat),
    (Reg.SYS_STAGE_STAT, State.stageStat), (Reg.SYS_STAGE_STALE, fun s => s.feed.stale),
    (Reg.SYS_MEM_SCRUB_STAT, State.scrubStat), (Reg.SYS_MEM_CNT, State.memCnt), (Reg.SYS_MEM_LAST, State.memLast),
    (Reg.SYS_PLAN_STAT, State.planRunStat), (Reg.SYS_LOOP_STAT, State.loopWorst), (Reg.SYS_BUS_STAT, State.busStat),
    (Reg.SYS_SUPPLY_STAT, State.supplyStat),
    (Reg.SYS_SUPPLY_V5, fun s => pack [(0, 8, s.supply.v5), (8, 8, sx 8 s.supply.temp)]),
    (Reg.SYS_DOMAIN_STATE, State.domainStat), (Reg.SYS_SAFETY_STAT, State.safetyStat), (Reg.SYS_PAIR_STAT, State.pairStat),
    (Reg.SYS_PAIR_CONV_LO, State.convLo), (Reg.SYS_PAIR_CONV_HI, fun s => s.pair.slots),
    (Reg.SYS_PAIR_ACK, fun s => s.pair.ackLag), (Reg.SYS_PAIR_CNT, State.pairCnt), (Reg.SYS_NV_STAT, State.nvStat),
    (Reg.SYS_AUDIT_SEQ, fun s => s.nv.auditSeq), (Reg.SYS_AUDIT_HELD, fun s => s.nv.held.length),
    (Reg.SYS_GPIO_IN, State.gpioIn)]

/-- The RO and W1C fields of a word of the system block, by its offset. -/
def State.sysStatus (s : State) (o : Nat) : Nat :=
  if 0x130 ≤ o ∧ o < 0x158 then fieldAt s.cred.words (o - 0x130) 4
  else if 0x200 ≤ o ∧ o < 0x240 then (if o % 16 = 12 then s.zoneStat ((o - 0x200) / 16) else 0)
  else if 0x240 ≤ o ∧ o < 0x280 then (if o % 8 = 4 then s.thermWord ((o - 0x240) / 8) else 0)
  else if 0x300 ≤ o ∧ o < 0x480 then
    let i := (o - 0x300) / 16
    if o % 16 = 0 then s.slotWord i
    else match s.sheet? i with
      | none => 0
      | some sh => if o % 16 = 4 then sh.id else sh.flags
  else match sysFixed.find? fun x => x.1 = o with
    | some x => x.2 s
    | none => 0

/-! The AFE block (24 R485). -/

def State.sliceWord (s : State) (b i : Nat) : Nat :=
  let B := s.bank b
  pack [(0, 16, sx 16 (B.ofs.getD i 0)), (16, 16, sx 16 (B.gain.getD i 0))]

def State.diagWord (s : State) (b i k : Nat) : Nat :=
  let d := fun j => (s.bank b).diagAt i j
  match k with
  | 0 => pack [(0, 16, sx 16 (d 0)), (16, 16, sx 16 (d 6))]
  | 3 => sx 16 (d 3)
  | _ => sx 32 (d k)

def State.bankWord (s : State) (b o : Nat) : Nat :=
  let B := s.bank b
  match o with
  | 0 => s.bankStat b
  | 4 => pack [(0, 16, sx 16 B.calTj), (16, 16, B.cycles)]
  | 8 => B.frames
  | 12 => pack [(0, 16, B.late), (16, 16, B.withheld)]
  | 16 => pack [(0, 9, B.timed), (9, 9, B.scan)]
  | _ => 0

def State.afeStatus (s : State) (o : Nat) : Nat :=
  let c := s.afeChan (s.imm Fld.AFE_READ_SEL_CHANNEL)
  if o = 0x10 then pack [(0, 16, sx 16 s.afe.tj), (16, 16, s.afe.zeroRejects)]
  else if o = 0x14 then s.afeCalStat
  else if o = 0x1C then pack [(0, 16, sx 16 c.value), (16, 16, min 0xFFFF ((s.now - c.at_) / 100))]
  else if o = 0x20 then pack [(0, 14, c.raw), (14, 3, c.slice)]
  else if 0x40 ≤ o ∧ o < 0xA0 then s.bankWord ((o - 0x40) / 0x20) ((o - 0x40) % 0x20)
  else if 0x100 ≤ o ∧ o < 0x13C then s.sliceWord ((o - 0x100) / 20) ((o - 0x100) / 4 % 5)
  else if 0x200 ≤ o ∧ o < 0x3E0 then s.diagWord ((o - 0x200) / 0x20 / 5) ((o - 0x200) / 0x20 % 5) ((o - 0x200) % 0x20 / 4)
  else 0

/-! Queues, DMA channels, HV, loops, the axis block, drives. -/

def State.queStatus (s : State) (q o : Nat) : Nat :=
  if o = 0x18 then pack [(0, 12, (s.queue q).head), (16, 12, (s.queue q).tail)]
  else if o = 0x1C then (s.queue q).stat else 0

def State.dmaStatus (s : State) (c o : Nat) : Nat :=
  let C := s.channel c
  match o with
  | 4 => s.dmaState c
  | 8 => s.currentDesc c
  | 12 => s.currentDesc c / 2 ^ 32
  | 16 => C.done
  | 20 => C.bytes
  | 24 => C.bytes / 2 ^ 32
  | 28 => pack [(0, 3, C.err), (16, 16, C.last)]
  | _ => 0

def State.hvStatus (s : State) (n o : Nat) : Nat :=
  if o = 0x10 then s.hvStat n
  else if o = 0x14 then pack [(0, 16, (s.hvCh n).arcs), (16, 16, (s.hvCh n).targetAt s.now)] else 0

def State.loopStatus (s : State) (n o : Nat) : Nat :=
  let L := s.loop n
  if o = 0x34 then s.loopStat n
  else if o = 0x38 then sx 32 L.rin
  else if o = 0x3C then pack [(0, 16, L.satCount), (16, 8, L.oscCount), (24, 8, L.accSat)] else 0

def State.axsStatus (s : State) (n o : Nat) : Nat :=
  if o = 0x2C then sx 32 (s.axisPos n)
  else if o = 0x30 then sx 64 (s.axisPos n) / 2 ^ 32
  else if o = 0x34 then sx 32 (s.axisVel n)
  else if o = 0x38 then s.axisStat n else 0

def State.encStatus (s : State) (n o : Nat) : Nat :=
  let e := s.encoder n
  if o = 4 then sx 32 e.count
  else if o = 8 then sx 64 e.count / 2 ^ 32
  else if o = 12 then pack [(0, 16, e.smallBacks), (16, 8, e.reversals), (24, 8, e.qerr)] else 0

def State.levelStatus (s : State) (o : Nat) : Nat :=
  let lv := fun i => s.path.level.getD i false
  if o = 0 then maskOf 32 lv
  else if o = 4 then maskOf 32 fun i => lv (32 + i)
  else if o = 8 then pack [(0, 8, s.path.jams), (8, 8, s.path.drops), (16, 16, s.path.regLate)] else 0

def Drive.statusWord (D : Drive) (o : Nat) : Nat :=
  let t := D.stats
  match o with
  | 0x1C => pack [(12, 1, num t.capDone), (13, 6, t.capNext)]
  | 0x44 => sx 32 D.speed
  | 0x48 => pack [(0, 16, sx 16 D.id), (16, 16, sx 16 D.iq)]
  | 0x4C => pack [(0, 8, D.code), (16, 16, D.fallbacks)]
  | 0x50 => pack [(0, 16, t.angle), (16, 16, t.encAngle)]
  | 0x54 => pack [(0, 16, t.emf), (16, 16, t.expected)]
  | 0x58 => pack [(0, 16, sx 16 t.vd), (16, 16, sx 16 t.vq)]
  | 0x5C => sx 32 t.encSpeed
  | 0x60 => pack [(0, 16, t.resid), (16, 4, t.failing)]
  | 0x64 => pack [(0, 16, t.normal), (16, 16, t.caught)]
  | 0x68 => pack ((List.range 4).map fun i => (8 * i, 8, t.trips.getD i 0))
  | 0x6C => t.fbTime / 100000
  | 0x70 => t.fwTime / 100000
  | 0x74 => t.peak
  | 0x78 => pack [(0, 12, t.snapVbus), (12, 4, t.snapCode), (16, 16, sx 16 t.snapRpm)]
  | _ =>
    if 0x80 ≤ o ∧ o < 0x180 then
      let p := t.cap.getD ((o - 0x80) / 4) (0, 0)
      pack [(0, 16, sx 16 p.1), (16, 16, sx 16 p.2)]
    else 0

/-! Stations (24 R483). -/

def State.pllStat (s : State) (n : Nat) : Nat :=
  let p := s.turned n
  pack [(0, 1, num p.locked), (1, 1, num !p.locked), (2, 1, num p.relocking), (3, 1, num p.survey), (4, 1, num p.clamped),
    (5, 5, p.bandLive), (10, 6, p.pi), (16, 16, p.unlocks)]

def State.planStat (s : State) (n : Nat) : Nat :=
  match s.active n with
  | none => pack [(9, 6, (s.plans n).source), (15, 1, num (s.blanked n))]
  | some p => pack [(0, 6, p.n), (6, 3, p.passes), (9, 6, (s.plans n).source), (15, 1, num (s.blanked n)),
      (16, 16, p.reach (s.headOfs n))]

def State.slowUsable (s : State) (n e : Nat) : Bool := (s.slowAlt n e).isSome
def State.altUsable (s : State) (n e : Nat) : Bool := (s.sameSpeed n e).isSome || s.slowUsable n e

/-- STNn_LANE_MAPi. -/
def State.laneWord (s : State) (n i : Nat) : Nat :=
  pack ((List.range 4).map fun b => (8 * b, 8, match s.active n with | some p => p.lanes.getD (4 * i + b) 0x3F | none => 0x3F))

/-- READY: present lines ahead of the next line the station reads (08 R179). -/
def State.linesAhead (s : State) (n : Nat) : Nat :=
  let ids := (s.imagedOn n).filterMap fun i => (s.sheet? i).map Sheet.id
  ((s.station n).window.filter fun w => !w.bad && (!ids.contains w.sheetId || (s.station n).nextRead ≤ w.line)).length

def Emitter.sampleWord (x : Emitter) : Nat := pack [(0, 12, x.sample), (12, 16, x.smpSweep)]

def State.emitWords (s : State) (n o : Nat) : Nat :=
  if o < 0x600 then (s.emitter n ((o - 0x500) / 4)).sampleWord
  else if o < 0x800 then (s.emitter n ((o - 0x700) / 4)).dots
  else if o < 0x900 then (s.emitter n ((o - 0x800) / 4)).lost
  else if o < 0xA00 then (s.emitter n ((o - 0x900) / 4)).dutySum
  else (s.emitter n ((o - 0xA00) / 32)).hist.getD ((o - 0xA00) / 4 % 8) 0

def State.linkWords (s : State) (n o : Nat) : Nat :=
  let l := s.link n
  match o with
  | 0x604 => pack [(0, 3, l.state.code), (3, 1, num l.retLocked), (4, 1, num l.laserEn), (16, 16, l.trainings)]
  | 0x608 => pack [(0, 16, l.segErrors), (16, 16, l.retErrors)]
  | 0x60C => pack [(0, 16, l.vendor), (16, 16, l.model)]
  | 0x610 => pack [(0, 16, l.fw), (16, 6, l.emitters), (22, 3, l.caps)]
  | 0x614 => pack [(0, 8, sx 8 l.temp), (8, 3, l.flags), (16, 16, l.headFaults)]
  | 0x618 => pack [(0, 16, if s.modes.memReady then min 0xFFFF (s.capacity n) else 0), (16, 16, min 0xFFFF (s.linesAhead n))]
  | 0x61C => (s.station n).underrun
  | 0x620 => s.trimStat n
  | _ => 0

def State.pipeWords (s : State) (n o : Nat) : Nat :=
  let p := s.pipe n
  match o with
  | 0x300 => pack [(1, 1, num p.swapWait), (2, 1, p.bank)]
  | 0x31C => maskOf 32 fun e => (s.emitter n e).clamp
  | 0x320 => pack [(0, 2, maskOf 2 fun e => (s.emitter n (32 + e)).clamp), (2, 1, num p.headClamp), (16, 16, p.headDuty)]
  | 0x324 => pack [(0, 16, p.clamps), (16, 16, p.clampSweep)]
  | 0x330 => maskOf 32 fun e => (s.emitter n e).failed
  | 0x334 => maskOf 2 fun e => (s.emitter n (32 + e)).failed
  | 0x33C => pack [(0, 6, p.lastEmit), (6, 3, p.lastKind), (9, 7, p.repeats), (16, 16, p.lastFirst)]
  | _ => 0

def State.planWords (s : State) (n o : Nat) : Nat :=
  let P := s.plans n
  let valid := fun i => ((s.planSlot n i).usable).isSome
  match o with
  | 0x288 => s.planStat n
  | 0x28C => ((s.active n).map Plan.planId).getD 0
  | 0x290 => maskOf 32 valid
  | 0x294 => maskOf 4 fun i => valid (32 + i)
  | 0x298 => maskOf 32 (s.altUsable n)
  | 0x29C => maskOf 32 (s.slowUsable n)
  | 0x2A0 => maskOf 2 (fun e => s.altUsable n (32 + e)) + 4 * maskOf 2 fun e => s.slowUsable n (32 + e)
  | 0x2A4 => pack [(0, 8, P.diagReason), (8, 6, P.diagSlot), (16, 16, P.diagDetail)]
  | 0x2A8 => pack [(0, 16, P.failovers), (16, 16, P.blankSweeps)]
  | _ => s.laneWord n ((o - 0x2C0) / 4)

def State.scanWords (s : State) (n o : Nat) : Nat :=
  let c := s.scan n
  match o with
  | 0x4C => pack [(0, 3, c.state.code), (3, 4, c.facet), (7, 4, c.coasted), (16, 16, sx 16 c.slew)]
  | 0x50 => sx 32 c.period
  | 0x54 => c.sweeps
  | 0x58 => c.sweeps / 2 ^ 32
  | 0x5C => pack [(0, 16, sx 16 c.err), (16, 16, sx 16 c.phaseErr)]
  | 0x60 => pack [(0, 16, c.missing), (16, 16, c.spurious)]
  | 0x118 => pack [(0, 16, sx 16 (s.baseOf n)), (16, 16, sx 16 (s.pll n).magLive)]
  | 0x120 => s.pllStat n
  | 0x124 => (s.pll n).vctl
  | _ => if 0x64 ≤ o ∧ o < 0x94 then sx 16 (c.sigMeas.getD ((o - 0x64) / 4) 0) else 0

def State.stnStatus (s : State) (n o : Nat) : Nat :=
  if o < 0x200 then s.scanWords n o
  else if 0x288 ≤ o ∧ o < 0x2E0 then s.planWords n o
  else if 0x300 ≤ o ∧ o < 0x400 then s.pipeWords n o
  else if 0x600 ≤ o ∧ o < 0x640 then s.linkWords n o
  else if 0x640 ≤ o ∧ o < 0x670 then
    let f := (o - 0x640) / 4
    pack [(0, 16, (s.scan n).facetMiss.getD f 0), (16, 16, sx 16 ((s.scan n).facetErr.getD f 0))]
  else if 0x500 ≤ o ∧ o < 0xE40 ∧ o ≠ 0x67C then s.emitWords n o
  else 0

/-! One word. -/

/-- The present values of the RO and W1C fields of a register. -/
def State.status (s : State) (p : Pos) : Nat :=
  match p.block with
  | .sys => s.sysStatus p.off
  | .afe => s.afeStatus p.off
  | .que => s.queStatus p.inst p.off
  | .dma => s.dmaStatus p.inst p.off
  | .hv => s.hvStatus p.inst p.off
  | .loop => s.loopStatus p.inst p.off
  | .axs => s.axsStatus p.inst p.off
  | .enc => s.encStatus p.inst p.off
  | .grp => if p.off = 12 then s.groupStat p.inst else 0
  | .level => s.levelStatus p.off
  | .drv => if p.off = 0x40 then s.driveStat p.inst else (s.drive p.inst).statusWord p.off
  | .stn => s.stnStatus p.inst p.off
  | .ss | .path => 0

/-- The bits of a word that the fields of some classes cover. -/
def coverOf (ok : FieldDef → Bool) : List FieldDef → Nat
  | [] => 0
  | f :: fs => (if ok f then (2 ^ f.width - 1) * 2 ^ f.lsb else 0) ||| coverOf ok fs

def FieldDef.reads (f : FieldDef) : Bool := f.acc = .ro || f.acc = .w1c
def FieldDef.stored (f : FieldDef) : Bool := f.acc = .rw || f.acc = .rws

/-- The table entry that a data window shows: the shadow's, or through the alias the live set's (24 R489). -/
def State.windowWord (s : State) (live : Bool) (p : Pos) : Option Nat :=
  let n := p.inst
  match p.block, p.off with
  | .stn, 0x308 =>
    let k := 32 * s.imm (Fld.STN_EMITTER n) + s.imm (Fld.STN_SEGMENT n)
    some (Store.get zeroNat (if live then (s.pipe n).segLive else (s.pipe n).segShadow) k)
  | .stn, 0x310 =>
    let k := 64 * s.imm (Fld.STN_LEVEL n) + s.imm (Fld.STN_COLUMN n)
    some (Store.get zeroNat (if live then (s.pipe n).dctLive else (s.pipe n).dctShadow) k)
  | .loop, 0x1C =>
    let k := s.imm (Fld.LOOP_INDEX n)
    some (Store.get (fun _ => (0 : Word)) (if live then (s.loop n).coefLive else (s.loop n).coefShadow) k).toNat
  | .afe, 0x0C =>
    let c := s.afeChan (s.imm Fld.AFE_CH_ADDR_CHANNEL)
    some (if s.imm Fld.AFE_WORD = 0 then (if live then c.gainLive else c.gainShadow)
      else (if live then c.ofsLive else c.ofsShadow)).toNat
  | _, _ => none

/-- The island of a register is power-gated (01 R27). -/
def State.gatedPos (s : State) (p : Pos) : Bool := p.block = .stn && !(s.station p.inst).powered

/-- A register read at its own address, or through the alias with every RWS field's live value (24 R480, R489). An
unimplemented address and a gated island read 0 (01 R27, 24 R479). -/
def State.readAt (s : State) (live : Bool) (a : Nat) : Word :=
  match posOf a with
  | none => 0
  | some p =>
    if s.gatedPos p then 0
    else match s.windowWord live p with
      | some v => BitVec.ofNat 32 v
      | none =>
        let rw := coverOf (fun f => f.acc = .rw) p.fields
        let rws := coverOf (fun f => f.acc = .rws) p.fields
        let ro := coverOf FieldDef.reads p.fields
        BitVec.ofNat 32 (((s.reg a).toNat &&& rw) ||| ((if live then s.liveReg a else s.reg a).toNat &&& rws) |||
          (s.status p &&& ro))

/-- A BAR0 address of either half. -/
def State.readWord (s : State) (a : Nat) : Word := if a < 0x80000 then s.readAt false a else s.readAt true (a - 0x80000)

/-! 64-bit quantities (01 R19). -/

/-- The low words whose next word is their high half. -/
def lowWord (a : Nat) : Bool :=
  match posOf (a % 0x80000) with
  | none => false
  | some p => match p.block with
    | .sys => p.off = 0x008 || p.off = 0x014
    | .dma => p.off = 0x08 || p.off = 0x14
    | .axs => p.off = 0x2C
    | .enc => p.off = 4
    | .stn => p.off = 0x54
    | .que => p.off = 0 || p.off = 0xC
    | .level => p.off = 0
    | _ => false

/-- A snapshot list: of each reader the high words it has latched, at most one for each address. -/
def latchSnap (who a : Nat) (v : Word) (l : List (Nat × Nat × Word)) : List (Nat × Nat × Word) :=
  (l.filter fun x => !(x.1 = who && x.2.1 = a)) ++ [(who, a, v)]

/-- A read by a reader with its snapshots: a low word latches its high word; a latched high word is returned once. -/
def State.readSnap (s : State) (who : Nat) (l : List (Nat × Nat × Word)) (a : Nat) : Word × List (Nat × Nat × Word) :=
  let v := s.readWord a
  if lowWord a then (v, latchSnap who (a + 4) (s.readWord (a + 4)) l)
  else match l.find? fun x => x.1 = who && x.2.1 = a with
    | some x => (x.2.2, l.filter fun y => !(y.1 = who && y.2.1 = a))
    | none => (v, l)

end Sys2Proof.Machine
end

