-- ==== Sys2Proof/Machine/Keys.lean ====
section
/-! DEFINITION. The key and service access (04 R90-R101, 22 R451, R452): claims and their window, the lease, hand-overs, the
credential exchange. -/

namespace Sys2Proof.Machine

/-! Claims (04 R91-R93). -/

/-- A claim joins the open window; an earlier one of its master gives way. -/
def State.joinClaim (c : Cmd) (prio : Nat) (s : State) : State :=
  let old := s.key.claims.filter fun k => k.master = c.p.master
  let rest := s.key.claims.filter fun k => k.master ≠ c.p.master
  let new : Claim := ⟨c.p.master, prio, c⟩
  let s := { (s.drop fun d => old.any fun k => k.cmd.seq = d.seq) with key := { s.key with claims := rest ++ [new] } }
  refuseClaims old (s.start c)

/-- A claim as the arbiter orders it (04 R91). -/
def State.claim (c : Cmd) (prio : Nat) (s : State) : State :=
  if s.key.holder = c.p.master then complete c St.OK s.key.epoch.toNat s.renew
  else if s.key.holder ≠ 3 ∧ s.key.lapsed = false then complete c St.KEY_HELD 0 s
  else if s.key.windowOpen then s.joinClaim c prio
  else
    let w := ms (s.imm Fld.KEY_CLAIM_WINDOW)
    let s := ({ s with key := { s.key with windowOpen := true, windowEnds := s.now + w } }).joinClaim c prio
    if w = 0 then s.settleClaims else s

def execClaimKey (p : Packet) (s : State) : Result :=
  command Op.CLAIM_KEY .observer p (fun _ => [noTarget p, params p [(0, 1)], badParam (7 < par p 0 1)])
    (fun c s => s.claim c (par p 0 1)) s

/-- The claim window closes. -/
def execClaimWindowClose (s : State) : Result :=
  whileUp s fun s => if s.key.windowOpen then (s.at s.key.windowEnds).settleClaims else s

/-- HAND_KEY: to another master, or 0xFF to release. RELAY_EN of the peer is this chip's own, which is mirrored to it. -/
def execHandKey (p : Packet) (s : State) : Result :=
  let dest := par p 0 1
  command Op.HAND_KEY .owner p (fun s =>
    [noTarget p, params p [(0, 1)], badParam ((2 < dest && dest ≠ 0xFF) || dest = p.master),
      (dest = 2 && !(s.syncedLead && s.on Fld.RELAY_EN), St.PEER_ABSENT)])
    (fun c s =>
      let s := if dest = 0xFF then s.releaseKey p.master else s.passKey dest Audit.KEY_HAND p.master
      complete c St.OK s.key.epoch.toNat s) s

def execKeyTouch (p : Packet) (s : State) : Result :=
  command Op.KEY_TOUCH .owner p (fun _ => [noTarget p, params p []]) (fun c s => complete c St.OK s.key.epoch.toNat s) s

def execGetKey (p : Packet) (s : State) : Result :=
  command Op.GET_KEY .observer p (fun _ => [noTarget p, params p []]) (fun c s => complete c St.OK s.keyWord s) s

/-- The lease passes without a renewal. -/
def execKeyLapse (s : State) : Result :=
  whileUp s fun s =>
    if s.key.holder ≠ 3 ∧ s.key.lapsed = false then (s.at (s.key.renewed + s.lease)).lapse else s

/-! The service credential (22 R451, R452). -/

/-- The challenge: NONCE, ENGINE_ID, KEY_EPOCH, MASTER, 0. -/
def State.challenge (s : State) (master : Nat) : List Byte :=
  ((List.range 32).map fun i => Config.nonceByte (s.freeCount + i)) ++ leBytes 4 (s.acting 7) ++ leBytes 2 s.key.epoch.toNat ++
    [BitVec.ofNat 8 master, 0]

def execServiceChallenge (p : Packet) (s : State) : Result :=
  command Op.SERVICE_CHALLENGE .owner p (fun s => [(s.cred.lockout.isSome, St.TARGET_BUSY), noTarget p, params p []])
    (fun c s =>
      let k := { s.cred with
        words := s.challenge p.master, live := true, master := p.master, epoch := s.key.epoch, drawn := s.now, nextPart := 0,
        answer := [] }
      complete c St.OK 0 { s with cred := k, freeCount := s.freeCount + 32 }) s

/-- A failure: three within 60 s shut SERVICE_CHALLENGE for 60 s. -/
def Credential.fail (k : Credential) (now : Nat) : Credential :=
  let fs := (k.failures.filter fun t => now < t + sec 60) ++ [now]
  if 3 ≤ fs.length then { k with failures := [], lockout := some (now + sec 60) } else { k with failures := fs }

def State.failCredential (c : Cmd) (s : State) : State :=
  complete c St.CREDENTIAL_FAILED 0
    (({ s with cred := s.cred.fail s.now }).auditService Audit.SERVICE_FAILED c.p.master St.CREDENTIAL_FAILED)

/-- The answer is the public key and its signature over the challenge; the key's hash is the live SERVICE_KEY_HASH. -/
def State.credentialGood (s : State) (answer : List Byte) : Bool :=
  let key := slice answer 0 64
  sha256 key = s.keyHash s.nv.actingKey && ecdsaGood key (slice answer 64 64) s.cred.words

/-- The key holder gains service access (04 R98). -/
def State.gainService (master : Nat) (s : State) : State :=
  (({ s with key := { s.key with service := true } }).auditService Audit.SERVICE_GAINED master St.OK).raise Ev.SERVICE_ENTERED
    0xFF 0xFF [BitVec.ofNat 8 master]

def execServiceResponse (p : Packet) (s : State) : Result :=
  let part := par p 0 1
  command Op.SERVICE_RESPONSE .owner p (fun _ =>
    [noTarget p, params p [(0, 1), (4, 44)], badParam (2 < part || (part = 2 && par p 44 4 ≠ 0))])
    (fun c s =>
      let k := s.cred
      let answer := k.answer ++ slice p.params 4 44
      if !(k.live && k.master = p.master && k.epoch = s.key.epoch && k.nextPart = part) then s.failCredential c
      else if part < 2 then complete c St.OK 0 { s with cred := { k with nextPart := part + 1, answer := answer } }
      else
        let good := s.credentialGood answer
        let s := { s with cred := { k with live := false, answer := [] } }
        if good then complete c St.OK 0 (s.gainService p.master) else s.failCredential c) s

def execServiceEnd (p : Packet) (s : State) : Result :=
  command Op.SERVICE_END .service p (fun _ => [noTarget p, params p []])
    (fun c s => complete c St.OK 0 (s.endService St.ABORTED_HOST)) s

/-- 60 s after it was drawn a challenge is void. -/
def execChallengeExpiry (s : State) : Result :=
  whileUp s fun s =>
    if s.cred.live then { s.at (s.cred.drawn + sec 60) with cred := { s.cred with live := false } } else s

def execCredentialLockoutEnd (s : State) : Result :=
  whileUp s fun s =>
    match s.cred.lockout with
    | none => s
    | some t => { s.at t with cred := { s.cred with lockout := none } }

end Sys2Proof.Machine
end

