-- ==== Sys2Proof/Machine/RegWrite.lean ====
section
/-! DEFINITION. Writing a register (01 R14-R18, R27; 24 R479, R480, R488, R496): what is discarded, what a write of each class
does, and the acts of the write-only and clearing fields. -/

namespace Sys2Proof.Machine

/-! Tests on a written word. -/

def FieldDef.writes (f : FieldDef) : Bool := f.acc ≠ .ro && !f.mbz
def FieldDef.acts (f : FieldDef) : Bool := f.acc = .w1c || f.acc = .wo

/-- A must-be-0 field is written with another value (24 R479). -/
def badZero (fs : List FieldDef) (w : Nat) : Bool := fs.any fun f => f.mbz && bitsOf w f.lsb f.width ≠ 0

/-- CHOP_OFF, CHOP_ON, OV1, OV2 do not rise (14 R311). -/
def badBus (w : Nat) : Bool :=
  !(bitsOf w 0 8 < bitsOf w 8 8 && bitsOf w 8 8 < bitsOf w 16 8 && bitsOf w 16 8 < bitsOf w 24 8)

/-- FENCE_WAIT would be below HB_MISS × 10 µs + 10 µs, as stored (20 R411). -/
def badPair (w : Nat) : Bool :=
  min 255 (max 20 (bitsOf w 4 8)) < 10 * min 15 (max 3 (bitsOf w 0 4)) + 10

/-- A process master that may not be (24 R486). -/
def State.badMaster (s : State) (w : Nat) : Bool :=
  5 ≤ w % 8 || !(s.station (w % 8)).powered || s.mode = .printing

/-- GO is set while an apply by register waits, or on no group instance (24 R488). -/
def State.badGo (s : State) (w : Nat) : Bool :=
  bit w 31 && ((s.tumbler.waiting.any fun a => a.cmd.isNone) || groupCount (bitsOf w 0 8) ≤ bitsOf w 8 5)

/-- A restricted field among the bits `m` written (12 R262, 14 R288, R311; 17 R358, R361, R368; 20 R411; 24 R486, R488). -/
def State.restricted (s : State) (p : Pos) (m w : Nat) : Bool :=
  let standby := s.mode = .standby
  match p.block, p.off with
  | .hv, 0x00 => (s.hvCh p.inst).en && m &&& 0xFFFF73FF ≠ 0
  | .hv, 0x08 => (s.hvCh p.inst).en && m &&& 0xFFFF ≠ 0
  | .hv, 0x10 => !standby
  | .drv, 0x4C => !standby
  | .stn, 0x330 | .stn, 0x334 => !standby && s.mode ≠ .service
  | .sys, 0x038 => s.badMaster w
  | .sys, 0x054 => s.badGo w
  | .sys, 0x0D0 => badBus w
  | .sys, 0x100 => badPair w
  | .sys, o => 0x200 ≤ o && o < 0x240 && o % 16 = 12 && !standby
  | _, _ => false

/-- The write is discarded whole and counted (24 R479). -/
def State.discards (s : State) (p : Pos) (m w : Nat) : Bool :=
  s.gatedPos p || !p.fields.any FieldDef.writes || badZero p.fields w || s.restricted p m w

/-! What some registers do when they are written. -/

/-- SYS_KEY_CFG: the lapse time follows the new KEY_LEASE (04 R101). -/
def State.checkLease (s : State) : State :=
  if s.key.holder ≠ 3 ∧ s.key.lapsed = false ∧ s.key.renewed + s.lease ≤ s.now then s.lapse else s

/-- SYS_TUMBLER_APPLY with GO (24 R488). -/
def State.registerApply (s : State) (w : Nat) : State :=
  if bit w 31 then
    let g := bitsOf w 0 8
    let n := bitsOf w 8 5
    let s := { s with tumbler := { s.tumbler with group := g, inst := n } }
    match firstFail (applyChecks s g n) with
    | some st => { s with tumbler := { s.tumbler with lastStatus := st } }
    | none => s.waitApply g n none
  else s

/-- The 50 µs pulse of the chopper gate shows a fault: no current, or a current that flows with the gate off (14 R308, R310). -/
def State.pulseFails (s : State) (current : Nat) : Bool :=
  current < 10 * s.imm Fld.CHOP_IMIN || (s.bus.chopper = 2 && 10 * s.imm Fld.CHOP_IMIN ≤ s.bus.brkI)

/-- SYS_BUS_FLT.CLEAR: in STANDBY, with VBUS at 20 V or more, and after a good pulse (14 R310). -/
def State.clearChopper (s : State) (w current : Nat) : State :=
  if !bit w 0 then s
  else if s.mode ≠ .standby ∨ s.bus.vbus < 800 ∨ s.pulseFails current then s.refuse
  else ({ s with bus := { s.bus with chopper := 0 } }).judgeRegen

/-- A station may not be powered down now (21 R436). -/
def State.keepsOn (s : State) (n : Nat) : Bool :=
  !(s.slotsWhere fun sh => bit sh.stations n).isEmpty || s.master = n || (s.scan n).state ≠ .off

/-- One bit of STN_ON: the state and whether the request was refused (21 R436-R438, 22 R449 code 2). -/
def State.domainBit (s : State) (n : Nat) (want : Bool) : State × Bool :=
  let have_ := bit (s.imm Fld.STN_ON) n
  let st := s.station n
  if have_ = want then (s, false)
  else if want then
    if s.acting 2 ≤ n then (s, true)
    else ((s.setImm Fld.STN_ON (setBit (s.imm Fld.STN_ON) n)).setStation n fun x => { x with pending := none }, false)
  else if st.powered && s.keepsOn n then (s, true)
  else
    ((s.setImm Fld.STN_ON (clrBit (s.imm Fld.STN_ON) n)).setStation n fun x => { x with
      pending := if st.powered then some s.now else none }, false)

def domainBits (w : Nat) : List Nat → State × Bool → State × Bool
  | [], r => r
  | n :: ns, r =>
    let x := r.1.domainBit n (bit w n)
    domainBits w ns (x.1, r.2 || x.2)

/-- A refused write of STN_ON is shown and counted (21 R436). -/
def State.refuseDomain (s : State) : State := { s.refuse with supply := { s.refuse.supply with refused := true } }

/-- SYS_DOMAIN_CTL: outside STANDBY and SERVICE every change is refused. -/
def State.writeDomain (s : State) (w : Nat) : State :=
  if s.mode = .standby ∨ s.mode = .service then
    let r := domainBits w allStations (s, false)
    if r.2 then r.1.refuseDomain else r.1
  else if w % 32 = s.imm Fld.STN_ON then s
  else s.refuseDomain

/-- QUEn_CTL: ENABLE rising empties the ring and lets what is held post from index 0 (03 R58). -/
def State.writeCtl (s : State) (q w : Nat) : State :=
  let was := s.queueOn q
  let s := s.store (Reg.QUE_CTL q) w
  if bit w 0 && !was then
    (s.setQueue q fun Q => { Q with head := 0, tail := 0, irqCount := 0, oldest := none }).flush
  else s

/-- DRVn_FAULT: CODE loses the bits written as 1; a drive whose CODE is cleared is no longer TRIPPED. -/
def State.clearFault (s : State) (d w : Nat) : State :=
  s.setDrive d fun D =>
    let code := D.code &&& (255 - w % 256)
    { D with code := code, state := if code = 0 ∧ D.state = .tripped then .off else D.state }

/-- DRVn_CAP_CTL: ARM starts a capture at CAP0 (24 R486). -/
def State.writeCapture (s : State) (d w : Nat) : State :=
  let s := s.store (Reg.DRV_CAP_CTL d) w
  if bit w 11 then
    s.setDrive d fun D => { D with
      stats := { D.stats with capRun := true, capNext := 0, capDone := false, capLeft := none, capSkip := 0 } }
  else s

def State.clearDrvStats (s : State) (d w : Nat) : State :=
  if bit w 0 then
    s.setDrive d fun D => { D with
      stats := { D.stats with normal := 0, caught := 0, trips := List.replicate 4 0, fbTime := 0, fwTime := 0, peak := 0 } }
  else s

def Emitter.clearStats (x : Emitter) : Emitter := { x with dots := 0, lost := 0 }

def State.clearStnStats (s : State) (n w : Nat) : State :=
  if bit w 0 then
    (s.setScan n fun c => { c with facetMiss := List.replicate 12 0 }).setPipe n fun p => { p with
      emitters := p.emitters.map Emitter.clearStats }
  else s

def Bank.clearStats (b : Bank) : Bank :=
  { b with late := 0, withheld := 0, diag := b.diag.map fun d => d.set 4 0 }

def State.clearAfeStats (s : State) (w : Nat) : State :=
  if bit w 0 then { s with afe := { s.afe with banks := s.afe.banks.map Bank.clearStats } } else s

/-- STNn_SEG_CTL: SWAP asks for the exchange (12 R244). -/
def State.writeSegCtl (s : State) (n w : Nat) : State :=
  let s := s.store (Reg.STN_SEG_CTL n) w
  if bit w 0 then s.setPipe n fun p => { p with swapWait := true } else s

/-- STNn_SEG_ADDR after a write of SEG_PHASE with AUTO_INC (12 R263). -/
def State.stepSeg (s : State) (n : Nat) : State :=
  if s.on (Fld.STN_SEG_ADDR_AUTO_INC n) then
    let g := s.imm (Fld.STN_SEGMENT n)
    let e := s.imm (Fld.STN_EMITTER n)
    if g < 31 then s.setImm (Fld.STN_SEGMENT n) (g + 1)
    else (s.setImm (Fld.STN_SEGMENT n) 0).setImm (Fld.STN_EMITTER n) (if e < 33 then e + 1 else 0)
  else s

/-- STNn_SEG_PHASE writes the addressed entry of the shadow bank. -/
def State.writeSeg (s : State) (n w : Nat) : State :=
  let k := 32 * s.imm (Fld.STN_EMITTER n) + s.imm (Fld.STN_SEGMENT n)
  (s.setPipe n fun p => { p with segShadow := Store.put zeroNat p.segShadow k (w % 2 ^ 14) }).stepSeg n

/-- STNn_DCT_ADDR after a write of DCT_DATA with AUTO_INC (12 R263). -/
def State.stepDct (s : State) (n : Nat) : State :=
  if s.on (Fld.STN_DCT_ADDR_AUTO_INC n) then
    let c := s.imm (Fld.STN_COLUMN n)
    let l := s.imm (Fld.STN_LEVEL n)
    if c < 63 then s.setImm (Fld.STN_COLUMN n) (c + 1)
    else (s.setImm (Fld.STN_COLUMN n) 0).setImm (Fld.STN_LEVEL n) ((l + 1) % 16)
  else s

def State.writeDct (s : State) (n w : Nat) : State :=
  let k := 64 * s.imm (Fld.STN_LEVEL n) + s.imm (Fld.STN_COLUMN n)
  (s.setPipe n fun p => { p with dctShadow := Store.put zeroNat p.dctShadow k (w % 64) }).stepDct n

/-- AFE_CH_ADDR after a write of CH_DATA with AUTO_INC (19 R402). -/
def State.stepChannel (s : State) : State :=
  if s.on Fld.AFE_AUTO_INC then
    let c := s.imm Fld.AFE_CH_ADDR_CHANNEL
    if s.imm Fld.AFE_WORD = 0 then s.setImm Fld.AFE_WORD 1
    else (s.setImm Fld.AFE_WORD 0).setImm Fld.AFE_CH_ADDR_CHANNEL (min 159 (c + 1))
  else s

/-- AFE_CH_DATA writes the addressed word of the channel's shadow; OFS keeps its offset and AUTOZERO. -/
def State.writeChannel (s : State) (w : Nat) : State :=
  let gain := s.imm Fld.AFE_WORD = 0
  (s.setAfeChan (s.imm Fld.AFE_CH_ADDR_CHANNEL) fun C =>
    if gain then { C with gainShadow := BitVec.ofNat 32 w, written := true }
    else { C with ofsShadow := BitVec.ofNat 32 (w % 2 ^ 13), written := true }).stepChannel

/-- STNn_PIX_RATE: MAG is taken as its limit, and MAG_CLAMPED set, beyond ±8,388 (10 R215). -/
def State.writeMag (s : State) (n w : Nat) : State :=
  let v := signed 16 (w % 2 ^ 16)
  let m := max (-8388) (min 8388 v)
  let s := s.setImm (Fld.STN_MAG n) (unsigned 16 m)
  if m = v then s else s.setPll n fun p => { p with clamped := true }

def Emitter.unfail (x : Emitter) : Emitter := { x with failed := false, gone := false }

/-- Marks of the emitters of a mask are cleared (12 R262). -/
def clearMarks (n : Nat) : List Nat → State → State
  | [], s => s
  | e :: es, s =>
    clearMarks n es ((s.setEmitter n e Emitter.unfail).setPipe n fun p => { p with
      marks := p.marks.filter fun m => m.emitter ≠ e })

/-- STNn_EMIT_MARK: a HOST mark, made at the next end of active scan, at once where there is none (12 R260). -/
def State.writeMark (s : State) (n w : Nat) : State :=
  let e := w % 64
  if !bit w 6 || 33 < e then s
  else if (s.scan n).state = .off then s.mark n e 5 ((s.scan n).sweeps + 1)
  else s.setPipe n fun p => { p with marks := p.marks ++ [⟨e, 0, 0⟩] }

/-! One word at a register's port. -/

def State.writeSys (s : State) (a w : Nat) : State :=
  match a with
  | 0x030 => funcBits (bit w 31) (maskList w 15) s
  | 0x040 => (s.store a w).checkLease
  | 0x054 => s.registerApply w
  | 0x0DC =>
    let (v, s) := s.drawNat
    s.clearChopper w v
  | 0x0E8 => s.writeDomain w
  | 0x0EC => if bit w 16 then { s with supply := { s.supply with refused := false } } else s
  | _ =>
    if 0x200 ≤ a ∧ a < 0x240 ∧ a % 16 = 12 then
      (if bit w 13 then s.setZone ((a - 0x200) / 16) fun Z => { Z with fault := false } else s)
    else s.store a w

def State.writeStn (s : State) (n o a w : Nat) : State :=
  match o with
  | 0x114 => s.writeMag n w
  | 0x120 => if bit w 4 then s.setPll n fun p => { p with clamped := false } else s
  | 0x300 => s.writeSegCtl n w
  | 0x308 => s.writeSeg n w
  | 0x310 => s.writeDct n w
  | 0x330 => clearMarks n (maskList w 32) s
  | 0x334 => clearMarks n ((maskList w 2).map (32 + ·)) s
  | 0x338 => s.writeMark n w
  | 0x67C => s.clearStnStats n w
  | _ => s.store a w

/-- A word that is not discarded takes effect (24 R480). -/
def State.effect (s : State) (p : Pos) (a w : Nat) : State :=
  let n := p.inst
  match p.block, p.off with
  | .sys, _ => s.writeSys a w
  | .stn, o => s.writeStn n o a w
  | .que, 0x14 => s.writeCtl n w
  | .que, 0x1C => s.setQueue n fun Q => { Q with stat := Q.stat &&& (31 - w % 32) }
  | .dma, 0x1C => s.setChannel n fun C => { C with err := C.err &&& (7 - w % 8) }
  | .hv, 0x10 => if bit w 18 then s.setHv n fun h => { h with fault := false } else s
  | .loop, 0x1C => s.writeCoef n (BitVec.ofNat 32 w)
  | .loop, 0x34 => if bit w 18 then s.setLoop n fun L => { L with oscSeen := false } else s
  | .axs, 0x38 => if bit w 7 then s.setAxis n fun x => { x with shortSeen := false } else s
  | .drv, 0x1C => s.writeCapture n w
  | .drv, 0x4C => s.clearFault n w
  | .drv, 0x7C => s.clearDrvStats n w
  | .afe, 0x0C => s.writeChannel w
  | .afe, 0x24 => s.clearAfeStats w
  | _, _ => s.store a w

/-- A word at a register's port, with the bits `m` that the write names: the state, and whether it was taken. A taken write is
mirrored (20 R405). -/
def State.portWrite (s : State) (a m w : Nat) : State × Bool :=
  match posOf a with
  | none => (s.refuse, false)
  | some p =>
    if s.discards p m w then (s.refuse, false)
    else ((s.effect p a w).mirrorOn (.config (.register a (BitVec.ofNat 32 w))), true)

/-- A direct write of BAR0: the key first, then size and alignment, then the port (01 R14, 24 R479). A SHADOW's own host does
not hold the key that the LEAD mirrors to it. -/
def State.busWrite (s : State) (master addr size : Nat) (w : Word) : State :=
  if s.key.holder ≠ master ∨ s.pair.role = .shadow ∨ size ≠ 4 ∨ addr % 4 ≠ 0 ∨ 0x80000 ≤ addr then s.refuse
  else (s.portWrite addr (2 ^ 32 - 1) w.toNat).1

/-! Doorbells (03 R59, R60, R498). -/

/-- The new HEAD lies in the span from HEAD to TAIL. -/
def State.inSpan (s : State) (q v : Nat) : Bool :=
  let n := s.queueSize q
  let h := (s.queue q).head
  v < n && (v + n - h) % n ≤ ((s.queue q).tail + n - h) % n

/-- After a takeover fetching begins again once every enabled queue has been rung (20 R422). -/
def State.rung (s : State) (q : Nat) : State :=
  let s := s.setQueue q fun Q => { Q with doorbell := true }
  let all := (List.range 32).all fun i => !s.queueOn i || s.queueType i = Ty.UNUSED || (s.queue i).doorbell
  if all then { s with pairWork := { s.pairWork with waitBells := false } } else s

/-- A word written to a queue's doorbell. -/
def State.ring (s : State) (q v : Nat) : State :=
  let ty := s.queueType q
  if !s.queueOn q then s.setStat q 1
  else if ty = Ty.UNUSED then s.setStat q 0
  else if ty = Ty.SUBMISSION then
    if v < s.queueSize q then (s.setQueue q fun Q => { Q with tail := v }).rung q else s.setStat q 0
  else if s.inSpan q v then ((s.setQueue q fun Q => { Q with head := v }).rung q).flush
  else s.setStat q 0

/-! BAR2 (03 R58), which the model numbers on from BAR0: its offset `o` is address 0x100000 + `o` (log entry 2). -/

/-- What an aligned 32-bit access of a BAR2 page reaches: the queue and its doorbell (none), or the register that the offset
aliases. -/
def bar2Of (o : Nat) : Option (Nat × Option Nat) :=
  if 0x2000 ≤ o then none
  else
    let q := o / 0x100
    if o % 0x100 = 0 then some (q, none)
    else if o % 0x100 = 8 then some (q, some (Reg.QUE_BASE_LO q))
    else if o % 0x100 = 0x0C then some (q, some (Reg.QUE_BASE_HI q))
    else none

/-- A write of BAR2: a doorbell needs no key, an alias follows 01 R14, the rest of a page ignores writes; an access that is not
an aligned 32-bit one is discarded. -/
def State.bar2Write (s : State) (master o size : Nat) (w : Word) : State :=
  if size ≠ 4 ∨ o % 4 ≠ 0 then s
  else
    match bar2Of o with
    | some (q, none) => s.ring q w.toNat
    | some (_, some a) => s.busWrite master a 4 w
    | none => s

/-! The writes as commands. -/

def execRegisterWrite (master addr size : Nat) (value : Word) (tick : Nat) (s : State) : Result :=
  whileUp s fun s =>
    if 0x100000 ≤ addr then (s.at tick).bar2Write master (addr - 0x100000) size value
    else (s.at tick).busWrite master addr size value

def execTumblerApply (master : Nat) (value : Word) (tick : Nat) (s : State) : Result :=
  whileUp s fun s => (s.at tick).busWrite master Reg.SYS_TUMBLER_APPLY 4 value

def execSegSwap (master station : Nat) (value : Word) (s : State) : Result :=
  whileUp s fun s => s.busWrite master (Reg.STN_SEG_CTL station) 4 value

def execSegPhaseWrite (master station : Nat) (value : Word) (s : State) : Result :=
  whileUp s fun s => s.busWrite master (Reg.STN_SEG_PHASE station) 4 value

def execDctDataWrite (master station : Nat) (value : Word) (s : State) : Result :=
  whileUp s fun s => s.busWrite master (Reg.STN_DCT_DATA station) 4 value

def execCoefDataWrite (master slot : Nat) (value : Word) (s : State) : Result :=
  whileUp s fun s => s.busWrite master (Reg.LOOP_COEF_DATA slot) 4 value

def execAfeChDataWrite (master : Nat) (value : Word) (s : State) : Result :=
  whileUp s fun s => s.busWrite master Reg.AFE_CH_DATA 4 value

def execEmitMark (master station : Nat) (value : Word) (s : State) : Result :=
  whileUp s fun s => s.busWrite master (Reg.STN_EMIT_MARK station) 4 value

def execEmitFailClear (master station : Nat) (high : Bool) (value : Word) (s : State) : Result :=
  whileUp s fun s =>
    s.busWrite master (if high then Reg.STN_EMIT_FAIL_HI station else Reg.STN_EMIT_FAIL_LO station) 4 value

def execMagWrite (master station : Nat) (value : Word) (s : State) : Result :=
  whileUp s fun s => s.busWrite master (Reg.STN_PIX_RATE station) 4 value

def execMasterStnWrite (master : Nat) (value : Word) (s : State) : Result :=
  whileUp s fun s => s.busWrite master Reg.SYS_MASTER_STN 4 value

def execKeyCfgWrite (master : Nat) (value : Word) (s : State) : Result :=
  whileUp s fun s => s.busWrite master Reg.SYS_KEY_CFG 4 value

def execBusCfgWrite (master : Nat) (value : Word) (s : State) : Result :=
  whileUp s fun s => s.busWrite master Reg.SYS_BUS_CFG 4 value

def execPairCfgWrite (master : Nat) (value : Word) (s : State) : Result :=
  whileUp s fun s => s.busWrite master Reg.SYS_PAIR_CFG 4 value

/-- SYS_BUS_FLT with the current that the pulse shows. -/
def execChopperClear (master : Nat) (value : Word) (pulseI : Nat) (s : State) : Result :=
  whileUp s fun s =>
    if s.key.holder ≠ master ∨ s.pair.role = .shadow ∨ badZero [⟨1, 31, .wo, 0, 0, 0, 1, true⟩] value.toNat = true then s.refuse
    else (s.clearChopper value.toNat pulseI).mirrorOn (.config (.register Reg.SYS_BUS_FLT value))

def execStnPowerDown (master : Nat) (value : Word) (tick : Nat) (s : State) : Result :=
  whileUp s fun s => (s.at tick).busWrite master Reg.SYS_DOMAIN_CTL 4 value

def execStnPowerUp (master : Nat) (value : Word) (tick : Nat) (s : State) : Result :=
  whileUp s fun s => (s.at tick).busWrite master Reg.SYS_DOMAIN_CTL 4 value

def execCapArm (master drive : Nat) (value : Word) (s : State) : Result :=
  whileUp s fun s => s.busWrite master (Reg.DRV_CAP_CTL drive) 4 value

def execStnStatClr (master station : Nat) (value : Word) (s : State) : Result :=
  whileUp s fun s => s.busWrite master (Reg.STN_STAT_CLR station) 4 value

def execDrvStatClr (master drive : Nat) (value : Word) (s : State) : Result :=
  whileUp s fun s => s.busWrite master (Reg.DRV_STAT_CLR drive) 4 value

def execAfeStatClr (master : Nat) (value : Word) (s : State) : Result :=
  whileUp s fun s => s.busWrite master Reg.AFE_STAT_CLR 4 value

/-- QUEn_CTL with ENABLE 1. -/
def execQueueEnable (master q : Nat) (value : Word) (s : State) : Result :=
  whileUp s fun s => s.busWrite master (Reg.QUE_CTL q) 4 value

/-- QUEn_CTL with ENABLE 0: fetching or posting stops, and an apply of QUEn_RING that waited lands (01 R20, 03 R58). -/
def execQueueDisable (master q : Nat) (value : Word) (s : State) : Result :=
  whileUp s fun s =>
    let t := s.busWrite master (Reg.QUE_CTL q) 4 value
    if s.queueOn q && !t.queueOn q then t.landGroup Grp.QUE_RING q else t

/-- The register that a read of BAR0 or BAR2 reaches; none reads 0. -/
def readAddr (addr : Nat) : Option Nat :=
  if addr < 0x100000 then some addr
  else match bar2Of (addr - 0x100000) with
    | some (_, a) => a
    | none => none

/-- A read of a 64-bit quantity's low word, with what it does to the reader's snapshots (01 R19). -/
def execLowWordRead (master addr : Nat) (s : State) : Result :=
  whileUp s fun s =>
    match readAddr addr with
    | some a => { s with snaps := (s.readSnap master s.snaps a).2 }
    | none => s

/-! Boundaries (01 R20-R23). -/

/-- A boundary of a group's target. A sweeping station's boundary is its end of active scan. -/
def execTumblerLand (group inst tick : Nat) (s : State) : Result :=
  whileUp s fun s =>
    if isStationGroup group && (s.scan inst).state ≠ .off then s else (s.at tick).landGroup group inst

/-- TUMBLER_TIMEOUT runs out for the oldest apply of a group instance, or, with group 0, for a PLAN_SWITCH that waits on a
station (01 R22, 11 R230). -/
def execTumblerTimeout (group inst : Nat) (s : State) : Result :=
  whileLeads s fun s =>
    if group = 0 then
      match s.running.find? (switchOf inst) with
      | some c => (s.at (c.notes.headD 0)).endSwitch inst St.TUMBLER_TIMEOUT
      | none => s
    else
      match s.firstApply group inst with
      | some a => (s.at a.deadline).endApply a St.TUMBLER_TIMEOUT
      | none => s

/-- The exchange of segment banks on a station that is not sweeping (12 R244). -/
def execSegSwapLand (station : Nat) (s : State) : Result :=
  whileUp s fun s => if (s.scan station).state = .off then s.swapBanks station else s

/-! Configuration commands (24 R490-R493). -/

/-- An entry of CFG_WRITE: address, mask, value in place, and whether it is malformed. -/
def cfgEntry (p : Packet) (i : Nat) : Nat × Nat × Nat × Bool :=
  let d := par p (4 + 8 * i) 4
  let v := par p (8 + 8 * i) 4
  let a := 4 * (d % 2 ^ 18)
  let lsb := bitsOf d 18 5
  let width := bitsOf d 23 5 + 1
  let m := (2 ^ width - 1) * 2 ^ lsb
  let bad := 2 ^ 28 ≤ d || 0x80000 ≤ a || 32 < lsb + width || 2 ^ width ≤ v ||
    (match posOf a with
      | none => true
      | some q => m &&& (2 ^ 32 - 1 - coverOf (fun f => f.acc ≠ .ro) q.fields) ≠ 0)
  (a, m, v * 2 ^ lsb, bad)

def cfgEntries (p : Packet) : List (Nat × Nat × Nat × Bool) := (List.range (par p 0 1)).map (cfgEntry p)

/-- A register of a power-gated island. -/
def State.gatedAt (s : State) (a : Nat) : Bool :=
  match posOf a with
  | some p => s.gatedPos p
  | none => false

/-- The word that a read-modify-write puts: bits outside the mask keep their value, but are 0 where the register has W1C or WO
fields (24 R490). -/
def State.modified (s : State) (a m v : Nat) : Nat :=
  match posOf a with
  | none => v
  | some p =>
    if p.fields.any FieldDef.acts then v
    else (s.readAt false a).toNat &&& coverOf FieldDef.stored p.fields &&& (2 ^ 32 - 1 - m) ||| v

/-- The entries in order: entries written and a mask of those discarded. -/
def cfgWrites : List (Nat × Nat × Nat × Bool) → Nat → Nat × Nat × State → Nat × Nat × State
  | [], _, r => r
  | e :: es, i, r =>
    let x := r.2.2.portWrite e.1 e.2.1 (r.2.2.modified e.1 e.2.1 e.2.2.1)
    cfgWrites es (i + 1) (if x.2 then (r.1 + 1, r.2.1, x.1) else (r.1, r.2.1 + 2 ^ i, x.1))

def execCfgWrite (p : Packet) (s : State) : Result :=
  let n := par p 0 1
  command Op.CFG_WRITE .owner p (fun s =>
    [((cfgEntries p).any fun e => s.gatedAt e.1, St.DOMAIN_OFF), noTarget p, params p [(0, 1), (4, 8 * n)],
      badParam (n < 1 || 5 < n || (cfgEntries p).any fun e => e.2.2.2)])
    (fun c s =>
      let r := cfgWrites (cfgEntries p) 0 (0, 0, s)
      complete c St.OK (r.1 + 2 ^ 8 * r.2.1) r.2.2) s

/-- An entry of CFG_READ. -/
def readSel (p : Packet) (i : Nat) : Nat := par p (8 + 4 * i) 4

/-- How many entries are valid: the valid ones come first. -/
def readSels (p : Packet) : Nat := ((List.range 10).takeWhile fun i => bit (readSel p i) 31).length

/-- The values in order, with the command's own snapshots (01 R19). -/
def cfgReads (s : State) (p : Packet) : List Nat → List (Nat × Nat × Word) → List Word
  | [], _ => []
  | i :: is, snaps =>
    let e := readSel p i
    let r := s.readSnap 3 snaps (4 * (e % 2 ^ 18) + if bit e 18 then 0x80000 else 0)
    r.1 :: cfgReads s p is r.2

def execCfgRead (p : Packet) (s : State) : Result :=
  let host := par p 0 8
  let n := readSels p
  command Op.CFG_READ .observer p (fun _ =>
    [noTarget p,
      badParam (host % 4 ≠ 0 || n = 0 || (host = 0 && 1 < n) ||
        (List.range 10).any fun i => if i < n then bitsOf (readSel p i) 19 12 ≠ 0 else readSel p i ≠ 0)])
    (fun c s =>
      let l := cfgReads s p (List.range n) []
      let s := if host = 0 then s else s.hostResult host (l.flatMap fun w => leBytes 4 w.toNat)
      complete c (resultStatus p host) ((l.map BitVec.toNat).headD 0) s) s

def execApply (p : Packet) (s : State) : Result :=
  let g := par p 0 1
  command Op.APPLY .owner p (fun s => (applyChecks s g p.target).take 4 ++ [params p [(0, 1)]])
    (fun c s => s.beginApply g p.target c) s

/-! PROFILE_LOAD (24 R493). -/

/-- The word a profile holds at a key. -/
def profileWord (prof : List (Nat × Word)) (k : Nat) (d : Word) : Word :=
  ((prof.find? fun c => c.1 = k).map Prod.snd).getD d

/-- The addresses at which the profile or the present shadow differ from the reset values, rising. -/
def mergeAddrs : List Nat → List Nat → List Nat
  | [], l => l
  | a :: l, m => (m.filter (· < a)) ++ a :: mergeAddrs l (m.filter (a < ·))

/-- A held register is written with the profile's word; what may not be written now keeps its value. -/
def profileRegs (prof : List (Nat × Word)) : List Nat → State → State
  | [], s => s
  | a :: l, s =>
    let s' := (s.portWrite a (2 ^ 32 - 1) (profileWord prof a (resetWord a)).toNat).1
    profileRegs prof l { s' with refused := s.refused }

/-- The cells of a table that a profile holds, from a key on. -/
def profileTable (prof : List (Nat × Word)) (base size : Nat) : List (Nat × Nat) :=
  prof.filterMap fun c => if base ≤ c.1 ∧ c.1 < base + size then some (c.1 - base, c.2.toNat) else none

def profileStations (prof : List (Nat × Word)) : List Nat → State → State
  | [], s => s
  | n :: ns, s =>
    profileStations prof ns
      (if (s.station n).powered then
        s.setPipe n fun p => { p with
          segShadow := profileTable prof (segKey n 0) 0x10000, dctShadow := profileTable prof (dctKey n 0) 0x10000 }
      else s)

def profileSlots (prof : List (Nat × Word)) : List Nat → State → State
  | [], s => s
  | n :: ns, s =>
    let t := (profileTable prof (coefKey n 0) 0x10000).map fun c => (c.1, BitVec.ofNat 32 c.2)
    profileSlots prof ns (s.setLoop n fun L => { L with coefShadow := t })

def profileChannels (prof : List (Nat × Word)) : List Nat → State → State
  | [], s => s
  | c :: cs, s =>
    profileChannels prof cs (s.setAfeChan c fun C => { C with
      gainShadow := profileWord prof (afeKey (2 * c)) 0x01000000, ofsShadow := profileWord prof (afeKey (2 * c + 1)) 0,
      written := true })

/-- Step 1: every held field into its place, RWS fields into their shadows. -/
def State.writeProfile (s : State) (prof : List (Nat × Word)) : State :=
  let here := (s.regs.map Prod.fst).filter held?
  let there := (prof.map Prod.fst).filter fun a => a < 0x80000
  let s := profileRegs prof (mergeAddrs here there) s
  profileChannels prof (List.range 160) (profileSlots prof (List.range 24) (profileStations prof allStations s))

/-- The group instances whose fields a profile holds, in the order of their codes. -/
def profileGroups : List (Nat × Nat) := [2, 3, 4, 5, 6, 7, 8, 9].flatMap fun g => (List.range (groupCount g)).map fun n => (g, n)

def execProfileLoad (p : Packet) (s : State) : Result :=
  let i := par p 0 1
  command Op.PROFILE_LOAD .owner p (fun s =>
    [inModes s fun m => m = .standby || m = .service, (s.tumbler.profile.isSome, St.TARGET_BUSY), noTarget p, params p [(0, 1)],
      badParam (1 < i), (!s.nv.readable, St.FLASH_ERROR), (!s.regionGood (Rgn.PROFILE0 + i), St.UNINIT_OR_CORRUPT)])
    (fun c s => runProfile c.seq profileGroups ((s.writeProfile (s.nv.profiles.getD i [])).start c)) s

end Sys2Proof.Machine
end

