-- ==== Sys2Proof/Machine/Domains.lean ====
section
/-! DEFINITION. Station power domains (06 R137; 21 R436-R438): the drain before a power-down, the domain going off, and coming
up again. -/

namespace Sys2Proof.Machine

/-- Opcodes whose TARGET is a station. -/
def stationOps : List Nat :=
  [Op.BAND_SURVEY, Op.PLAN_LOAD, Op.PLAN_SWITCH, Op.TRIM_LOAD, Op.TRIM_WRITE, Op.HEAD_CAL, Op.CAPTURE, Op.LINK_LOOPBACK]

/-- A command that targets a station (21 R437). -/
def targetsStation (n : Nat) (c : Cmd) : Bool :=
  c.p.target = n && (stationOps.contains c.op || (c.op = Op.APPLY && isStationGroup (par c.p 0 1)))

/-- The channels that hold a fetched descriptor of a station that is going down (06 R137). -/
def State.waitingOn (s : State) (n : Nat) : List Nat :=
  (List.range 16).filter fun c => s.powerWait c &&
    match (s.channel c).cur with | some d => d.station = n | none => false

/-- Nothing keeps a power-down waiting any more. -/
def State.drained (s : State) (n : Nat) : Bool := (s.waitingOn n).isEmpty && !s.running.any (targetsStation n)

/-- Addresses of a station's registers. -/
def stationAddr (n a : Nat) : Bool := 0x10000 + 0x1000 * n ≤ a && a < 0x11000 + 0x1000 * n

/-- The state of a station whose domain has just changed: all of it lost but the plan slots, which stand in the buffer memory
(08 R162; 21 R435). -/
def Station.fresh (st : Station) (on : Bool) : Station :=
  { Station.reset with powered := on, plans := { Plans.reset with slots := st.plans.slots } }

/-- The registers of a station take their reset values. -/
def State.dropStation (s : State) (n : Nat) : State :=
  { s with regs := Store.drop (stationAddr n) s.regs, live := Store.drop (stationAddr n) s.live }

/-- The domain goes off: applies that still wait end, the registers and the trim bank are lost. -/
def State.powerOff (s : State) (n : Nat) : State :=
  let s := endApplies St.ABORTED_POWER (s.tumbler.waiting.filter fun a => isStationGroup a.group && a.inst = n) s
  let s := { s with captures := s.captures.filter fun j => j.station ≠ n }
  (s.dropStation n).setStation n fun st => st.fresh false

/-- The descriptors and commands of a station have drained: its domain goes off. -/
def execStnDomainOff (station : Nat) (s : State) : Result :=
  whileUp s fun s =>
    if (s.station station).pending.isSome && s.drained station then s.powerOff station else s

/-- 10 ms after the request: what still runs ends with ABORTED_POWER, and the domain goes off. -/
def execPowerWaitExpiry (station : Nat) (s : State) : Result :=
  whileUp s fun s =>
    match (s.station station).pending with
    | none => s
    | some t =>
      let s := s.at (t + ms 10)
      let s := (stopLists St.ABORTED_POWER true (s.waitingOn station) s).1
      (finishWhere (targetsStation station) (fun _ => St.ABORTED_POWER) (fun _ => 0) s).powerOff station

/-- A station that STN_ON asks for is powered: reset values, tracking OFF, the PLL disabled, the trim bank empty, the link in
training (13 R275, 21 R438). -/
def execStnDomainOn (station : Nat) (s : State) : Result :=
  whileUp s fun s =>
    if bit (s.imm Fld.STN_ON) station && !(s.station station).powered then
      ((s.dropStation station).setStation station fun st => st.fresh true).train station
    else s

end Sys2Proof.Machine
end

