-- ==== Sys2Proof/Machine/Modes.lean ====
section
/-! DEFINITION. Modes (05 R102-R106), the safe-stop and the halt (05 R107-R110), the information commands (05 R502) and WARMING
(05 R116). -/

namespace Sys2Proof.Machine

/-! The commands that only report (05 R502). -/

def execNop (p : Packet) (s : State) : Result :=
  command Op.NOP .observer p (fun _ => [noTarget p, params p []]) (fun c s => complete c St.OK 0 s) s

/-- The registers of the selectors 0 to 6. -/
def infoRegs : List Nat :=
  [Reg.SYS_ID, Reg.SYS_REV, Reg.SYS_SERIAL_LO, Reg.SYS_SERIAL_HI, Reg.SYS_ENGINE_ID, Reg.SYS_BOOT, Reg.SYS_NV_STAT]

def execGetInfo (p : Packet) (s : State) : Result :=
  let k := par p 0 1
  command Op.GET_INFO .observer p (fun _ => [noTarget p, params p [(0, 1)], badParam (6 < k)])
    (fun c s => complete c St.OK (s.readWord (infoRegs.getD k 0)).toNat s) s

/-- RESULT of GET_MODE: MODE to ROLE, FIRST, MASK. -/
def State.modeResult (s : State) : Nat :=
  s.modeWord % 1024 + 1024 * (s.haltWord / 2 ^ 16 % 32) + 2 ^ 16 * s.modes.haltMask.toNat

def execGetMode (p : Packet) (s : State) : Result :=
  command Op.GET_MODE .observer p (fun _ => [noTarget p, params p []]) (fun c s => complete c St.OK s.modeResult s) s

/-! WARMING (05 R116). -/

/-- Whether a step has started. -/
def State.stepStarted (s : State) : WarmStep → Bool
  | .load | .fuser | .polygons | .plls => true
  | .beamDetect => s.modes.warmDone.contains .load && s.modes.warmDone.contains .polygons
  | .drums => (s.scan s.master).state = .track
  | .hv => s.modes.warmDone.contains .drums

def resumeAll : List Nat → State → State
  | [], s => s
  | n :: ns, s => resumeAll ns (s.resume n)

/-- The channels with AUTO set. -/
def State.autoHv (s : State) : List Nat := (List.range 24).filter fun n => s.on (Fld.HV_AUTO n)

/-- What a step that is done starts: beam detect, or the HV channels. -/
def State.afterStep (s : State) (step : WarmStep) : State :=
  match step with
  | .load | .polygons => resumeAll allStations s
  | .drums => hvOnAll s.autoHv s
  | _ => s

/-- A step that has started and is at set point is done. -/
def State.noteStep (s : State) (step : WarmStep) : State :=
  if s.modes.warmDone.contains step || !s.stepStarted step || !s.stepHolds step then s
  else { s with modes := { s.modes with warmDone := s.modes.warmDone ++ [step] } }.afterStep step

def noteSteps : List WarmStep → State → State
  | [], s => s
  | x :: xs, s => noteSteps xs (s.noteStep x)

/-- A step is at set point; others that are so already finish at once. With all done the wait of SETTLE_HOLD begins. -/
def State.advance (s : State) (step : WarmStep) : State :=
  let s := noteSteps warmSteps (s.noteStep step)
  if warmSteps.all s.modes.warmDone.contains && s.modes.allHeld.isNone then
    { s with modes := { s.modes with allHeld := some s.now } }
  else s

/-- Enabled polygons of the stations of the run: listened to and started, or moved to the speed of the run. -/
def startPolygons : List Nat → State → State
  | [], s => s
  | n :: ns, s =>
    startPolygons ns
      (if !s.livOn (Fld.DRV_EN n) then s
       else if (s.drive n).running then s.driveMove n (s.rampMove n (s.polygonRpm n s.run.runN))
       else if (s.drive n).state = .off then s.listen n (s.polygonRpm n s.run.runN) 1
       else s)

/-- The zones with AUTO set that are not enabled yet. -/
def State.autoZones (s : State) : List Nat :=
  (List.range 4).filter fun z => s.on (Fld.FZ_AUTO z) && !(s.zone z).enabled

/-- The chopper's test pulse at every entry to WARMING (14 R310): what it measures is open. DESIGN CHOICE: the manual does not say whether a
VBUS below 20 V, too low for the pulse, counts as its failure; the model runs no pulse and leaves CHOPPER as it is (log entry 17). -/
def State.warmPulse (s : State) : State :=
  if s.on Fld.CHOP_TEST && 800 ≤ s.bus.vbus then
    let (i, s) := s.drawNat
    if s.pulseFails i then ({ s with bus := { s.bus with chopper := 1 } }).judgeRegen else s
  else s

/-- Plan slots that are not resident are read from the plan store (18 R377); an empty entry leaves the slot empty, and what a rejected
one fails goes to STNn_PLAN_DIAG (11 R227). -/
def loadSlots (n : Nat) : List Nat → State → State
  | [], s => s
  | i :: is, s =>
    loadSlots n is
      (if (s.planSlot n i).resident then s
       else
        let b := s.storedPlan (36 * n + i)
        if b = [] then s
        else match s.loadPlan n i b b.length with
          | (s, some (r, d)) => s.planDiag n r i d
          | (s, none) => s)

/-- The plans of powered stations that are not resident yet, as the load step reads them at entry (05 R116). -/
def loadPlans : List Nat → State → State
  | [], s => s
  | n :: ns, s => loadPlans ns (if (s.station n).powered then loadSlots n (List.range 36) s else s)

/-- The N of the process master's active plan (11 R231). -/
def State.masterN (s : State) : Nat := ((s.active s.master).map Plan.n).getD s.run.runN

/-- WARMING is entered, and the steps that start at entry start (05 R116; 10 R208; 11 R231; 14 R310; 17 R366; 19 R392). The plans are
read first: the other steps need them. -/
def State.warm (s : State) : State :=
  let s := loadPlans allStations s
  let s := { s with
    modes := { s.modes with warmStart := s.now, warmDone := [], allHeld := none },
    run := { s.run with baseN := s.imm Fld.BASE_N, runN := s.masterN } }
  let s := moveZones (List.range 4) (s.enter .warming)
  let s := triggers [0, 1, 2] (zonesOn s.autoZones s).warmPulse
  let s := reBase allStations (pllsOn allStations s)
  (startPolygons s.runStations s).advance .fuser

/-- READY is entered, and the request for it completes. The next sheet is the first after READY (02 R30). -/
def State.enterReady (s : State) : State :=
  let s := { s with sheets := { s.sheets with lastHinge := none }, modes := { s.modes with allHeld := none } }
  finishWhere (fun c => isSetMode c && par c.p 0 1 = 3) (fun _ => St.OK) (fun _ => 3) (s.enter .ready)

def execWarmingStepDone (step : WarmStep) (tick : Nat) (s : State) : Result :=
  whileUp s fun s =>
    if s.mode = .warming ∧ s.modes.stopping = .none ∧ step ≠ .load then (s.at tick).advance step else s

/-- SETTLE_HOLD after every step was done, with none lapsed since (`watchHold` ends the wait at a lapse): READY. -/
def execSettleHoldExpiry (s : State) : Result :=
  whileLeads s fun s =>
    match s.modes.allHeld with
    | none => s
    | some t =>
      if s.mode ≠ .warming ∨ s.modes.stopping ≠ .none then s
      else
        let s := s.at (t + ms (s.imm Fld.SETTLE_HOLD))
        if warmSteps.all s.stepHolds then s.enterReady
        else { s with modes := { s.modes with warmDone := s.modes.warmDone.filter s.stepHolds, allHeld := none } }

def execWarmMaxExpiry (s : State) : Result :=
  whileLeads s fun s =>
    if s.mode = .warming ∧ s.modes.stopping = .none then
      (s.at (s.modes.warmStart + sec (s.imm Fld.WARM_MAX))).halt Halt.WARM_TIMEOUT
    else s

/-! The load step (05 R116; 12 R247; 18 R377, R378). -/

/-- One emitter's cells into its bank; a master that cannot be corrected loads as 0. -/
def State.loadEmitter (s : State) (n e : Nat) : State :=
  let s := (correctLines (s.failingTrim n e) s).residentTrim n e
  if (s.failingTrim n e).any fun f => f.2 = 0xFF then
    (s.setPipe n fun p => { p with
      trim := replaceCells (32768 * e) 32768 [] p.trim, trimBad := p.trimBad.filter fun w => w / 2048 ≠ e,
      trimLoaded := p.trimLoaded.set e true }).raise Ev.TRIM_RELOADED n 0xFF [BitVec.ofNat 8 n, BitVec.ofNat 8 e]
  else s.loadTrim n e

def loadEmitters (n : Nat) : List Nat → State → State
  | [], s => s
  | e :: es, s => loadEmitters n es (s.loadEmitter n e)

/-- The band table of a station is always taken from flash. -/
def loadBands (n : Nat) : List (Nat × Word) → State → State
  | [], s => s
  | w :: ws, s => loadBands n ws (if stationAddr n w.1 then s.setReg w.1 w.2 else s)

def loadStations : List Nat → State → State
  | [], s => s
  | n :: ns, s =>
    loadStations ns
      (if (s.station n).powered then
        loadEmitters n (List.range 34) (loadSlots n (List.range 36) (loadBands n ((s.bandCopy).getD []) s))
       else s)

/-- The load is done: what was not resident has been read, the trim banks of powered stations are loaded. -/
def execLoadDone (s : State) : Result :=
  whileUp s fun s =>
    if s.mode = .warming ∧ s.modes.stopping = .none ∧ s.modes.warmDone.contains .load = false then
      let s := loadStations allStations s
      let s := { s with modes := { s.modes with warmDone := s.modes.warmDone ++ [WarmStep.load] } }
      (s.afterStep .load).advance .load
    else s

/-! SET_MODE (05 R102-R106). -/

/-- The process master is powered and holds an active plan: in slot 0, or, where the slot is not resident, as the entry of the plan
store that the load step reads into it (05 R103, R116; log entry 17). -/
def State.masterReady (s : State) : Bool := (loadSlots s.master [0] s).running? s.master

/-- What keeps the device out of WARMING, in the order of R103. -/
def State.readyBad (s : State) : List (Bool × Nat) :=
  [noHalt s, needInit s, (s.safety.interlock || s.supply.warning, St.WRONG_MODE), (!s.masterReady, St.STATION_UNAVAILABLE)]

/-- What keeps the device out of SERVICE. -/
def State.serviceBad (s : State) : List (Bool × Nat) :=
  if s.mode = .service then [noHalt s]
  else
    [(!(s.mode = .ready || s.mode = .standby) || s.modes.draining || s.modes.stopping ≠ .none, St.WRONG_MODE), noHalt s,
      (!(s.slotsWhere fun _ => true).isEmpty, St.TARGET_BUSY)]

/-- What keeps the device out of DORMANT. -/
def State.dormantBad (s : State) : List (Bool × Nat) :=
  [(s.mode ≠ .standby, St.WRONG_MODE),
    (!(s.slotsWhere fun _ => true).isEmpty || (s.dma.channels.any fun c => !c.lists.isEmpty) || s.nv.storing.isSome ||
      s.modes.initBusy, St.TARGET_BUSY)]

/-- A pending SET_MODE is overtaken (05 R104). -/
def State.overtake (s : State) : State := finishWhere isSetMode (fun _ => St.ABORTED_HOST) (fun _ => 0) s

/-- SERVICE is left: bridges, HV, heaters and lasers take their states of STANDBY. -/
def State.leaveService (s : State) : State :=
  let s := (hvOffAll (List.range 24) s.allBridgesOff).finishHv
  let s := finishWhere (fun c => stoppedCmd c && !isSetMode c) (fun _ => St.ABORTED_STOP) (fun _ => 0) s
  finishWhere (fun c => isSetMode c && par c.p 0 1 = 1) (fun _ => St.OK) (fun _ => 1) s.enterStandby

/-- Registers of the MEM island that software writes (24 R482). -/
def memRegs : List Nat := [Reg.SYS_MEM_ALLOC, Reg.SYS_DEC_CFG, Reg.SYS_MEM_SCRUB_CFG]

/-- The trim banks are lost; stuck words stay known until RESETn (18 R385). -/
def Pipe.noTrim (p : Pipe) : Pipe := { p with trim := [], trimLoaded := List.replicate 34 false, trimBad := [] }

def Station.sleep (st : Station) : Station :=
  { st with
    window := [], pipe := st.pipe.noTrim, link := { st.link with state := .down, laserEn := false },
    plans := { st.plans with slots := List.replicate 36 .reset } }

/-- DORMANT is entered: outputs off, the MEM island and buffer memory unpowered, its RW fields kept in AON (05 R115). -/
def State.goDormant (s : State) : State :=
  let s := (s.mirrorOn (.journal (.mode 0))).unsync Unsync.LINK_DOWN
  let s := (((zonesOff (List.range 4) s).enter .dormant).holdBrk).releaseWhere fun _ => true
  let keep := memRegs.map fun a => (a, s.reg a)
  { s with
    regs := Store.drop memRegs.contains s.regs,
    supply := { s.supply with memPower := false, aonCopy := keep },
    modes := { s.modes with memReady := false, overlays := false, waking := false },
    mem := .reset, feed := { Feed.reset with reqSeq := s.feed.reqSeq },
    dma := { s.dma with scratch := [], written := [] }, trace := { s.trace with records := [] },
    stations := s.stations.map Station.sleep,
    pair := { s.pair with lanes := 0, peerRole := 0, lastBeat := none, unacked := [] } }

def State.toReady (c : Cmd) (s : State) : State :=
  if s.modes.stopping = .orderly then s.overtake.start c
  else if s.modes.draining then
    complete c St.OK s.mode.code { s.overtake with modes := { s.overtake.modes with draining := false } }
  else if s.mode = .warming ∨ s.mode = .ready ∨ s.mode = .printing then complete c St.OK s.mode.code s
  else if s.modes.stopping ≠ .none then complete c St.ABORTED_STOP 0 s
  else (s.overtake.start c).warm

def State.toStandby (c : Cmd) (s : State) : State :=
  if s.mode = .standby then complete c St.OK 1 s
  else
    let s := s.overtake.start c
    if s.modes.stopping ≠ .none ∨ s.modes.draining = true then s
    else if s.mode = .service then s.leaveService
    else if s.mode = .printing then { s with modes := { s.modes with draining := true } }.holdAccepted
    else s.beginOrderly

def State.toService (c : Cmd) (s : State) : State :=
  if s.mode = .service then complete c St.OK 5 s
  else complete c St.OK 5 ((s.overtake.enter .service).auditService Audit.SERVICE_MODE c.p.master St.OK)

def State.toDormant (c : Cmd) (s : State) : State := (complete c St.OK 0 s.overtake).goDormant

/-- What a SET_MODE is refused for, after its access class. -/
def State.setModeBad (s : State) (want : Nat) : List (Bool × Nat) :=
  match want with
  | 0 => s.dormantBad
  | 3 => if s.modes.stopping = .none ∧ (s.mode = .standby ∨ s.mode = .service) then s.readyBad else [noHalt s]
  | 5 => s.serviceBad
  | _ => []

/-- The effect of an accepted SET_MODE. A SHADOW follows the LEAD's mode by message (20 R404). -/
def State.setMode (c : Cmd) (s : State) : State :=
  if s.pair.role = .shadow then s.start c
  else
    match par c.p 0 1 with
    | 0 => s.toDormant c
    | 1 => s.toStandby c
    | 3 => s.toReady c
    | _ => s.toService c

def execSetMode (p : Packet) (s : State) : Result :=
  let want := par p 0 1
  command Op.SET_MODE (if want = 5 then .service else .owner) p (fun s =>
    s.setModeBad want ++ [noTarget p, params p [(0, 1)], badParam (want = 2 || want = 4 || 5 < want)])
    (fun c s => s.setMode c) s

/-! Stops (05 R105-R108). -/

/-- SAFE_STOP in STANDBY only latches; elsewhere it completes at step 7 of the safe-stop it starts or joins (05 R108). -/
def execSafeStop (p : Packet) (s : State) : Result :=
  command Op.SAFE_STOP .owner p (fun _ => [noTarget p, params p []])
    (fun c s =>
      if s.mode = .standby then complete c St.OK 0 (s.latch Halt.HOST_STOP)
      else (s.halt Halt.HOST_STOP).start c) s

/-- The condition of a halt cause has gone (05 R109). -/
def State.causeGone (s : State) (cause : Nat) : Bool :=
  match cause with
  | 1 => s.drives.all fun d => d.state ≠ .tripped && d.code = 0
  | 3 => s.bus.vbus < 10 * s.imm Fld.OV1
  | 4 => !s.safety.overtemp
  | 5 => !s.safety.interlock
  | 6 => s.bus.linkUp && s.bus.linkSince + ms 10 ≤ s.now
  | 10 => (s.hv.all fun h => !h.fault) && s.zones.all fun z => !z.fault
  | 11 => !s.supply.warning
  | 13 => (List.range 64).all fun i => s.imm (Fld.SS_ROLE i) = 0 || !s.path.level.getD i false
  | 14 => s.stations.all fun st => !st.powered || !st.pll.relocking
  | 15 => !s.pair.dboltIn
  | _ => true

/-- The mask without the causes whose condition has gone. -/
def State.haltLeft (s : State) : Half :=
  BitVec.ofNat 16 (maskOf 16 fun i => s.latched i && !s.causeGone i)

def execClearHalt (p : Packet) (s : State) : Result :=
  command Op.CLEAR_HALT .owner p (fun _ => [noTarget p, params p []])
    (fun c s =>
      let m := s.haltLeft
      let pll := s.latched Halt.PLL_UNLOCK && s.causeGone Halt.PLL_UNLOCK
      let s := { s with modes := { s.modes with haltMask := m, haltFirst := if m = 0 then 0x1F else s.modes.haltFirst } }
      let s := if pll ∧ s.mode = .standby then pllsOff allStations s else s
      complete c (if m = 0 then St.OK else St.HALT_LATCHED) m.toNat s) s

/-- A drain has emptied the path: the orderly stop starts from PRINTING (05 R105). -/
def execOrderlyStop (tick : Nat) (s : State) : Result :=
  whileLeads s fun s =>
    if s.modes.draining ∧ s.modes.stopping = .none ∧ s.pathEmpty = true then (s.at tick).beginOrderly else s

/-- A READY request that came during the orderly stop proceeds from STANDBY (05 R106). -/
def State.readyAfterStop (s : State) : State :=
  match s.running.find? fun c => isSetMode c && par c.p 0 1 = 3 with
  | none => s
  | some c =>
    match firstFail s.readyBad with
    | some st => finish c.seq st 0 s
    | none => s.warm

/-- The mechanics are at rest: the orderly stop ends in STANDBY. -/
def execOrderlyStopRest (tick : Nat) (s : State) : Result :=
  whileLeads s fun s =>
    if s.modes.stopping = .orderly ∧ s.mechanicsAtRest = true then (s.at tick).endOrderly.readyAfterStop else s

/-- Drives and axes are at rest: steps 5 to 7 of the safe-stop. -/
def execSafeStopRest (tick : Nat) (s : State) : Result :=
  whileUp s fun s =>
    if (s.modes.stopping = .safe ∨ s.modes.stopping = .bridgesOff) ∧ s.mechanicsAtRest = true then (s.at tick).endSafeStop else s

/-- SAFE_STOP_MAX has passed: steps 5 to 7 all the same. -/
def execSafeStopMaxExpiry (s : State) : Result :=
  whileUp s fun s =>
    if s.modes.stopping = .safe ∨ s.modes.stopping = .bridgesOff then
      (s.at (s.modes.stopStart + ms (100 * s.imm Fld.SAFE_STOP_MAX))).endSafeStop
    else s

end Sys2Proof.Machine
end

