-- ==== Sys2Proof/Machine/Boot.lean ====
section
/-! DEFINITION. RESETn, boot and the election of roles (05 R111-R114, 20 R403, 23 R469), DORMANT's wake (05 R115, 21 R439), the
supply and the telemetry link (01 R10; 14 R308, R309; 21 R428-R434), the safety inputs (17 R369). -/

namespace Sys2Proof.Machine

/-! RESETn and the loss of supply (05 R112, 23 R469). -/

/-- Flash and fuses over a reset: a store that ran leaves its region torn, entries not yet in flash are lost. -/
def Nv.afterReset (v : Nv) : Nv :=
  { v with
    readable := false, mib := 0, storing := none, storeCmd := 0, held := [], lost := 0, truncated := false, marksFull := false,
    auditSeq := 0, bootNo := 0 }

/-- The device in reset: everything at its reset value but flash, fuses, the levels of input pins, the TAP, and the chopper gate, which
the companion die drives (23 R476). -/
def State.cleared (s : State) : State :=
  { State.reset with
    pending := s.pending, freeCount := s.freeCount, outbox := s.outbox, nv := s.nv.afterReset,
    pins := { s.pins with extest := s.pins.extest },
    supply := { Supply.reset with vin := s.supply.vin, on := s.supply.on },
    boot := { Boot.reset with strap := s.boot.strap, present := s.boot.present },
    path := { Path.reset with level := s.path.level },
    safety := { Safety.reset with interlock := s.safety.interlock, overtemp := s.safety.overtemp },
    encoders := s.encoders.map fun e => { Encoder.reset with a := e.a, b := e.b },
    pair := { Pair.reset with dboltIn := s.pair.dboltIn }, bus := { Bus.reset with gate := s.resetGate s.bus.vbus } }

/-- RESETn falls and stays low for `lowTicks`. Less than 1 µs is ignored; 10 µs or more, with the supply on, is a reset; between
the two the outcome is open. -/
def execResetnAssert (lowTicks : Nat) (s : State) : Result :=
  if lowTicks < us 1 then .next s
  else
    let (v, t) := s.drawNat
    if us 10 ≤ lowTicks then .next { s.cleared with pins := { s.pins with resetn := false } }
    else if v % 2 = 1 then .next { t.cleared with pins := { s.pins with resetn := false } }
    else .next t

/-! Boot (05 R113, R114). -/

/-- FUSES: the fuses are shadowed. -/
def State.shadowFuses (s : State) : State :=
  { s with nv := { s.nv with acting := (List.range 8).map fun i => s.fuse (i + 1), actingKey := s.nv.keySlots.length } }

/-- A patch region that the ROM accepts: header, signature, version. -/
def State.patchOk (s : State) (r : Nat) : Bool :=
  s.nv.readable && (s.region r).valid && patchGood (s.region r).version (s.region r).body && s.acting 6 ≤ (s.region r).version

/-- PATCH: the accepted image of the higher version, region 0 on a tie. -/
def State.pickPatch (s : State) : State :=
  let run (r : Nat) : State :=
    { s with boot := { s.boot with patchValid := true, patchRegion := r, patchVer := (s.region r).version % 2 ^ 16 } }
  if s.patchOk 0 && (!s.patchOk 1 || (s.region 1).version ≤ (s.region 0).version) then run 0
  else if s.patchOk 1 then run 1
  else s

/-- The groups of the default profile become live, each that is consistent. -/
def landProfile : List (Nat × Nat) → State → State
  | [], s => s
  | (g, n) :: l, s =>
    landProfile l
      (match firstFail (applyChecks s g n) with
      | some _ => s
      | none =>
        let s := s.waitApply g n none
        match s.firstApply g n with
        | some a => s.landApply a
        | none => s)

/-- The segment bank that has been written becomes the live one. -/
def Station.takeBank (st : Station) : Station := { st with pipe := { st.pipe with segLive := st.pipe.segShadow } }

/-- PROFILE: the profile in force is loaded as by PROFILE_LOAD, with nothing running to wait for. -/
def State.loadProfile (s : State) : State :=
  match s.inForce Rgn.PROFILE0 Rgn.PROFILE1 with
  | none => s
  | some i =>
    let s := landProfile profileGroups (s.writeProfile (s.nv.profiles.getD i []))
    let s := { s with stations := s.stations.map Station.takeBank }
    { s with boot := { s.boot with profile := i + 1 }, tumbler := .reset }

/-- The highest SEQ in flash, and the number of the last boot. -/
def State.lastSeq (s : State) : Nat := if s.nv.readable then s.nv.log.foldl (fun m a => max m a.seq) 0 else 0
def State.lastBoot (s : State) : Nat :=
  if s.nv.readable then ((s.nv.log.filter fun a => a.kind = Audit.BOOT).getLast?.map AuditEntry.bootNo).getD 0 else 0

/-- The audit log at boot: TRUNCATED, MARKS_FULL and the BOOT entry (22 R454, R455). -/
def State.bootAudit (s : State) : State :=
  let seq := s.lastSeq
  let s := { s with nv := { s.nv with
    auditSeq := seq, bootNo := s.lastBoot + 1, truncated := s.nv.readable && seq < 256 * s.nv.marks,
    marksFull := s.nv.marks = 4096 } }
  s.audit Audit.BOOT 0xFF 0xFF 0xFF 0 [] [] 0 0

/-- Stations at or above STATION_COUNT stay off (22 R449). -/
def State.countStations (s : State) : State :=
  let k := s.acting 2
  let s := s.setImm Fld.STN_ON (s.imm Fld.STN_ON % 2 ^ k)
  { s with stations := s.stations.mapIdx fun i st => if i < k then st else st.fresh false }

def trainAll : List Nat → State → State
  | [], s => s
  | n :: ns, s => trainAll ns (if (s.station n).powered then s.train n else s)

/-- Safety inputs that are asserted as the device starts latch their causes. -/
def State.latchInputs (s : State) : State :=
  let s := if s.safety.interlock then s.latch Halt.INTERLOCK else s
  let s := if s.safety.overtemp then s.latch Halt.OVERTEMP else s
  if s.pair.dboltIn then s.latch Halt.TAKEOVER_FENCE else s

/-- The phases before RUN. -/
def State.bootPhases (s : State) : State :=
  let s := s.shadowFuses
  let s := { s with pair := { s.pair with paired := s.acting 4 = 1 && s.boot.present } }
  let s := { s with nv := { s.nv with readable := 32 ≤ s.nv.fitted, mib := s.nv.fitted } }
  let s := s.countStations.pickPatch.loadProfile.bootAudit
  let s := (trainAll allStations s).latchInputs
  { s with boot := { s.boot with phase := 4 } }

/-- RESETn rises: the time base starts at 0, the straps are sampled, and the device boots up to its profile. -/
def execResetnRelease (pairRole pairPresent : Bool) (s : State) : Result :=
  if s.pins.resetn && s.boot.phase ≠ 0 then .next s
  else
    let s := { s with
      pins := { s.pins with resetn := true, extest := false }, now := 0,
      boot := { s.boot with strap := pairRole, present := pairPresent } }
    .next (if s.supply.on then s.bootPhases else s)

/-! The roles (20 R403). -/

/-- ROLE becomes SHADOW: the beam links are held at T0, LEAD_OUT is low (20 R404). -/
def State.becomeShadow (s : State) : State :=
  let held (st : Station) : Station :=
    if st.powered then { st with link := { st.link with state := .t0, laserEn := false } } else st
  let s := { s with
    pair := { s.pair with role := .shadow, leadOut := false, dboltOut := false }, stations := s.stations.map held }
  s.holdBrk

/-- ROLE becomes LEAD. Chip A fences the peer until it reports SHADOW (20 R403, R415). -/
def State.becomeLead (s : State) : State :=
  { s with pair := { s.pair with
    role := .lead, leadOut := !s.pair.dboltIn,
    dboltOut := !s.boot.strap && !s.pair.dboltIn && s.pair.peerRole ≠ 2 } }

/-- RUN, by 35 ms after the release: the arbiter accepts packets. A paired chip that is fenced, or hears a LEAD, is SHADOW. -/
def execBootRun (s : State) : Result :=
  whileUp s fun s =>
    if 5 ≤ s.boot.phase then s
    else
      let s := (if s.boot.phase = 0 then s.bootPhases else s).at (ms 35)
      let s := { s with boot := { s.boot with phase := 5, released := s.now } }
      if s.pair.paired && (s.pair.dboltIn || s.pair.peerRole = 1) then s.becomeShadow else s

/-- The time for hearing a LEAD is over: 20 ms on chip A, 40 ms on chip B. -/
def execElectionTimeout (s : State) : Result :=
  whileUp s fun s =>
    if s.pair.paired && s.boot.phase = 5 && s.pair.role = .unpaired then
      let s := s.at (s.boot.released + ms (if s.boot.strap then 40 else 20))
      if s.pair.dboltIn then s.becomeShadow else s.becomeLead
    else s

/-! DORMANT and the wake (05 R103, R115; 21 R439). -/

def execWake (source : WakeSource) (s : State) : Result :=
  if s.pins.resetn && s.supply.on && s.mode = .dormant then
    .next { s with modes := { s.modes with waking := true }, pins := { s.pins with wake := source = .pin } }
  else .next s

/-- 3.0 ms after the wake event: STANDBY. The MEM island's fields are written back; MEM_READY is 0. -/
def execWakeDone (s : State) : Result :=
  if s.mode = .dormant ∧ s.modes.waking = true then
    let s := s.at (s.now + ms 3)
    let s := { s with
      regs := Store.putAll resetWord s.regs s.supply.aonCopy, supply := { s.supply with memPower := true, aonCopy := [] },
      modes := { s.modes with waking := false, stopping := .none, draining := false } }
    .next (trainAll allStations (s.enter .standby)).latchInputs
  else .next s

/-! The supply (21 R428-R434). VIN is in 25 mV: 9.0 V are 360, 8.8 V 352, 8.3 V 332, 9.2 V 368, 61.0 V 2440. -/

/-- VIN rises to 9.0 V: the pre-regulator starts, the power-on reset is released, and with RESETn high the device boots. -/
def execVinRise (vin : Nat) (s : State) : Result :=
  if s.supply.on || vin < 360 then .next s
  else
    let s := { s.cleared with supply := { Supply.reset with vin := vin % 4096 } }
    .next (if s.pins.resetn then s.bootPhases else s)

/-- The beam link of a station sends only IDLE: the frame in progress breaks off (21 R432). -/
def Station.idleLink (st : Station) : Station :=
  { st with link := { st.link with frame := none }, pipe := { st.pipe with sending := [], sentTo := 0 } }

/-- Load is shed: engines and scrubber stop, blocks in decoding go back to staging, the stations' links go idle, DMA lists and the store
end (21 R432). -/
def State.shedAll (s : State) : State :=
  let s := { s.dropJobs fun _ => true with sheets := { s.sheets with slots := s.sheets.slots.map (Option.map Sheet.undecode) } }
  let s := { s with feed := { s.feed with shedLoad := true }, stations := s.stations.map Station.idleLink }
  (endAllLists St.ABORTED_POWER (List.range 16) s).stopStore St.STORE_SUPPLY_LOW

/-- The warning reaches MOTION: BROWNOUT, the safe-stop, the load shed, the event. While the telemetry link is down it does not
reach it. -/
def execBrownoutWarning (vin tick : Nat) (s : State) : Result :=
  whileUp s fun s =>
    if s.supply.warning || !s.bus.linkUp then s
    else
      let s := s.at tick
      let s := { s with supply := { s.supply with
        vin := vin % 4096, warning := true, warnings := satAdd 0xFFFF s.supply.warnings 1 } }
      ((s.halt Halt.BROWNOUT).shedAll).raise Ev.BROWNOUT_WARNING 0xFF 0xFF (leBytes 2 (vin % 4096))

/-- VIN falls to 8.3 V: the pre-regulator stops, and the logic die is in reset. -/
def execBrownoutOff (s : State) : Result :=
  .next { s.cleared with supply := { Supply.reset with on := false, vin := s.supply.vin }, bus := .reset }

/-- VIN has been above 9.2 V for 1 ms: the warning clears, the shed functions resume; BROWNOUT stays latched. -/
def execBrownoutRecovery (vin : Nat) (s : State) : Result :=
  whileUp s fun s =>
    if s.supply.warning ∧ 368 ≤ vin then
      { s with supply := { s.supply with vin := vin % 4096, warning := false }, feed := { s.feed with shedLoad := false } }
    else s

/-! Telemetry and the chopper (14 R308, R309; 21 R430). Thresholds of SYS_BUS_CFG are in 0.25 V. -/

/-- A sample of the companion die's measurements. It drives the gate in every state; its values reach the logic die over the
telemetry link, outside reset and DORMANT (14 R308, 23 R476). -/
def execTelemetrySample (vin vbus brkI v5 : Nat) (temp : Int) (tick : Nat) (s : State) : Result :=
  if !s.pins.resetn then .next (s.setGate (s.resetGate vbus) vbus)
  else whileUp s fun s =>
    if !s.bus.linkUp then (s.at tick).chopperGate vbus
    else
      let was := s.bus.vbus
      let s := s.at tick
      let s := { s with
        supply := { s.supply with vin := vin, v5 := v5, temp := temp, vinHigh := 2440 < vin }, bus := { s.bus with vbus := vbus, brkI := brkI } }
      let s := (s.chopperGate vbus).judgeChopper.judgeRegen
      if 10 * s.imm Fld.OV2 ≤ vbus ∧ was < 10 * s.imm Fld.OV2 then
        (s.raise Ev.BUS_OV 0xFF 0xFF (leBytes 2 vbus ++ leBytes 1 s.bus.chopper)).halt Halt.BUS_OV
      else s

/-- The telemetry link has been lost for more than 40 µs (01 R10). -/
def execHvdieLinkLost (tick : Nat) (s : State) : Result :=
  whileUp s fun s =>
    if s.bus.linkUp then
      let s := s.at tick
      let s := { s with bus := { s.bus with
        linkUp := false, copyOn := 10 * s.imm Fld.CHOP_ON, copyOff := 10 * s.imm Fld.CHOP_OFF } }
      (zonesOff (List.range 4) s.judgeRegen |>.raise Ev.HVDIE_LINK_LOST 0xFF 0xFF []).halt Halt.HVDIE_LINK
    else s

def execHvdieLinkUp (tick : Nat) (s : State) : Result :=
  whileUp s fun s =>
    if s.bus.linkUp then s
    else
      let s := s.at tick
      ({ s with bus := { s.bus with linkUp := true, linkSince := s.now } }).judgeRegen

/-! The safety inputs (17 R369). Their levels are kept in every mode and in reset. -/

/-- The level of the interlock; its kill line reaches the chopper gate (01 R9). -/
def State.setInterlock (s : State) (v : Bool) : State := { s with safety := { s.safety with interlock := v } }.holdBrk
def State.setOvertemp (s : State) (v : Bool) : State := { s with safety := { s.safety with overtemp := v } }

/-- What the hardware gate of INTERLOCKn and OVERTEMPn takes away. -/
def State.gateOff (s : State) : State := zonesOff (List.range 4) (hvOffAll (List.range 24) s)

def execInterlockOpen (tick : Nat) (s : State) : Result :=
  .next
    (if s.safety.interlock then s
     else if !s.up then s.setInterlock true
     else
       let s := (tracksOff allStations ((s.at tick).setInterlock true)).gateOff
       (s.raise Ev.INTERLOCK_OPEN 0xFF 0xFF []).halt Halt.INTERLOCK)

def execInterlockClosed (s : State) : Result := .next (s.setInterlock false)

def execOvertempTrip (tick : Nat) (s : State) : Result :=
  .next
    (if s.safety.overtemp then s
     else if !s.up then s.setOvertemp true
     else (((s.at tick).setOvertemp true).gateOff.raise Ev.OVERTEMP_TRIP 0xFF 0xFF []).halt Halt.OVERTEMP)

def execOvertempRelease (s : State) : Result := .next (s.setOvertemp false)

end Sys2Proof.Machine
end

