-- ==== Sys2Proof/Machine/Layouts.lean ====
section
/-! DEFINITION. The bytes of what the device writes into its rings and sends on the management port and the mirror link:
completions (03 R69), events (03 R75), completion records (02 R49), data requests (08 R173), audit entries (22 R453), and the
entries read back from such bytes. -/

namespace Sys2Proof.Machine

/-- A run of bytes followed by its CRC-32C. -/
def withCrc (b : List Byte) : List Byte := b ++ leBytes 4 (crc32c b).toNat

/-- The 32 bytes of an event. -/
def Event.bytes (e : Event) : List Byte :=
  withCrc (leBytes 2 e.code ++ leBytes 1 e.severity ++ leBytes 1 e.inst ++ leBytes 4 e.seq ++ leBytes 8 e.time ++
    leBytes 2 e.epoch.toNat ++ leBytes 1 e.slot ++ [0] ++ slice e.data 0 8)

/-- The 64 bytes of a completion record. -/
def Record.bytes (r : Record) : List Byte :=
  withCrc (leBytes 1 1 ++ leBytes 1 r.state ++ leBytes 1 r.slot ++ leBytes 1 r.location ++ leBytes 4 r.sheetId ++
    leBytes 4 r.jobId ++ leBytes 4 r.seq ++ leBytes 8 r.tPick ++ leBytes 8 r.tHinge ++ leBytes 8 r.tClose ++
    leBytes 4 r.flags ++ leBytes 4 r.gap ++ leBytes 2 r.retries ++ leBytes 2 r.lost ++ leInt 2 r.speedErr ++
    leBytes 1 r.stations ++ [0] ++ leBytes 2 r.epoch.toNat ++ [0, 0])

/-- The 32 bytes of a data request. -/
def DataRequest.bytes (d : DataRequest) : List Byte :=
  withCrc (leBytes 1 1 ++ leBytes 1 d.kind ++ leBytes 1 d.station ++ leBytes 1 d.slot ++ leBytes 4 d.sheetId ++
    leBytes 2 d.band ++ leBytes 2 d.first ++ leBytes 4 d.length ++ leBytes 4 d.ofs ++ leBytes 4 d.seq ++
    leBytes 2 d.status ++ [0, 0])

/-- The 64 bytes of an audit entry. -/
def AuditEntry.bytes (a : AuditEntry) : List Byte :=
  withCrc (leBytes 1 1 ++ leBytes 1 a.kind ++ leBytes 1 a.master ++ leBytes 1 a.inst ++ leBytes 4 a.seq ++ leBytes 8 a.time ++
    leBytes 2 a.oldEpoch.toNat ++ leBytes 2 a.newEpoch.toNat ++ leBytes 1 a.slot ++ [0] ++ leBytes 2 a.status ++
    slice a.old 0 16 ++ slice a.new 0 16 ++ leBytes 2 a.bootNo ++ [0, 0])

def Entry.bytes : Entry → List Byte
  | .completion c => c.bytes
  | .event e => e.bytes
  | .record r => r.bytes
  | .request d => d.bytes
  | .audit a => a.bytes

/-! Reading an entry (20 R408: a POST message carries it). -/

/-- The master that SQ names (03 R69). -/
def sqMaster (sq : Nat) : Nat := if sq = 0xFE then 1 else if sq = 0xFD then 2 else 0

/-- A completion from its bytes; it goes to the queue `cq`. -/
def readCompletion (cq : Nat) (b : List Byte) : Completion :=
  { tag := fieldAt b 0 2, status := fieldAt b 2 2, op := fieldAt b 4 2, sq := fieldAt b 6 1, flags := fieldAt b 7 1,
    result := fieldAt b 8 4, sqHead := fieldAt b 12 2, arbSeq := fieldAt b 14 2, cq, master := sqMaster (fieldAt b 6 1) }

def readEvent (b : List Byte) : Event :=
  { code := fieldAt b 0 2, severity := fieldAt b 2 1, inst := fieldAt b 3 1, seq := fieldAt b 4 4, time := fieldAt b 8 8,
    epoch := BitVec.ofNat 16 (fieldAt b 16 2), slot := fieldAt b 18 1, data := slice b 20 8 }

def readRecord (b : List Byte) : Record :=
  { state := fieldAt b 1 1, slot := fieldAt b 2 1, location := fieldAt b 3 1, sheetId := fieldAt b 4 4,
    jobId := fieldAt b 8 4, seq := fieldAt b 12 4, tPick := fieldAt b 0x10 8, tHinge := fieldAt b 0x18 8,
    tClose := fieldAt b 0x20 8, flags := fieldAt b 0x28 4, gap := fieldAt b 0x2C 4, retries := fieldAt b 0x30 2,
    lost := fieldAt b 0x32 2, speedErr := signed 16 (fieldAt b 0x34 2), stations := fieldAt b 0x36 1,
    epoch := BitVec.ofNat 16 (fieldAt b 0x38 2) }

def readRequest (b : List Byte) : DataRequest :=
  { kind := fieldAt b 1 1, station := fieldAt b 2 1, slot := fieldAt b 3 1, sheetId := fieldAt b 4 4, band := fieldAt b 8 2,
    first := fieldAt b 10 2, length := fieldAt b 12 4, ofs := fieldAt b 16 4, seq := fieldAt b 20 4,
    status := fieldAt b 24 2 }

end Sys2Proof.Machine
end

