-- ==== Sys2Proof/Machine/Queues.lean ====
section
/-! DEFINITION. The queues and the management port (03 R55-R70, R81-R83): packets taken in, doorbells, coalescing, failed
accesses to host memory (06 R499), and the commands that report and record: EVENT_MASK (03 R73), COUNTERS_READ (03 R77) and the
trace (03 R78, R79). -/

namespace Sys2Proof.Machine

/-! A packet taken in (03 R66, R68). -/

/-- The completion of a packet that never reaches the arbiter: ARB_SEQ 0xFFFF. -/
def State.rejection (s : State) (p : Packet) (tag op status result flags : Nat) : Entry :=
  .completion ⟨tag, status, op, sqByte p.master p.sq, flags, result, s.sqHead p.master p.sq, 0xFFFF, p.cq, p.master⟩

/-- A packet rejected under its own TAG and OPCODE. -/
def State.reject (s : State) (op : Nat) (p : Packet) (status flags : Nat) : State :=
  s.deliver (s.rejection p p.tag op status 0 flags) true false

/-- The tag is outstanding from now on. -/
def State.holdTag (s : State) (p : Packet) : State :=
  if p.tag = 0xFFFF then s else { s with tags := s.tags ++ [(p.master, p.tag)] }

/-- The checks of steps 2 to 5 on a packet whose CRC is good; one that passes them waits for the arbiter. -/
def State.takePacket (s : State) (raw : List Byte) (op : Nat) (p : Packet) : State :=
  let dup := s.tags.contains (p.master, p.tag)
  if !mustBeZero raw then (s.holdTag p).reject op p St.BAD_PACKET 0
  else if dup then s.reject op p St.TAG_IN_USE 1
  else
    let s := s.holdTag p
    if !Op.all.contains op then s.reject op p St.BAD_OPCODE 0
    else if p.master = 0 ∧ !(p.cq < 32 && s.queueType p.cq = Ty.COMPLETION) then s.reject op p St.BAD_PARAM 0
    else { s with arrived := s.arrived ++ [(op, p)] }

/-- The 64 bytes of a packet from a master. One whose CRC is wrong names nothing that can be trusted: its completion goes to the
lowest-numbered live COMPLETION queue. -/
def State.intake (s : State) (master sq index : Nat) (raw : List Byte) (args : Option (List Byte)) (tick : Nat) : State :=
  let r := readPacket master sq index raw args tick
  if crcGood raw then s.takePacket raw r.1 r.2
  else s.deliver (s.rejection { r.2 with cq := 0xFF } 0xFFFF 0xFFFF St.BAD_PACKET index 0) true false

/-- How many packets of a master are outstanding. -/
def State.outstanding (s : State) (master : Nat) : Nat := (s.tags.filter fun t => t.1 = master).length

/-- The device may fetch from a queue: an enabled SUBMISSION queue that holds an entry, 1,024 commands not outstanding, and
after a takeover every doorbell rung again (03 R58, R68, R498; 20 R422). -/
def State.mayFetch (s : State) (q : Nat) : Bool :=
  s.queueOn q && s.queueType q = Ty.SUBMISSION && (s.queue q).head ≠ (s.queue q).tail && s.outstanding 0 < 1024 &&
    !s.pairWork.waitBells

/-- How many packets one read of a queue may take: up to 8, as its entries and the 1,024 outstanding allow (03 R63, R68). -/
def State.fetchRoom (s : State) (q : Nat) : Nat :=
  let n := s.queueSize q
  min 8 (min (((s.queue q).tail + n - (s.queue q).head) % n) (1024 - s.outstanding 0))

/-- HEAD moves past `k` fetched entries, and is written back (03 R61). -/
def State.fetched (s : State) (q k : Nat) : State :=
  let h := ((s.queue q).head + k) % s.queueSize q
  (s.setQueue q fun Q => { Q with head := h }).out (.writeBack q (s.ringWriteBack q) h)

/-- The packets of one read, from index `i` on, in index order. -/
def intakeAll (q tick : Nat) : List (List Byte × Option (List Byte)) → Nat → State → State
  | [], _, s => s
  | r :: rs, i, s => intakeAll q tick rs ((i + 1) % s.queueSize q) (s.intake 0 q i r.1 r.2 tick)

/-- One read of a SUBMISSION queue: the first of the entries that `raws` gives, as many as there is room for. -/
def execPacketFetch (q : Nat) (raws : List (List Byte × Option (List Byte))) (tick : Nat) (s : State) : Result :=
  whileUp s fun s =>
    if s.mayFetch q then
      let rs := raws.take (s.fetchRoom q)
      intakeAll q tick rs (s.queue q).head ((s.at tick).fetched q rs.length)
    else s

/-! Doorbells (03 R59, R60, R498). -/

def execDoorbellTail (q : Nat) (value : Word) (tick : Nat) (s : State) : Result :=
  whileUp s fun s => (s.at tick).ring q value.toNat

def execDoorbellHead (q : Nat) (value : Word) (tick : Nat) (s : State) : Result :=
  whileUp s fun s => (s.at tick).ring q value.toNat

/-- The oldest pending entry has waited COAL_TIME (03 R61). -/
def execCoalTimeExpiry (q : Nat) (s : State) : Result :=
  whileUp s fun s =>
    match (s.queue q).oldest with
    | some t =>
      let wait := s.imm (Fld.QUE_COAL_TIME q)
      if s.on (Fld.QUE_IRQ_EN q) && wait ≠ 0 then
        let s := s.at (t + us wait)
        (s.setQueue q fun Q => { Q with irqCount := 0, oldest := none }).out (.msix (s.liv (Fld.QUE_VECTOR q)))
      else s
    | none => s

/-! Failed accesses to host memory (06 R499). -/

/-- A packet that waits for the arbiter remembers that an access to host memory failed for it. -/
def State.loseArgs (s : State) (master tag : Nat) : State :=
  { s with arrived := s.arrived.map fun (x : Nat × Packet) =>
      if x.2.master = master ∧ x.2.tag = tag then (x.1, { x.2 with args := none }) else x }

/-- A running CAPTURE whose writes fail ends; its RESULT counts the lines so far. -/
def State.loseResult (s : State) (master tag : Nat) : State :=
  match s.running.find? fun c => c.op = Op.CAPTURE && c.p.master = master && c.p.tag = tag with
  | none => s.loseArgs master tag
  | some c =>
    let n := match s.captures.find? fun j => j.cmd = c.seq with
      | some j => j.lines + 2 ^ 16 * j.dropped
      | none => 0
    finish c.seq St.ABORTED_BUS n { s with captures := s.captures.filter fun j => j.cmd ≠ c.seq }

def execHostAccessError (a : HostAccess) (tick : Nat) (s : State) : Result :=
  whileUp s fun s =>
    let s := s.at tick
    match a with
    | .fetch q => if s.queueOn q && s.queueType q = Ty.SUBMISSION then s.queueError q 2 else s
    | .post q => if s.queueOn q && s.queueType q ≠ Ty.UNUSED then s.queueError q 3 else s
    | .args m t => s.loseArgs m t
    | .result m t => s.loseResult m t
    | .index line => s.indexLost line

/-! The management port (03 R81-R83). -/

/-- The payload of an item of the port. -/
def mgmtPayload : Option Entry → List Byte
  | some (.completion c) => c.bytes
  | some (.event e) => e.bytes
  | _ => []

/-- A frame: SYNC, LEN, payload, CRC-16. -/
def mgmtFrame (sync : Byte) (b : List Byte) : List Byte :=
  let h := sync :: leBytes 1 b.length ++ b
  h ++ leBytes 2 (crc16 h).toNat

/-- A SUBMIT frame that can be read: whole, after a long enough gap, LEN 0x40, its CRC good. -/
def submitGood (frame : List Byte) (whole gapOk : Bool) : Bool :=
  whole && gapOk && frame.length = 68 && fieldAt frame 1 1 = 0x40 && fieldAt frame 66 2 = (crc16 (frame.take 66)).toNat

/-- A packet in a SUBMIT frame: QUEUE_FULL when it would be the seventeenth outstanding. -/
def State.submit (s : State) (raw : List Byte) (args : Option (List Byte)) (tick : Nat) : State :=
  let r := readPacket 1 0 0 raw args tick
  if crcGood raw && 16 ≤ s.outstanding 1 then s.reject r.1 r.2 St.QUEUE_FULL 0
  else s.intake 1 0 0 raw args tick

def execMgmtSubmit (frame : List Byte) (whole gapOk : Bool) (args : Option (List Byte)) (tick : Nat) (s : State) : Result :=
  whileUp s fun s =>
    if fieldAt frame 0 1 ≠ 0xA5 then s
    else
      let s := s.at tick
      if submitGood frame whole gapOk then s.submit (slice frame 2 64) args tick
      else s.deliver (.completion ⟨0xFFFF, St.FRAME_ERROR, 0xFFFF, 0xFE, 0, 0, 0xFFFF, 0xFFFF, 0xFF, 1⟩) true false

/-- The level of ALERTn: low while any item is pending for the port (03 R82). -/
def State.alertn (s : State) : Bool := s.mgmt.items.isEmpty

/-- An item was clocked out whole: it is delivered, and a command's tag is free. -/
def State.delivered (s : State) (e : Entry) : State :=
  let s := { s with mgmt := { s.mgmt with items := s.mgmt.items.drop 1, last := some e } }
  match e with
  | .completion c => s.freeTag c
  | _ => s

/-- A FETCH frame: the next item, or the last one again. One that ends early or comes too soon delivers nothing. -/
def execMgmtFetch (again whole gapOk : Bool) (s : State) : Result :=
  whileUp s fun s =>
    if !whole || !gapOk then s
    else
      let item := if again then s.mgmt.last else s.mgmt.items.head?
      let s := s.out (.mgmt (mgmtFrame 0xC3 (mgmtPayload item)))
      match item with
      | some e => if again then s else s.delivered e
      | none => s

/-- A frame of unknown kind: neither SUBMIT nor a FETCH with second byte 0 or 1. -/
def unknownFrame (frame : List Byte) : Bool :=
  fieldAt frame 0 1 ≠ 0xA5 && !(fieldAt frame 0 1 = 0x5A && fieldAt frame 1 1 < 2)

def execMgmtUnknownFrame (frame : List Byte) (s : State) : Result :=
  whileUp s fun s =>
    if unknownFrame frame then { s with mgmt := { s.mgmt with syncErrors := satAdd 0xFFFFFFFF s.mgmt.syncErrors 1 } } else s

/-! The commands that report and record. -/

def execEventMask (p : Packet) (s : State) : Result :=
  command Op.EVENT_MASK .owner p (fun _ => [noTarget p, params p [(0, 48)]])
    (fun c s => complete c St.OK 0 { s with hostMask := slice p.params 0 32, mgmtMask := slice p.params 32 16 }) s

/-- The blocks of COUNTERS_READ: how many instances, the base and stride of the window, the bytes copied. -/
def counterBlocks : List (Nat × Nat × Nat × Nat) :=
  [(5, 0x10000, 0x1000, 4096), (12, 0x8000, 0x180, 384), (24, 0x6000, 0x80, 128), (24, 0x5000, 0x40, 64), (32, 0x2000, 0x20, 32),
    (16, 0x3000, 0x20, 32), (24, 0x4000, 0x18, 24), (0, 0x1000, 0, 4096), (0, 0, 0, 4096)]

/-- The clear register of a block. -/
def clearReg (block inst : Nat) : Option Nat :=
  if block = 1 then some (Reg.STN_STAT_CLR inst) else if block = 2 then some (Reg.DRV_STAT_CLR inst)
  else if block = 8 then some Reg.AFE_STAT_CLR else none

/-- The words of a window as reads return them. -/
def State.window (s : State) (base words : Nat) : List Byte :=
  (List.range words).flatMap fun i => leBytes 4 (s.readWord (base + 4 * i)).toNat

def execCountersRead (p : Packet) (s : State) : Result :=
  let k := par p 0 1
  let clear := par p 1 1 = 1
  let host := par p 8 8
  let b := counterBlocks.getD (k - 1) (0, 0, 0, 0)
  command Op.COUNTERS_READ .observer p (fun s =>
    [(clear && (s.key.holder ≠ p.master || s.pair.role = .shadow), St.NOT_OWNER),
      ((if k = 1 then stationOn s p else (false, 0))),
      ((if 1 ≤ k ∧ k ≤ 7 then targetBelow p b.1 else noTarget p)), params p [(0, 2), (8, 8)],
      badParam (k = 0 || 9 < k || 1 < par p 1 1 || (clear && (clearReg k 0).isNone) || host = 0 || host % 4 ≠ 0)])
    (fun c s =>
      let t := s.hostResult host (s.window (b.2.1 + b.2.2.1 * (if b.1 = 0 then 0 else p.target)) (b.2.2.2 / 4))
      let t := match clearReg k p.target with
        | some a => if clear then (t.portWrite a (2 ^ 32 - 1) 1).1 else t
        | none => t
      complete c (resultStatus p host) b.2.2.2 t) s

/-! The trace (03 R78, R79). -/

def execTraceStart (p : Packet) (s : State) : Result :=
  command Op.TRACE_START .owner p (fun s =>
    [(s.trace.running, St.TARGET_BUSY), noTarget p, params p [(0, 7)],
      badParam (0xFF < par p 0 4 || 31 < par p 4 1 || 23 < par p 5 1 || 1 < par p 6 1)])
    (fun c s => complete c St.OK 0 { s with trace := ⟨true, par p 0 4, par p 4 1, par p 5 1, par p 6 1 = 1, []⟩ }) s

/-- The 16 bytes of a record. -/
def TraceRec.bytes (r : TraceRec) : List Byte := leBytes 6 r.time ++ leBytes 1 r.source ++ leBytes 1 r.inst ++ slice r.data 0 8

def execTraceStop (p : Packet) (s : State) : Result :=
  let host := par p 0 8
  command Op.TRACE_STOP .owner p (fun _ => [noTarget p, params p [(0, 12)], badParam (host % 4 ≠ 0)])
    (fun c s =>
      let b := s.trace.records.flatMap TraceRec.bytes
      let s := { s with trace := { s.trace with running := false } }
      let s := if host = 0 then s else s.hostResult host (b.take (par p 8 4))
      complete c (resultStatus p host) b.length s) s

end Sys2Proof.Machine
end

