-- ==== Sys2Proof/Machine/Jtag.lean ====
section
/-! DEFINITION. The TAP (23 R471, R472): its states, the instruction register, and when EXTEST is accepted. -/

namespace Sys2Proof.Machine

/-- The state after a rising edge of TCK. Five edges with TMS high reach TEST-LOGIC-RESET from every state. -/
def TapState.next (t : TapState) (tms : Bool) : TapState :=
  match t, tms with
  | .reset, true => .reset
  | .reset, false => .idle
  | .idle, true => .selDR
  | .idle, false => .idle
  | .selDR, true => .selIR
  | .selDR, false => .capDR
  | .capDR, true | .shDR, true => .ex1DR
  | .capDR, false | .shDR, false => .shDR
  | .ex1DR, true => .upDR
  | .ex1DR, false | .pauDR, false => .pauDR
  | .pauDR, true => .ex2DR
  | .ex2DR, true => .upDR
  | .ex2DR, false => .shDR
  | .upDR, true | .upIR, true => .selDR
  | .upDR, false | .upIR, false => .idle
  | .selIR, true => .reset
  | .selIR, false => .capIR
  | .capIR, true | .shIR, true => .ex1IR
  | .capIR, false | .shIR, false => .shIR
  | .ex1IR, true => .upIR
  | .ex1IR, false | .pauIR, false => .pauIR
  | .pauIR, true => .ex2IR
  | .ex2IR, true => .upIR
  | .ex2IR, false => .shIR

/-- The instruction register after an edge in state `t` that leads to `t'`: cleared on capture, shifted in SHIFT-IR; an update
takes EXTEST only while RESETn is low, and BYPASS otherwise. -/
def Pins.clock (p : Pins) (t' : TapState) (tdi : Bool) : Pins :=
  { p with
    tap := t',
    irShift := if p.tap = .capIR then [] else if p.tap = .shIR then p.irShift ++ [tdi] else p.irShift,
    extest := if t' = .reset then false
      else if t' = .upIR then Config.extestCode p.irShift && !p.resetn else p.extest }

/-- A rising edge of TCK, in every mode and in reset, while the supply is up. -/
def execTckEdge (tms tdi : Bool) (s : State) : Result :=
  .next (if s.supply.on then { s with pins := s.pins.clock (s.pins.tap.next tms) tdi } else s)

end Sys2Proof.Machine
end

