-- ==== Sys2Proof/Machine/Takeover.lean ====
section
/-! DEFINITION. The takeover and the planned exchange (20 R419-R424): what a SHADOW that becomes LEAD does with outputs, sheets,
commands and queues, and what a LEAD that gives up its role does. -/

namespace Sys2Proof.Machine

/-! The commands a SHADOW carries out in step with the LEAD (20 R405, R421). -/

/-- The meanings that a SHADOW follows. What the LEAD alone does (its DMA, its buffer memory, its heads, its traces), what
comes by CONFIG messages and what concerns the LEAD's own service access and role is only tracked. -/
def inStepOps : List (Nat × (Packet → State → Result)) :=
  [(Op.SET_MODE, execSetMode), (Op.SAFE_STOP, execSafeStop), (Op.CLEAR_HALT, execClearHalt),
    (Op.FUNCTION_RESET, execFunctionReset), (Op.CLAIM_KEY, execClaimKey), (Op.HAND_KEY, execHandKey),
    (Op.KEY_TOUCH, execKeyTouch), (Op.APPLY, execApply), (Op.PROFILE_LOAD, execProfileLoad),
    (Op.SHEET_SUBMIT, execSheetSubmit), (Op.SHEET_CANCEL, execSheetCancel), (Op.SHEET_CLEAR_REG, execSheetClearReg),
    (Op.DRIVE_START, execDriveStart), (Op.DRIVE_SPEED, execDriveSpeed), (Op.DRIVE_BRAKE, execDriveBrake), (Op.MOVE, execMove),
    (Op.GROUP_MOVE, execGroupMove), (Op.HOME, execHome), (Op.STOP, execStop), (Op.EMERGENCY_STOP, execEmergencyStop),
    (Op.LOOP_LOAD, execLoopLoad), (Op.LOOP_CLOSE, execLoopClose), (Op.LOOP_OPEN, execLoopOpen),
    (Op.PROFILE_RUN, execProfileRun), (Op.HV_SET, execHvSet), (Op.HV_ENABLE, execHvEnable), (Op.FUSER_SET, execFuserSet),
    (Op.FUSER_ENABLE, execFuserEnable), (Op.PLAN_SWITCH, execPlanSwitch), (Op.STORE_PROFILE, execStoreProfile),
    (Op.STORE_TRIM, execStoreTrim), (Op.STORE_PLAN, execStorePlan), (Op.PATCH_LOAD, execPatchLoad),
    (Op.FUSE_WRITE, execFuseWrite), (Op.EVENT_MASK, execEventMask)]

def inStep (op : Nat) : Option (Packet → State → Result) := (inStepOps.find? fun x => x.1 = op).map Prod.snd

/-- The stores, which both chips carry out (20 R426) and a takeover ends (20 R421). -/
def storeOps : List Nat := [Op.STORE_PROFILE, Op.STORE_TRIM, Op.STORE_PLAN, Op.PATCH_LOAD, Op.FUSE_WRITE]

/-- A command of the old LEAD's that the new LEAD goes on with. -/
def goesOn (c : Cmd) : Bool := (inStep c.op).isSome && !storeOps.contains c.op

/-! Outputs (20 R419). -/

/-- Slots that were FENCED are CLOSED. -/
def Loop.unfence (l : Loop) : Loop := if l.state = .fenced then { l with state := .closed, loopin := none } else l
def Loop.fence (l : Loop) : Loop := if l.state = .closed then { l with state := .fenced } else l

/-- Enabled axes are energised again at their generator's position. -/
def reEnergise : List Nat → State → State
  | [], s => s
  | n :: ns, s =>
    reEnergise ns (s.setAxis n fun a => { a with
      energised := a.energised || (s.livOn (Fld.AXS_EN n) && a.state ≠ .off && a.state ≠ .stalled) })

/-- Enabled HV channels rise with T = 0 and ramp back under their latched rate. -/
def rampHvBack : List Nat → State → State
  | [], s => s
  | n :: ns, s =>
    let h := s.hvCh n
    rampHvBack ns
      (if !h.en then s
       else if h.disabling then s.hvOff n
       else
        (s.setHv n fun h => { h with t := 0, ramp := none, duty := 0, arcPause := false }).rampAt n (s.imm (Fld.HV_SET n)) h.lastRate)

/-- A drive that was running: a warm catch where its observer has been plausible, else a start from listening (14 R300). -/
def resumeDrives : List Nat → State → State
  | [], s => s
  | d :: ds, s =>
    resumeDrives ds
      (if !(s.drive d).running then s
       else if bit s.pair.drives d then
        s.setDrive d fun D => { D with
          bridge := true, catchKind := 2, stats := { D.stats with caught := satAdd 0xFFFF D.stats.caught 1 } }
       else s.listen d (s.drive d).target (s.drive d).revAction)

def State.takeOutputs (s : State) : State :=
  let s := { s with loops := s.loops.map Loop.unfence }
  let s := rampHvBack (List.range 24) (reEnergise (List.range 24) s)
  (trainAll allStations (resumeDrives (List.range 12) s)).finishHv

/-! Sheets (20 R420). -/

/-- The causes of the HV channels that were enabled. -/
def arcStamps : List Nat → State → State
  | [], s => s
  | n :: ns, s =>
    arcStamps ns
      (if (s.hvCh n).en then
        stampAll Cause.HV_ARC s.now ((s.served n).filter fun i => (s.slotsWhere fun sh => sh.state = .finishing).contains i) s
       else s)

def shedAllOf : List Nat → State → State
  | [], s => s
  | i :: is, s => shedAllOf is (s.shed i)

/-- No gate has passed any longer: a sheet before its Hinge waits at its gates (20 R420). -/
def State.dropGates (s : State) : State :=
  { s with sheets := { s.sheets with hingeReady := none, hingeMsg := none, pickWait := none } }

def State.takeSheets (s : State) : State :=
  let s := stampAll Cause.TAKEOVER s.now (s.slotsWhere fun _ => true) s
  let imaging := s.slotsWhere fun sh => sh.state = .imaging
  let s := shedAllOf imaging (stampAll Cause.STATION_RESET s.now imaging s)
  ((arcStamps (List.range 24) s).refeedAll true).dropGates

/-! Commands and queues (20 R421-R423). -/

/-- The index of an event by its code (03 R76). -/
def evIndex (code : Nat) : Nat := (Ev.table.findIdx? fun x => x.1 = code).getD 0

/-- An entry that was mirrored and not posted, posted again: a completion with FLAGS.TAKEOVER. -/
def State.repost (s : State) : Entry → State
  | .completion c =>
    s.enqueue (.completion { c with flags := setBit c.flags 1, master := if c.master = 2 then 1 else c.master }) true false
  | .event e => s.enqueue (.event e) (s.hostTakes (evIndex e.code)) (s.mgmtTakes (evIndex e.code))
  | e => s.enqueue e true false

def repostAll : List Entry → State → State
  | [], s => s
  | e :: es, s => repostAll es (s.repost e)

/-- The relay's key and commands pass to the management port of the new LEAD (04 R100). -/
def fromRelay (p : Packet) : Packet := if p.master = 2 then { p with master := 1 } else p
def Cmd.overtaken (c : Cmd) : Cmd := { c with p := fromRelay c.p, taken := true }
def Cmd.taken' (c : Cmd) : Cmd := { c with p := fromRelay c.p, ours := true, taken := true }
def Claim.taken' (k : Claim) : Claim := { k with master := if k.master = 2 then 1 else k.master, cmd := k.cmd.taken' }

/-- Every command is completed by this chip from now on: some go on, the exchange itself is done, the others are aborted. -/
def State.takeCommands (s : State) : State :=
  let stray (c : Cmd) : Bool := c.taken && !goesOn c && !c.ours
  let s := { s with
    running := s.running.map Cmd.overtaken,
    tags := s.tags ++ (s.running.filter fun (c : Cmd) => !c.ours).map fun (c : Cmd) => ((fromRelay c.p).master, c.p.tag),
    key := { s.key with
      holder := if s.key.holder = 2 then 1 else s.key.holder, claims := s.key.claims.map Claim.taken' } }
  let s := if s.nv.storing.isSome then s.stopStore St.TAKEOVER_ABORTED else s
  let s := finishWhere stray (fun c => if c.op = Op.PAIR_SWITCH then St.OK else St.TAKEOVER_ABORTED) (fun _ => 0) s
  { s with
    running := s.running.map Cmd.taken',
    hold := { s.hold with cancels := s.hold.cancels.map fun x => (x.1, x.2.1, x.2.2.taken') } }

/-- The mirrored queues are taken over: nothing is fetched before every doorbell has been rung, and the staging and scratch of this
chip hold nothing. -/
def State.takeQueues (s : State) : State :=
  let posts := s.pair.mirrored
  let s := { s with
    queues := s.queues.map fun q => { q with doorbell := false },
    pairWork := { s.pairWork with waitBells := true, relayed := [], switching := false },
    pair := { s.pair with mirrored := [] },
    dma := { s.dma with scratch := [], written := [] }, feed := { s.feed with ring := [], ringHead := 0 } }
  repostAll posts s

/-- The chip becomes LEAD, from "Sets ROLE to LEAD" onward. `fence` asserts the Deadbolt. -/
def State.takeOver (s : State) (fence : Bool) : State :=
  let s := s.endService St.TAKEOVER_ABORTED
  let s := setPair s fun p => { p with
    role := .lead, leadOut := !p.dboltIn, dboltOut := fence && !p.dboltIn, fenceFrom := none, unacked := [],
    takeovers := satAdd 0xFF p.takeovers 1, syncing := false, lanes := if fence then 0 else p.lanes, peerRole := 0 }
  let s := s.unsync Unsync.TAKEOVER
  let own := num s.boot.strap
  let s := s.raise Ev.TAKEOVER 0xFF 0xFF [BitVec.ofNat 8 (1 - own), BitVec.ofNat 8 own]
  s.takeQueues.takeCommands.takeOutputs.takeSheets.flush

/-! Giving up the role. -/

/-- A command that the other chip completes from now on. -/
def Cmd.yielded (c : Cmd) : Cmd := { c with ours := false }

/-- The commands that the chip has accepted are the new LEAD's to complete; service access ends (04 R98). -/
def State.yieldWork (s : State) : State :=
  let s := s.yieldService.dropGates
  { s with
    running := s.running.map Cmd.yielded,
    arrived := s.arrived.filter fun x => x.2.master ≠ 0, tags := s.tags.filter fun t => t.1 ≠ 0,
    loops := s.loops.map Loop.fence,
    hold := { Holding.reset with
      audits := s.hold.audits, auditsDropped := s.hold.auditsDropped,
      cancels := s.hold.cancels.map fun x => (x.1, x.2.1, x.2.2.yielded) },
    pairWork := { s.pairWork with switching := false, awaiting := [] } }

/-- A planned exchange: outputs off as on a fenced chip, no halt latched, ROLE SHADOW (20 R424). -/
def State.yieldLead (s : State) : State :=
  (setPair s.yieldWork fun p => { p with
    synced := false, reason := Unsync.TAKEOVER, unsyncs := satAdd 0xFF p.unsyncs 1,
    takeovers := satAdd 0xFF p.takeovers 1, mirrored := [] }).becomeShadow

/-- The Deadbolt fences the chip: outputs off, nothing posted, TAKEOVER_FENCE and its safe-stop, then ROLE SHADOW
(20 R414, R416). -/
def State.fence (s : State) : State :=
  let s := setPair s fun p => { p with
    dboltIn := true, dboltOut := false, leadOut := false, synced := false, syncing := false, fenceFrom := none, unacked := [] }
  let s := s.holdBrk.halt Halt.TAKEOVER_FENCE
  if s.pair.paired then
    let w := s.yieldWork
    { w with running := [], arrived := [], tags := [], hold := { w.hold with cancels := [] } }.becomeShadow
  else s

end Sys2Proof.Machine
end

