-- ==== Sys2Proof/Machine/Pair.lean ====
section
/-! DEFINITION. The pair (20 R403-R427): heartbeats and the election, the messages of the mirror link, acknowledgements and SYNCED,
resynchronisation, the Deadbolt, and the commands of the pair. -/

namespace Sys2Proof.Machine

/-! The commands. -/

def execPairStatus (p : Packet) (s : State) : Result :=
  let k := par p 0 1
  command Op.PAIR_STATUS .observer p (fun _ => [noTarget p, params p [(0, 1)], badParam (2 < k)])
    (fun c s => complete c St.OK (if k = 0 then s.pairStat else if k = 1 then s.convLo else s.pair.slots) s) s

def execPairSync (p : Packet) (s : State) : Result :=
  command Op.PAIR_SYNC .owner p (fun s =>
    [(!s.shadowThere, St.PEER_ABSENT), (s.pair.syncing, St.TARGET_BUSY), noTarget p, params p []])
    (fun c s => if s.pair.synced then complete c St.OK 0 s else (s.start c).beginSync) s

def execPairSwitch (p : Packet) (s : State) : Result :=
  command Op.PAIR_SWITCH .owner p (fun s =>
    [(!s.pair.synced, St.NOT_SYNCED), inModes s fun m => m = .standby || m = .ready || m = .service, noTarget p, params p []])
    (fun c s => { s.start c with pairWork := { (s.start c).pairWork with switching := true } }) s

/-! SYNCED (20 R412, R413). -/

/-- The LEAD enters SYNCED. -/
def State.leadSynced (s : State) : State :=
  let took := (s.now - s.pair.syncStart) / 100000
  let s := setPair s fun p => { p with synced := true, syncing := false, dboltOut := false }
  finishWhere (fun c => c.op = Op.PAIR_SYNC) (fun _ => St.OK) (fun _ => took) (s.raise Ev.PAIR_SYNCED 0xFF 0xFF [])

/-- A mode by its code. -/
def modeOf (m : Nat) : Mode :=
  match m with
  | 0 => .dormant | 2 => .warming | 3 => .ready | 4 => .printing | 5 => .service | _ => .standby

/-- The SHADOW enters SYNCED: the LEAD's mode replaces its own; the halt mask has come with the snapshot. -/
def State.shadowSynced (s : State) : State :=
  let m := modeOf ((s.pair.lastBeat.map Beat.mode).getD 1)
  let s := setPair s fun p => { p with synced := true }
  let s := { s with modes := { s.modes with
    mode := m, stopping := .none, draining := false } }
  if m = .standby ∨ m = .dormant then s else pllsOn allStations s

/-- What the SHADOW itself sees of the criteria of R412: both lanes, its drives in RUN, its slots, its stations that track, the axes. -/
def State.converged (s : State) : Bool :=
  s.pair.lanes = 2 && s.pair.axes && ((List.range 12).all fun i => !(s.drive i).running || bit s.pair.drives i) &&
    ((List.range 24).all fun i => (s.loop i).state ≠ .fenced || bit s.pair.slots i) &&
    allStations.all fun i => !(s.scan i).tracking || bit s.pair.stations i

/-- The criteria of R412 hold on the SHADOW; the LEAD hears of it. -/
def execPairSynced (s : State) : Result :=
  whileUp s fun s =>
    if s.pair.synced then s
    else if s.pair.role = .shadow ∧ s.pair.peerRole = 1 ∧ s.converged = true then s.shadowSynced
    else if s.pair.role = .lead ∧ s.pair.syncing = true ∧ s.pair.peerRole = 2 then s.leadSynced
    else s

def execSyncMaxExpiry (s : State) : Result :=
  whileUp s fun s =>
    if s.pair.syncing then (s.at (s.pair.syncStart + ms (s.imm Fld.SYNC_MAX))).failSync St.NOT_SYNCED else s

/-- A LEAD loses its SHADOW: its decisions are held, SYNCED ends, an exchange that waited is off (20 R410). -/
def State.loseShadow (s : State) (reason : Nat) : State :=
  let s := s.holdDecisions.unsync reason
  finishWhere (fun c => c.op = Op.PAIR_SWITCH) (fun _ => St.NOT_SYNCED) (fun _ => 0)
    { s with pairWork := { s.pairWork with switching := false } }

/-- SYNCED ends on one chip because the other says so, or by a divergence whose reason the manual leaves open: 3 to 6. -/
def State.diverge (s : State) : State :=
  let (v, s) := s.drawNat
  s.unsync (3 + v % 4)

/-! Heartbeats (20 R403, R407, R408, R412, R413). -/

/-- A LEAD with AUTO_SYNC starts a synchronisation when a SHADOW answers on a link that was down. -/
def State.autoSync (s : State) (before : Nat) : State :=
  if s.pair.role = .lead ∧ before ≠ 2 ∧ s.pair.peerRole = 2 ∧ s.pair.synced = false ∧ s.pair.syncing = false ∧
      s.on Fld.AUTO_SYNC = true then s.beginSync
  else s

/-- What a heartbeat says of SYNCED: the LEAD follows its SHADOW, and the SHADOW hears when the LEAD has ended it. -/
def State.followSynced (s : State) (b : Beat) (before : Bool) : State :=
  if s.pair.role = .lead ∧ s.pair.syncing = true ∧ b.role = 2 ∧ b.synced = true then s.leadSynced
  else if s.pair.synced ∧ before = true ∧ b.synced = false then
    if s.pair.role = .lead then s.diverge else s.unsync Unsync.ACK_TIMEOUT
  else s

/-- The time base and, before SYNCED, the reported mode of a SHADOW are the LEAD's. -/
def State.steer (s : State) (b : Beat) : State :=
  if s.pair.role = .shadow ∧ b.role = 1 then
    let s := s.at b.time
    if s.pair.synced ∨ b.mode = 0 then s else { s with modes := { s.modes with mode := modeOf b.mode } }
  else s

def State.beat (s : State) (b : Beat) : State :=
  let peer := s.pair.peerRole
  let was := (s.pair.lastBeat.map Beat.synced).getD false
  let s := setPair s fun p => { p with
    lastBeat := some b, beats := p.beats + 1, peerRole := b.role % 4, lanes := 2,
    dboltOut := p.dboltOut && !(p.role = .lead && p.takeovers = 0 && b.role = 2) }
  let s := if b.quiet then s.quieten else s
  let s := if s.pair.role = .unpaired ∧ b.role = 1 ∧ s.boot.phase = 5 then s.becomeShadow else s
  let s := (s.steer b).followSynced b was
  let s := if s.pair.role = .shadow ∧ b.role = 2 ∧ (s.running.any fun c => c.op = Op.PAIR_SWITCH && !c.ours) = true then s.takeOver false
    else s.autoSync peer
  { s with pairWork := { s.pairWork with atBeat := s.pair.synced }, pair := { s.pair with beatAt := s.now } }

/-- The mirror link works: a paired chip whose PAIRLINK is not in reset. -/
def State.linked (s : State) : Bool := s.pair.paired && !s.inReset Fn.PAIRLINK

def execHeartbeat (b : Beat) (tick : Nat) (s : State) : Result :=
  whileUp s fun s => if s.linked then (s.at tick).beat b else s

def execHeartbeatSend (tick : Nat) (s : State) : Result :=
  whileUp s fun s =>
    if s.linked then
      let s := s.at tick
      s.mirror (.heartbeat (s.ownBeat false))
    else s

/-- HB_MISS heartbeats in a row have failed to arrive (20 R408). -/
def State.beatsMissed (s : State) : Bool := s.pair.beatAt + us (10 * s.imm Fld.HB_MISS) ≤ s.now

/-- The peer is lost, by missed heartbeats or with the block lock of both lanes: a SYNCED SHADOW takes over, a LEAD holds its decisions (20 R408, R410, R419). While a PAIRLINK reset suppresses
heartbeat loss, nothing is declared. -/
def execPeerLost (lockLost : Bool) (tick : Nat) (s : State) : Result :=
  whileUp s fun s =>
    let s := s.at tick
    let quiet := match s.pairWork.quiet with | some t => s.now < t | none => false
    if !s.pair.paired || quiet || s.pair.peerRole = 0 || !(lockLost || s.beatsMissed) then s
    else
      let s := setPair s fun p => { p with lanes := 0, peerRole := 0, beats := 0 }
      if s.pair.role = .shadow then (if s.pairWork.atBeat then s.takeOver true else s)
      else if s.pair.synced then s.loseShadow Unsync.LINK_DOWN
      else s

/-! Messages on the SHADOW (20 R405, R406, R408). -/

/-- A message has been applied, and is acknowledged. -/
def State.applied (s : State) : State :=
  let n := s.pair.msgApplied + 1
  (setPair s fun p => { p with msgApplied := n }).mirror (.ack n)

/-- A step of a SHADOW that follows a message of the LEAD's. -/
def onShadow (s : State) (f : State → State) : Result :=
  whileUp s fun s => if s.pair.role = .shadow ∧ s.linked = true then (f s).applied else s

/-- The state that a meaning answers. -/
def stateOf (r : Result) (s : State) : State :=
  match r with
  | .next t => t
  | _ => s

/-- Opcodes of class OBSERVER (03 R72). -/
def observerOps : List Nat :=
  [Op.NOP, Op.GET_INFO, Op.GET_MODE, Op.CLAIM_KEY, Op.GET_KEY, Op.CFG_READ, Op.SHEET_QUERY, Op.DMA_STATUS, Op.MOTION_STATUS,
    Op.LOOP_STATUS, Op.SUPPLY_STATUS, Op.CAL_STATUS, Op.MEM_STATUS, Op.PAIR_STATUS, Op.FUSE_READ, Op.AUDIT_READ,
    Op.COUNTERS_READ]

/-- A verdict of the access check: the lease is not renewed (04 R88, R94). -/
def accessVerdict (v : Nat) : Bool := v = St.NOT_OWNER || v = St.STALE_KEY || v = St.NEED_SERVICE

/-- HEAD of a SUBMISSION queue follows the packets that the arbiter has taken (20 R422). -/
def State.mirrorHead (s : State) (p : Packet) : State :=
  if p.master = 0 then s.setQueue p.sq fun Q => { Q with head := (p.index + 1) % s.queueSize p.sq } else s

/-- An accepted packet: carried out in step, or tracked until its completion is mirrored. -/
def State.mirrorStep (s : State) (op : Nat) (p : Packet) : State :=
  match inStep op with
  | some f =>
    let t := stateOf (f p { s with pairWork := { s.pairWork with mirroring := true } }) s
    { t with pairWork := { t.pairWork with mirroring := false } }
  | none =>
    if observerOps.contains op then (s.at p.tick).arbStep op p 0
    else ((s.at p.tick).renew.arbStep op p 0).start ⟨op, p, s.arbSeq, [], false, false⟩

def execArbMsg (seq opcode : Nat) (p : Packet) (verdict : Nat) (s : State) : Result :=
  onShadow s fun s =>
    let s := { s.mirrorHead p with arbSeq := seq % 2 ^ 32 }
    if verdict = 0 then s.mirrorStep opcode p
    else
      let s := s.at p.tick
      (if observerOps.contains opcode || accessVerdict verdict then s else s.renew).arbStep opcode p verdict

/-- A register as the LEAD wrote it. -/
def State.mirrorWrite (s : State) (a w : Nat) : State :=
  { (s.portWrite a (2 ^ 32 - 1) w).1 with refused := s.refused }

/-- TRIM_WRITE's cells into the trim master. -/
def State.mirrorTrim (s : State) (n e slot : Nat) (cells : List Byte) : State :=
  { s with mem := { s.mem with
    master := Store.putAll zeroByte s.mem.master (((List.range cells.length).map (masterBase n e + slot + ·)).zip cells),
    resident := s.mem.resident.set (34 * n + e) true, changed := s.mem.changed.set (34 * n + e) true } }

def execConfigMsg (c : ConfigChange) (s : State) : Result :=
  onShadow s fun s =>
    match c with
    | .register a w => s.mirrorWrite a w.toNat
    | .applied g n => match s.firstApply g n with | some a => s.landApply a | none => s
    | .trim n e slot cells => s.mirrorTrim n e slot cells
    | .plan n slot image => (s.loadPlan n slot image image.length).1

/-- The SHADOW enters the LEAD's mode. -/
def State.followMode (s : State) (m : Mode) : State :=
  if s.mode = m then s
  else match m with
    | .dormant => s.goDormant
    | .standby => (hvOffAll (List.range 24) s.allBridgesOff).enterStandby
    | .warming => s.warm
    | .ready => s.enterReady
    | m => s.enter m

/-- A slot's state as the LEAD's journal has it; sensor edges the SHADOW has applied itself. -/
def State.followSlot (s : State) (slot code : Nat) : State :=
  match s.sheet? slot with
  | none => s
  | some sh =>
    if sh.state.code = code then s
    else match code with
      | 2 => s.pick slot
      | 3 => s.moveSheet slot .registered
      | 4 => s.passHinge slot
      | 5 => s.moveSheet slot .finishing
      | 6 => s.closeSheet slot (s.modes.stopping ≠ .none)
      | _ => s

/-- A plan slot becomes the active plan: copied, or exchanged with slot 1 (11 R233, R236). -/
def State.followPlan (s : State) (n source : Nat) : State :=
  if source = 1 then s.setPlans n Plans.swap
  else s.setPlans n fun P => { P.put 0 (P.slots.getD source .reset) with source := source }

def State.followJournal (s : State) : JournalChange → State
  | .state slot code => s.followSlot slot code
  | .stamp slot cause => s.stamp slot cause s.now
  | .gap slot t => s.setSheet slot fun sh => { sh with gap := us t }
  | .retries slot n => s.setSheet slot fun sh => { sh with retries := n }
  | .mode m => s.followMode (modeOf m)
  | .free slot => { s with sheets := { s.sheets with slots := s.sheets.slots.set slot none } }
  | .failover n source => s.followPlan n source
  | .slow n e newN => s.beginSlow n e newN
  | .gate slot 1 => { s with sheets := { s.sheets with hingeReady := some slot } }
  | .gate _ _ => s
  | .eventSeq n => { s with eventSeq := n }

/-- A journal change. `edge` gives the LEAD's and this chip's stamp of the sensor edge it came of; more than 1 µs apart, or none of
this chip's, ends SYNCED (20 R406). -/
def execJournalMsg (c : JournalChange) (edge : Option (Nat × Option Nat)) (s : State) : Result :=
  onShadow s fun s =>
    let s := s.followJournal c
    match edge with
    | some (lead, some own) => if us 1 < apart lead own then s.unsync Unsync.JOURNAL else s
    | some (_, none) => s.unsync Unsync.JOURNAL
    | none => s

/-- The command that a mirrored completion ends: it is off the list, and an apply or switch of it that failed is off too. -/
def State.mirrorEnd (s : State) (k : Completion) (c : Cmd) : State :=
  let s := s.drop fun d => d.seq = c.seq && !d.ours
  if k.status = St.OK then s
  else
    let s := { s with tumbler := { s.tumbler with waiting := s.tumbler.waiting.filter fun a => a.cmd ≠ some c.seq } }
    if c.op = Op.PLAN_SWITCH then s.setPlans c.p.target fun P => { P with switchWait := false } else s

/-- A completion that the LEAD is to post. -/
def State.mirrorCompletion (s : State) (b : List Byte) : State :=
  let k := readCompletion 0xFF b
  match s.running.find? fun c => !c.ours && c.p.master = k.master && c.p.tag = k.tag && c.seq % 2 ^ 16 = k.arbSeq with
  | some c => (s.mirrorEnd k c).keep (.completion { k with cq := c.p.cq })
  | none =>
    let mine (x : Nat × Nat × Cmd) : Bool :=
      !x.2.2.ours && x.2.2.p.master = k.master && x.2.2.p.tag = k.tag && x.2.2.seq % 2 ^ 16 = k.arbSeq
    let cq := ((s.hold.cancels.find? mine).map fun x => x.2.2.p.cq).getD 0xFF
    { s with hold := { s.hold with cancels := s.hold.cancels.filter fun x => !mine x } }.keep (.completion { k with cq })

/-- A record that the LEAD is to post: its slot is free. -/
def State.mirrorRecord (s : State) (r : Record) : State :=
  let held : Bool := match s.sheet? r.slot with | some sh => sh.id = r.sheetId | none => false
  { s with sheets := { s.sheets with
    recordSeq := r.seq, slots := if held then s.sheets.slots.set r.slot none else s.sheets.slots } }.keep (.record r)

/-- The band that a data request asks for. -/
def Sheet.requested (sh : Sheet) (d : DataRequest) : Sheet :=
  { sh with bands := sh.bands.map fun b =>
    if b.station = d.station ∧ b.band = d.band then { b with state := .requested, ofs := d.ofs, reqSeq := d.seq, again := none } else b }

def State.mirrorRequest (s : State) (d : DataRequest) : State :=
  if d.kind = 2 then s.keep (.request d)
  else ({ s with feed := { s.feed with reqSeq := d.seq } }.setSheet d.slot fun sh => sh.requested d).keep (.request d)

/-- A POST message. `kind` is the queue type of 03 R55. -/
def execPostMsg (kind : Nat) (bytes : List Byte) (s : State) : Result :=
  onShadow s fun s =>
    if kind = Ty.COMPLETION then s.mirrorCompletion bytes
    else if kind = Ty.EVENT then
      let e := readEvent bytes
      { s with eventSeq := e.seq }.keep (.event e)
    else if kind = Ty.SHEET_RECORD then s.mirrorRecord (readRecord bytes)
    else if kind = Ty.DATA_REQUEST then s.mirrorRequest (readRequest bytes)
    else s

/-- The entry at `index` of a queue is in the host's ring: the oldest kept for that queue is done, and TAIL follows. -/
def execPostedMsg (queue index : Nat) (s : State) : Result :=
  whileUp s fun s =>
    if s.pair.role = .shadow ∧ s.linked = true then
      let done := s.pair.mirrored.find? fun e => s.queueFor e = some queue
      let s := setPair s fun p => { p with mirrored := match done with | some e => p.mirrored.erase e | none => p.mirrored }
      s.setQueue queue fun Q => { Q with tail := (index + 1) % s.queueSize queue }
    else s

/-- What a closed slot of the LEAD's latched for a sample; the slot is FENCED here (20 R404, R409). -/
def execLoopin (slot : Nat) (inputs : List Word) (r1 r2 : Word) (s : State) : Result :=
  whileUp s fun s =>
    if s.pair.role = .shadow ∧ s.linked = true then
      s.setLoop slot fun L => { L with
        loopin := some (inputs, r1, r2), state := if L.state = .opened ∧ L.closeInit = none then .fenced else L.state }
    else s

/-! Digests (20 R412). -/

/-- The runs of digests in which each slot's CRC agreed. -/
def digestRuns (slots : Nat) (runs : List Nat) : List Nat := runs.mapIdx fun i r => if bit slots i then r + 1 else 0

/-- A drive that runs, a slot that is FENCED, a station that tracks, and none of them agrees with the LEAD. -/
def State.driveDiverged (s : State) (d : DigestView) : Bool := (List.range 12).any fun i => (s.drive i).running && !bit d.drives i
def State.slotDiverged (s : State) (d : DigestView) : Bool := (List.range 24).any fun i => (s.loop i).state = .fenced && !bit d.slots i
def State.stationDiverged (s : State) (d : DigestView) : Bool := allStations.any fun i => (s.scan i).tracking && !bit d.stations i

def execDigest (d : DigestView) (s : State) : Result :=
  whileUp s fun s =>
    if s.pair.role = .shadow ∧ s.linked = true then
      let runs := digestRuns d.slots s.pair.digestRun
      let s := setPair s fun p => { p with
        drives := d.drives % 2 ^ 12, stations := d.stations % 32, axes := d.axes, digestRun := runs,
        slots := maskOf 24 fun i => 10 ≤ runs.getD i 0 }
      if s.driveDiverged d then s.unsync Unsync.DRIVE
      else if s.slotDiverged d then s.unsync Unsync.SLOT
      else if s.stationDiverged d then s.unsync Unsync.STATION
      else if !d.axes && s.pair.synced then s.diverge
      else s
    else s

def execDigestSend (s : State) : Result :=
  whileUp s fun s => if s.mirrors then s.mirror (.digest (allStations.map fun n => (s.scan n).sweeps)) else s

/-! The snapshot (20 R413). -/

/-- Words of a register record; an address in the upper half is a live word. -/
def snapWords : List Nat → List Byte → State → State
  | [], _, s => s
  | a :: as, b, s =>
    let w := BitVec.ofNat 32 (fieldAt b 0 4)
    snapWords as (b.drop 4) (if a < 0x80000 then s.setReg a w else s.setLiveReg (a - 0x80000) w)

/-- One record of a block. Buffer bytes are the trim master's or a plan slot's; journal records at offsets 0 and 1 are the key's and a claim's as
State.keyRecord and Claim.bytes lay them out; the manual gives no layout of the others, which are kept as they are. -/
def State.snapRecord (s : State) (kind a : Nat) (b : List Byte) : State :=
  match kind with
  | 1 => snapWords ((List.range (b.length / 4)).map (a + 4 * ·)) b s
  | 2 =>
    if 0x800000 ≤ a then
      { s with mem := { s.mem with
        master := Store.putAll zeroByte s.mem.master (((List.range b.length).map (a - 0x800000 + ·)).zip b) } }
    else
      match (List.range 180).find? fun e => Config.planAddr e = a with
      | some e => (s.loadPlan (e / 36) (e % 36) b b.length).1
      | none => s
  | 3 =>
    if a = 0 then s.readKeyRecord b
    else if a = 1 then s.readClaim b
    else { s with pairWork := { s.pairWork with snapshot := s.pairWork.snapshot ++ b } }
  | _ => s

def snapRecords : Nat → List Byte → State → State
  | 0, _, s => s
  | n + 1, b, s =>
    if b.length < 8 then s
    else
      let len := fieldAt b 2 2
      snapRecords n (b.drop (8 + len)) (s.snapRecord (fieldAt b 0 1) (fieldAt b 4 4) (slice b 8 len))

/-- A SHADOW whose memory is not initialised does that first. -/
def State.shadowInit (s : State) : State :=
  if s.modes.memReady then s
  else
    let l := s.requestedMiB
    { s.zeroed with
      modes := { s.zeroed.modes with memReady := true },
      feed := { s.zeroed.feed with winMiB := l.take 5, scratchMiB := l.getD 5 0 } }

def execSnapshotMsg (block : List Byte) (s : State) : Result :=
  whileUp s fun s =>
    if s.pair.role = .shadow ∧ s.linked = true then
      match decodeBlock block with
      | .ok o => (snapRecords o.length o { s.shadowInit with pairWork := { s.pairWork with blockFails := 0 } }).applied
      | _ =>
        let n := s.pairWork.blockFails + 1
        let s := setPair s fun p => { p with
          msgErrors := satAdd 0xFFFF p.msgErrors 1, reason := if n = 3 then Unsync.SNAPSHOT else p.reason }
        { s with pairWork := { s.pairWork with blockFails := if n = 3 then 0 else n } }
    else s

/-! The relay (04 R85). -/

/-- A completion that came back from the LEAD leaves through this chip's management port. -/
def State.relayBack (s : State) (raw : List Byte) : State :=
  let c := { readCompletion 0xFF raw with master := 1 }
  { s with
    pairWork := { s.pairWork with relayed := s.pairWork.relayed.filter fun p => p.tag ≠ c.tag },
    mgmt := { s.mgmt with items := s.mgmt.items ++ [.completion c] } }

def execRelayMsg (raw : List Byte) (isPacket : Bool) (args : Option (List Byte)) (tick : Nat) (s : State) : Result :=
  whileUp s fun s =>
    if !s.linked then s
    else if s.pair.role = .lead ∧ isPacket = true then (s.at tick).intake 2 0 0 raw args tick
    else if s.pair.role = .shadow ∧ isPacket = false then (s.at tick).relayBack raw
    else s

/-! Acknowledgements (20 R410). -/

/-- The longest wait of messages up to `msg`. -/
def State.lagOf (s : State) (msg : Nat) : Nat :=
  (s.pair.unacked.filter fun u => u.1 ≤ msg).foldl (fun m u => max m (s.now - u.2)) s.pair.ackLag

/-- The SHADOW has applied every message up to `msg`: what waited for them goes out. A LEAD that exchanges roles gives up its own
once nothing is left to be acknowledged. -/
def execAck (msg : Nat) (s : State) : Result :=
  whileUp s fun s =>
    if s.pair.role = .lead ∧ s.linked = true then
      let lag := min 0xFFFF (s.lagOf msg)
      let s := setPair s fun p => { p with unacked := p.unacked.filter fun u => msg < u.1, ackLag := lag, acked := true }
      let s := if s.pair.fenceFrom.isNone then s.releaseWhere fun w => w.msg ≤ msg else s
      let s := s.pickConfirmed
      if s.pairWork.switching && s.pair.unacked.isEmpty then s.yieldLead else s
    else s

def execAckTimeout (s : State) : Result :=
  whileUp s fun s =>
    match s.pair.role, s.pair.unacked with
    | .lead, u :: _ =>
      let s := s.at (u.2 + us (s.imm Fld.ACK_TIMEOUT))
      let s := setPair s fun p => { p with acked := false }
      if s.pair.synced then s.loseShadow Unsync.ACK_TIMEOUT else setPair s fun p => { p with unacked := [] }
    | _, _ => s

/-- FENCE_WAIT has passed without a Deadbolt: the LEAD proceeds alone. -/
def execFenceWaitExpiry (s : State) : Result :=
  whileUp s fun s =>
    match s.pair.fenceFrom with
    | none => s
    | some t =>
      let s := setPair (s.at (t + us (s.imm Fld.FENCE_WAIT))) fun p => { p with fenceFrom := none }
      if s.pair.dboltIn then s else (s.releaseWhere fun _ => true).pickConfirmed

/-! The Deadbolt (20 R414-R416). Its level is seen in every mode. -/

def execDeadboltAssert (tick : Nat) (s : State) : Result :=
  .next (if s.pair.dboltIn then s
    else if s.up then (s.at tick).fence
    else setPair s fun p => { p with dboltIn := true })

def execDeadboltRelease (s : State) : Result := .next (setPair s fun p => { p with dboltIn := false })

end Sys2Proof.Machine
end

