-- ==== Sys2Proof/Machine/Dispatch.lean ====
section
/-! DEFINITION. exec: one arm for each command of Instr, each one direct call of its meaning. -/

namespace Sys2Proof.Machine

def exec (i : Instr) (s : State) : Host.Outcome State Fault Refusal :=
  match i with
  | .nop p => Sys2Proof.Machine.execNop p s
  | .getInfo p => Sys2Proof.Machine.execGetInfo p s
  | .getMode p => Sys2Proof.Machine.execGetMode p s
  | .setMode p => Sys2Proof.Machine.execSetMode p s
  | .safeStop p => Sys2Proof.Machine.execSafeStop p s
  | .clearHalt p => Sys2Proof.Machine.execClearHalt p s
  | .functionReset p => Sys2Proof.Machine.execFunctionReset p s
  | .claimKey p => Sys2Proof.Machine.execClaimKey p s
  | .handKey p => Sys2Proof.Machine.execHandKey p s
  | .keyTouch p => Sys2Proof.Machine.execKeyTouch p s
  | .getKey p => Sys2Proof.Machine.execGetKey p s
  | .serviceChallenge p => Sys2Proof.Machine.execServiceChallenge p s
  | .serviceResponse p => Sys2Proof.Machine.execServiceResponse p s
  | .serviceEnd p => Sys2Proof.Machine.execServiceEnd p s
  | .cfgWrite p => Sys2Proof.Machine.execCfgWrite p s
  | .cfgRead p => Sys2Proof.Machine.execCfgRead p s
  | .apply p => Sys2Proof.Machine.execApply p s
  | .profileLoad p => Sys2Proof.Machine.execProfileLoad p s
  | .sheetSubmit p => Sys2Proof.Machine.execSheetSubmit p s
  | .sheetCancel p => Sys2Proof.Machine.execSheetCancel p s
  | .sheetClearReg p => Sys2Proof.Machine.execSheetClearReg p s
  | .sheetQuery p => Sys2Proof.Machine.execSheetQuery p s
  | .dmaStart p => Sys2Proof.Machine.execDmaStart p s
  | .dmaStop p => Sys2Proof.Machine.execDmaStop p s
  | .dmaResume p => Sys2Proof.Machine.execDmaResume p s
  | .dmaStatus p => Sys2Proof.Machine.execDmaStatus p s
  | .driveStart p => Sys2Proof.Machine.execDriveStart p s
  | .driveSpeed p => Sys2Proof.Machine.execDriveSpeed p s
  | .driveBrake p => Sys2Proof.Machine.execDriveBrake p s
  | .move p => Sys2Proof.Machine.execMove p s
  | .groupMove p => Sys2Proof.Machine.execGroupMove p s
  | .home p => Sys2Proof.Machine.execHome p s
  | .stop p => Sys2Proof.Machine.execStop p s
  | .emergencyStop p => Sys2Proof.Machine.execEmergencyStop p s
  | .motionStatus p => Sys2Proof.Machine.execMotionStatus p s
  | .loopLoad p => Sys2Proof.Machine.execLoopLoad p s
  | .loopClose p => Sys2Proof.Machine.execLoopClose p s
  | .loopOpen p => Sys2Proof.Machine.execLoopOpen p s
  | .profileRun p => Sys2Proof.Machine.execProfileRun p s
  | .loopStatus p => Sys2Proof.Machine.execLoopStatus p s
  | .hvSet p => Sys2Proof.Machine.execHvSet p s
  | .hvEnable p => Sys2Proof.Machine.execHvEnable p s
  | .fuserSet p => Sys2Proof.Machine.execFuserSet p s
  | .fuserEnable p => Sys2Proof.Machine.execFuserEnable p s
  | .supplyStatus p => Sys2Proof.Machine.execSupplyStatus p s
  | .afeCalibrate p => Sys2Proof.Machine.execAfeCalibrate p s
  | .bandSurvey p => Sys2Proof.Machine.execBandSurvey p s
  | .planLoad p => Sys2Proof.Machine.execPlanLoad p s
  | .planSwitch p => Sys2Proof.Machine.execPlanSwitch p s
  | .trimLoad p => Sys2Proof.Machine.execTrimLoad p s
  | .trimWrite p => Sys2Proof.Machine.execTrimWrite p s
  | .headCal p => Sys2Proof.Machine.execHeadCal p s
  | .calStatus p => Sys2Proof.Machine.execCalStatus p s
  | .initMemory p => Sys2Proof.Machine.execInitMemory p s
  | .memStatus p => Sys2Proof.Machine.execMemStatus p s
  | .pairStatus p => Sys2Proof.Machine.execPairStatus p s
  | .pairSync p => Sys2Proof.Machine.execPairSync p s
  | .pairSwitch p => Sys2Proof.Machine.execPairSwitch p s
  | .storeProfile p => Sys2Proof.Machine.execStoreProfile p s
  | .storeTrim p => Sys2Proof.Machine.execStoreTrim p s
  | .storePlan p => Sys2Proof.Machine.execStorePlan p s
  | .patchLoad p => Sys2Proof.Machine.execPatchLoad p s
  | .fuseWrite p => Sys2Proof.Machine.execFuseWrite p s
  | .fuseRead p => Sys2Proof.Machine.execFuseRead p s
  | .auditRead p => Sys2Proof.Machine.execAuditRead p s
  | .countersRead p => Sys2Proof.Machine.execCountersRead p s
  | .traceStart p => Sys2Proof.Machine.execTraceStart p s
  | .traceStop p => Sys2Proof.Machine.execTraceStop p s
  | .capture p => Sys2Proof.Machine.execCapture p s
  | .linkLoopback p => Sys2Proof.Machine.execLinkLoopback p s
  | .eventMask p => Sys2Proof.Machine.execEventMask p s
  | .packetFetch q raws tick => Sys2Proof.Machine.execPacketFetch q raws tick s
  | .doorbellTail q value tick => Sys2Proof.Machine.execDoorbellTail q value tick s
  | .doorbellHead q value tick => Sys2Proof.Machine.execDoorbellHead q value tick s
  | .queueEnable master q value => Sys2Proof.Machine.execQueueEnable master q value s
  | .queueDisable master q value => Sys2Proof.Machine.execQueueDisable master q value s
  | .coalTimeExpiry q => Sys2Proof.Machine.execCoalTimeExpiry q s
  | .hostAccessError a tick => Sys2Proof.Machine.execHostAccessError a tick s
  | .mgmtSubmit frame whole gapOk args tick => Sys2Proof.Machine.execMgmtSubmit frame whole gapOk args tick s
  | .mgmtFetch again whole gapOk => Sys2Proof.Machine.execMgmtFetch again whole gapOk s
  | .mgmtUnknownFrame frame => Sys2Proof.Machine.execMgmtUnknownFrame frame s
  | .registerWrite master addr size value tick => Sys2Proof.Machine.execRegisterWrite master addr size value tick s
  | .lowWordRead master addr => Sys2Proof.Machine.execLowWordRead master addr s
  | .tumblerApply master value tick => Sys2Proof.Machine.execTumblerApply master value tick s
  | .tumblerLand group inst tick => Sys2Proof.Machine.execTumblerLand group inst tick s
  | .tumblerTimeout group inst => Sys2Proof.Machine.execTumblerTimeout group inst s
  | .segSwap master station value => Sys2Proof.Machine.execSegSwap master station value s
  | .segSwapLand station => Sys2Proof.Machine.execSegSwapLand station s
  | .segPhaseWrite master station value => Sys2Proof.Machine.execSegPhaseWrite master station value s
  | .dctDataWrite master station value => Sys2Proof.Machine.execDctDataWrite master station value s
  | .coefDataWrite master slot value => Sys2Proof.Machine.execCoefDataWrite master slot value s
  | .afeChDataWrite master value => Sys2Proof.Machine.execAfeChDataWrite master value s
  | .emitMark master station value => Sys2Proof.Machine.execEmitMark master station value s
  | .emitFailClear master station high value => Sys2Proof.Machine.execEmitFailClear master station high value s
  | .magWrite master station value => Sys2Proof.Machine.execMagWrite master station value s
  | .masterStnWrite master value => Sys2Proof.Machine.execMasterStnWrite master value s
  | .keyCfgWrite master value => Sys2Proof.Machine.execKeyCfgWrite master value s
  | .busCfgWrite master value => Sys2Proof.Machine.execBusCfgWrite master value s
  | .pairCfgWrite master value => Sys2Proof.Machine.execPairCfgWrite master value s
  | .chopperClear master value pulseI => Sys2Proof.Machine.execChopperClear master value pulseI s
  | .stnPowerDown master value tick => Sys2Proof.Machine.execStnPowerDown master value tick s
  | .stnPowerUp master value tick => Sys2Proof.Machine.execStnPowerUp master value tick s
  | .stnDomainOff station => Sys2Proof.Machine.execStnDomainOff station s
  | .powerWaitExpiry station => Sys2Proof.Machine.execPowerWaitExpiry station s
  | .capArm master drive value => Sys2Proof.Machine.execCapArm master drive value s
  | .stnStatClr master station value => Sys2Proof.Machine.execStnStatClr master station value s
  | .drvStatClr master drive value => Sys2Proof.Machine.execDrvStatClr master drive value s
  | .afeStatClr master value => Sys2Proof.Machine.execAfeStatClr master value s
  | .hostqReset tick => Sys2Proof.Machine.execHostqReset tick s
  | .dmaReset tick => Sys2Proof.Machine.execDmaReset tick s
  | .decompReset tick => Sys2Proof.Machine.execDecompReset tick s
  | .stationReset station tick => Sys2Proof.Machine.execStationReset station tick s
  | .motionReset force tick => Sys2Proof.Machine.execMotionReset force tick s
  | .loopsReset tick => Sys2Proof.Machine.execLoopsReset tick s
  | .hvReset force tick => Sys2Proof.Machine.execHvReset force tick s
  | .fuserReset tick => Sys2Proof.Machine.execFuserReset tick s
  | .afeReset tick => Sys2Proof.Machine.execAfeReset tick s
  | .nvstoreReset tick => Sys2Proof.Machine.execNvstoreReset tick s
  | .pairlinkReset tick => Sys2Proof.Machine.execPairlinkReset tick s
  | .functionResetDone function => Sys2Proof.Machine.execFunctionResetDone function s
  | .loopRearmExpiry => Sys2Proof.Machine.execLoopRearmExpiry s
  | .claimWindowClose => Sys2Proof.Machine.execClaimWindowClose s
  | .keyLapse => Sys2Proof.Machine.execKeyLapse s
  | .challengeExpiry => Sys2Proof.Machine.execChallengeExpiry s
  | .credentialLockoutEnd => Sys2Proof.Machine.execCredentialLockoutEnd s
  | .orderlyStop tick => Sys2Proof.Machine.execOrderlyStop tick s
  | .orderlyStopRest tick => Sys2Proof.Machine.execOrderlyStopRest tick s
  | .safeStopRest tick => Sys2Proof.Machine.execSafeStopRest tick s
  | .safeStopMaxExpiry => Sys2Proof.Machine.execSafeStopMaxExpiry s
  | .warmingStepDone step tick => Sys2Proof.Machine.execWarmingStepDone step tick s
  | .settleHoldExpiry => Sys2Proof.Machine.execSettleHoldExpiry s
  | .warmMaxExpiry => Sys2Proof.Machine.execWarmMaxExpiry s
  | .loadDone => Sys2Proof.Machine.execLoadDone s
  | .initMemoryDone => Sys2Proof.Machine.execInitMemoryDone s
  | .overlayCopyDone => Sys2Proof.Machine.execOverlayCopyDone s
  | .resetnAssert lowTicks => Sys2Proof.Machine.execResetnAssert lowTicks s
  | .resetnRelease pairRole pairPresent => Sys2Proof.Machine.execResetnRelease pairRole pairPresent s
  | .bootRun => Sys2Proof.Machine.execBootRun s
  | .electionTimeout => Sys2Proof.Machine.execElectionTimeout s
  | .wake source => Sys2Proof.Machine.execWake source s
  | .wakeDone => Sys2Proof.Machine.execWakeDone s
  | .vinRise vin => Sys2Proof.Machine.execVinRise vin s
  | .brownoutWarning vin tick => Sys2Proof.Machine.execBrownoutWarning vin tick s
  | .brownoutOff => Sys2Proof.Machine.execBrownoutOff s
  | .brownoutRecovery vin => Sys2Proof.Machine.execBrownoutRecovery vin s
  | .telemetrySample vin vbus brkI v5 temp tick => Sys2Proof.Machine.execTelemetrySample vin vbus brkI v5 temp tick s
  | .chopDetectExpiry => Sys2Proof.Machine.execChopDetectExpiry s
  | .hvdieLinkLost tick => Sys2Proof.Machine.execHvdieLinkLost tick s
  | .hvdieLinkUp tick => Sys2Proof.Machine.execHvdieLinkUp tick s
  | .interlockOpen tick => Sys2Proof.Machine.execInterlockOpen tick s
  | .interlockClosed => Sys2Proof.Machine.execInterlockClosed s
  | .overtempTrip tick => Sys2Proof.Machine.execOvertempTrip tick s
  | .overtempRelease => Sys2Proof.Machine.execOvertempRelease s
  | .pickGate slot tick => Sys2Proof.Machine.execPickGate slot tick s
  | .pickWaitMaxExpiry => Sys2Proof.Machine.execPickWaitMaxExpiry s
  | .hingeGate slot tick => Sys2Proof.Machine.execHingeGate slot tick s
  | .hinge slot tick => Sys2Proof.Machine.execHinge slot tick s
  | .regHoldMaxExpiry slot => Sys2Proof.Machine.execRegHoldMaxExpiry slot s
  | .sensorLeadEdge sensor tick => Sys2Proof.Machine.execSensorLeadEdge sensor tick s
  | .sensorTrailEdge sensor tick => Sys2Proof.Machine.execSensorTrailEdge sensor tick s
  | .jamWindowClose slot sensor => Sys2Proof.Machine.execJamWindowClose slot sensor s
  | .trailMaxExpiry slot sensor => Sys2Proof.Machine.execTrailMaxExpiry slot sensor s
  | .pathStepFire slot step => Sys2Proof.Machine.execPathStepFire slot step s
  | .bdEdge station tick raw falling width => Sys2Proof.Machine.execBdEdge station tick raw falling width s
  | .spuriousEdge station raw => Sys2Proof.Machine.execSpuriousEdge station raw s
  | .missingSweep station => Sys2Proof.Machine.execMissingSweep station s
  | .syncWindowOpen station => Sys2Proof.Machine.execSyncWindowOpen station s
  | .lineStart station badWords => Sys2Proof.Machine.execLineStart station badWords s
  | .endOfActiveScan station badWords => Sys2Proof.Machine.execEndOfActiveScan station badWords s
  | .speedChangeHold tick => Sys2Proof.Machine.execSpeedChangeHold tick s
  | .speedChangeResume tick => Sys2Proof.Machine.execSpeedChangeResume tick s
  | .dutySubwindowEnd station head cycles tick => Sys2Proof.Machine.execDutySubwindowEnd station head cycles tick s
  | .pllLock station vctl tick => Sys2Proof.Machine.execPllLock station vctl tick s
  | .pllUnlock station phases count tick => Sys2Proof.Machine.execPllUnlock station phases count tick s
  | .relockMaxExpiry station => Sys2Proof.Machine.execRelockMaxExpiry station s
  | .bandSurveyDone station bands tick => Sys2Proof.Machine.execBandSurveyDone station bands tick s
  | .hello station vendor model fw emitters caps crc tick => Sys2Proof.Machine.execHello station vendor model fw emitters caps crc tick s
  | .readyMsg station crc tick => Sys2Proof.Machine.execReadyMsg station crc tick s
  | .retrain station reason crc tick => Sys2Proof.Machine.execRetrain station reason crc tick s
  | .apcSample station sweep emitter sample crc tick => Sys2Proof.Machine.execApcSample station sweep emitter sample crc tick s
  | .emitterFault station emitter kind sweep crc tick => Sys2Proof.Machine.execEmitterFault station emitter kind sweep crc tick s
  | .segError station sweep mask reason crc tick => Sys2Proof.Machine.execSegError station sweep mask reason crc tick s
  | .statusMsg station temp flags seq crc tick => Sys2Proof.Machine.execStatusMsg station temp flags seq crc tick s
  | .headFault station cause crc tick => Sys2Proof.Machine.execHeadFault station cause crc tick s
  | .loopResult station e0 e1 e2 e3 crc tick => Sys2Proof.Machine.execLoopResult station e0 e1 e2 e3 crc tick s
  | .retTimeout station tick => Sys2Proof.Machine.execRetTimeout station tick s
  | .retAlignLost station tick => Sys2Proof.Machine.execRetAlignLost station tick s
  | .trainingT0End station => Sys2Proof.Machine.execTrainingT0End station s
  | .trainingStepTimeout station => Sys2Proof.Machine.execTrainingStepTimeout station s
  | .trainingRetry station => Sys2Proof.Machine.execTrainingRetry station s
  | .blockDispatch tick => Sys2Proof.Machine.execBlockDispatch tick s
  | .engineVerdict engine fault tick => Sys2Proof.Machine.execEngineVerdict engine fault tick s
  | .engineTimeout engine => Sys2Proof.Machine.execEngineTimeout engine s
  | .dataRequestPost tick => Sys2Proof.Machine.execDataRequestPost tick s
  | .stagingFirstLine channel line tick => Sys2Proof.Machine.execStagingFirstLine channel line tick s
  | .bandStaged channel block tick => Sys2Proof.Machine.execBandStaged channel block tick s
  | .descriptorFetch channel raw => Sys2Proof.Machine.execDescriptorFetch channel raw s
  | .descriptorDone channel data tick => Sys2Proof.Machine.execDescriptorDone channel data tick s
  | .dmaBusError channel write tick => Sys2Proof.Machine.execDmaBusError channel write tick s
  | .completionTimeout channel => Sys2Proof.Machine.execCompletionTimeout channel s
  | .dmaChannelsRestart => Sys2Proof.Machine.execDmaChannelsRestart s
  | .memCheckFail line data check reader tick => Sys2Proof.Machine.execMemCheckFail line data check reader tick s
  | .lineCorrected line tick => Sys2Proof.Machine.execLineCorrected line tick s
  | .scrubStep data check => Sys2Proof.Machine.execScrubStep data check s
  | .drivePwmPeriod drive inp tick => Sys2Proof.Machine.execDrivePwmPeriod drive inp tick s
  | .observerImplausible drive tick => Sys2Proof.Machine.execObserverImplausible drive tick s
  | .bemfZeroCross drive angle tick => Sys2Proof.Machine.execBemfZeroCross drive angle tick s
  | .zcMissing drive tick => Sys2Proof.Machine.execZcMissing drive tick s
  | .encTrustRestore drive => Sys2Proof.Machine.execEncTrustRestore drive s
  | .phaseOpen drive tick => Sys2Proof.Machine.execPhaseOpen drive tick s
  | .listenEnd drive speed emf tick => Sys2Proof.Machine.execListenEnd drive speed emf tick s
  | .alignDone drive => Sys2Proof.Machine.execAlignDone drive s
  | .handoverTimeout drive tick => Sys2Proof.Machine.execHandoverTimeout drive tick s
  | .startRetry drive => Sys2Proof.Machine.execStartRetry drive s
  | .pendingStart drive speed emf => Sys2Proof.Machine.execPendingStart drive speed emf s
  | .driveMoveDone drive => Sys2Proof.Machine.execDriveMoveDone drive s
  | .brakeDone drive => Sys2Proof.Machine.execBrakeDone drive s
  | .axisPwmPeriod axis ia ib tick => Sys2Proof.Machine.execAxisPwmPeriod axis ia ib tick s
  | .axisCurrentUpdate axis tick => Sys2Proof.Machine.execAxisCurrentUpdate axis tick s
  | .axisMoveEnd axis => Sys2Proof.Machine.execAxisMoveEnd axis s
  | .groupMoveStart group tick => Sys2Proof.Machine.execGroupMoveStart group tick s
  | .stall axis => Sys2Proof.Machine.execStall axis s
  | .encReversal encoder tick => Sys2Proof.Machine.execEncReversal encoder tick s
  | .loopSample slot tick => Sys2Proof.Machine.execLoopSample slot tick s
  | .hvPwmPeriod channel tick => Sys2Proof.Machine.execHvPwmPeriod channel tick s
  | .hvSettled channel => Sys2Proof.Machine.execHvSettled channel s
  | .hvSettleTimeout channel => Sys2Proof.Machine.execHvSettleTimeout channel s
  | .arcOffExpiry channel => Sys2Proof.Machine.execArcOffExpiry channel s
  | .zeroCrossing tick => Sys2Proof.Machine.execZeroCrossing tick s
  | .zcLost => Sys2Proof.Machine.execZcLost s
  | .fuserRiseCheck zone => Sys2Proof.Machine.execFuserRiseCheck zone s
  | .afeFrameEnd bank raws drifts tj tick => Sys2Proof.Machine.execAfeFrameEnd bank raws drifts tj tick s
  | .sliceCalDone bank c0 cBG check tick => Sys2Proof.Machine.execSliceCalDone bank c0 cBG check tick s
  | .calPeriodExpiry bank => Sys2Proof.Machine.execCalPeriodExpiry bank s
  | .autozero channel mean => Sys2Proof.Machine.execAutozero channel mean s
  | .headCalDone station => Sys2Proof.Machine.execHeadCalDone station s
  | .captureDone station => Sys2Proof.Machine.execCaptureDone station s
  | .storeDone outcome raws peer => Sys2Proof.Machine.execStoreDone outcome raws peer s
  | .auditFlush => Sys2Proof.Machine.execAuditFlush s
  | .heartbeat b tick => Sys2Proof.Machine.execHeartbeat b tick s
  | .heartbeatSend tick => Sys2Proof.Machine.execHeartbeatSend tick s
  | .peerLost lockLost tick => Sys2Proof.Machine.execPeerLost lockLost tick s
  | .arbMsg seq opcode p verdict => Sys2Proof.Machine.execArbMsg seq opcode p verdict s
  | .configMsg c => Sys2Proof.Machine.execConfigMsg c s
  | .journalMsg c edge => Sys2Proof.Machine.execJournalMsg c edge s
  | .postMsg kind bytes => Sys2Proof.Machine.execPostMsg kind bytes s
  | .postedMsg queue index => Sys2Proof.Machine.execPostedMsg queue index s
  | .loopin slot inputs r1 r2 => Sys2Proof.Machine.execLoopin slot inputs r1 r2 s
  | .digest d => Sys2Proof.Machine.execDigest d s
  | .snapshotMsg block => Sys2Proof.Machine.execSnapshotMsg block s
  | .relayMsg raw isPacket args tick => Sys2Proof.Machine.execRelayMsg raw isPacket args tick s
  | .ack msg => Sys2Proof.Machine.execAck msg s
  | .ackTimeout => Sys2Proof.Machine.execAckTimeout s
  | .fenceWaitExpiry => Sys2Proof.Machine.execFenceWaitExpiry s
  | .pairSynced => Sys2Proof.Machine.execPairSynced s
  | .syncMaxExpiry => Sys2Proof.Machine.execSyncMaxExpiry s
  | .deadboltAssert tick => Sys2Proof.Machine.execDeadboltAssert tick s
  | .deadboltRelease => Sys2Proof.Machine.execDeadboltRelease s
  | .quadratureEdge encoder a b tick => Sys2Proof.Machine.execQuadratureEdge encoder a b tick s
  | .encIndexEdge encoder tick => Sys2Proof.Machine.execEncIndexEdge encoder tick s
  | .halfCycleTimer => Sys2Proof.Machine.execHalfCycleTimer s
  | .loopbackDurationEnd station => Sys2Proof.Machine.execLoopbackDurationEnd station s
  | .loopResultTimeout station => Sys2Proof.Machine.execLoopResultTimeout station s
  | .stnDomainOn station => Sys2Proof.Machine.execStnDomainOn station s
  | .digestSend => Sys2Proof.Machine.execDigestSend s
  | .predictedSweep station tick => Sys2Proof.Machine.execPredictedSweep station tick s
  | .tckEdge tms tdi => Sys2Proof.Machine.execTckEdge tms tdi s

end Sys2Proof.Machine
end

