-- ==== Sys2Proof/Terms.lean ====
section
/-! DEFINITION. Terms that the statements use: when the arbiter takes a packet and its access check passes, the state in which
its other checks are made, the state in which its meaning runs, and which packets a command stands for. -/

namespace Sys2Proof.Machine

/-- The arbiter judges the packet now: the device runs (05 R112, R113), the packet is no mirrored one (20 R405), FENCE does not
hold it back (03 R67), it has its turn (04 R86), and no planned exchange has stopped the arbiter (20 R424). -/
abbrev State.judges (s : State) (op : Nat) (p : Packet) : Prop :=
  s.up = true ∧ s.pairWork.mirroring = false ∧ 5 ≤ s.boot.phase ∧ s.fenced op p = false ∧ s.offered op p = true ∧
    s.pairWork.switching = false

/-- No grant and no lapse of the key is due before the packet's arbiter cycle (04 R87, R92, R94). -/
abbrev State.keyQuiet (s : State) (p : Packet) : Prop :=
  (s.key.windowOpen = true → s.cycleOf p ≤ s.key.windowEnds) ∧
    (s.key.holder ≠ 3 → s.key.lapsed = false → s.cycleOf p < s.key.renewed + s.lease)

/-- The packet is judged with no change of the key due before it, its chip may take it (04 R85), and it passes the access check
(04 R88). -/
abbrev State.admits (s : State) (op : Nat) (cls : Class) (p : Packet) : Prop :=
  s.judges op p ∧ s.keyQuiet p ∧ (s.pair.role = .shadow → cls = .observer) ∧ s.access cls p = none

/-- The state in which a packet is judged, at the tick of its cycle, where no change of the key is due before it. -/
def State.taken (s : State) (op : Nat) (p : Packet) : State := (s.at (s.cycleOf p)).take op p

/-- The state in which the checks of 03 R66 steps 7 and 8 are made: an OWNER or SERVICE command has renewed the lease
(04 R94). -/
def State.seen (s : State) (op : Nat) (cls : Class) (p : Packet) : State :=
  if cls = .observer then s.taken op p else (s.taken op p).renew

/-- The state in which the meaning of an accepted packet runs. -/
def State.accept (s : State) (op : Nat) (cls : Class) (p : Packet) : State := (s.seen op cls p).arbStep op p 0

/-- The command as it is accepted. -/
def State.asCmd (s : State) (op : Nat) (p : Packet) : Cmd := ⟨op, p, s.arbSeq, [], true, false⟩

/-- A register takes a word written whole: none of the reasons of 24 R479 and of the restricted fields discards it. -/
def State.acceptsWord (s : State) (a : Nat) (w : Word) : Bool :=
  match posOf a with
  | some q => !s.discards q (2 ^ 32 - 1) w.toNat
  | none => false

/-- A queue with what posting writes masked: TAIL, the status bits, and the signalling that waits (03 R60-R62). -/
def Queue.unposted (Q : Queue) : Queue := { Q with tail := 0, stat := 0, irqCount := 0, oldest := none }

/-- The state with everything masked that posting an entry may write: the device's side of the rings, what is held for them, the
entries that wait on the management port and on the mirror link, what left the chip, SEQ of events and the tags in use. -/
def State.unposted (s : State) : State :=
  { s with
    queues := s.queues.map Queue.unposted, hold := .reset, mgmt := { s.mgmt with items := [] }, outbox := [], eventSeq := 0,
    tags := [], pair := { s.pair with msgSent := 0, unacked := [], mirrored := [] },
    pairWork := { s.pairWork with awaiting := [] } }

/-- The state with everything masked that taking a packet, its completion and the renewal of the lease may write: what posting
writes, the time, the arbiter's number and the turns of its cycles, the packets and commands that wait, the trace records, and the
holder's lease with the claims that wait on it. -/
def State.unjudged (s : State) : State :=
  { s.unposted with
    now := 0, arrived := [], arbSeq := 0, arb := ⟨0, [], 0, 0⟩, running := [], trace := { s.trace with records := [] },
    key := { s.key with renewed := 0, lapsed := false, windowOpen := false, claims := [] },
    pairWork := { s.unposted.pairWork with relayed := [] } }

/-- A head's message is heard: its station is powered and its link not DOWN (13 R276). -/
abbrev State.hears (s : State) (n : Nat) : Prop := (s.station n).powered = true ∧ (s.link n).state ≠ .down

/-- A message of station `n` with a good CRC has come at a tick: the time of the last one. -/
def State.heard (s : State) (n tick : Nat) : State := (s.at tick).setLink n fun l => { l with lastMsg := (s.at tick).now }

/-- A message with a bad CRC has come: it is counted in RET_ERRORS. -/
def State.misheard (s : State) (n tick : Nat) : State :=
  (s.at tick).setLink n fun l => { l with retErrors := satAdd 0xFFFF l.retErrors 1 }

/-- The CRC-16 of a head's message. -/
abbrev headCrc (type : Nat) (payload : List Byte) : Nat := (crc16 (headMessage type payload)).toNat

/-- The rows that act in reset, with the supply off and in DORMANT (05 R102, R112, R115; 17 R369; 20 R414; 23 R471). -/
def actsAlways : Instr → Bool
  | .resetnAssert _ | .resetnRelease _ _ | .wake _ | .wakeDone | .vinRise _ | .brownoutOff | .interlockOpen _ | .interlockClosed
  | .overtempTrip _ | .overtempRelease | .tckEdge _ _ | .deadboltAssert _ | .deadboltRelease => true
  | .telemetrySample _ _ _ _ _ _ => true
  | _ => false

/-- Opcode, access class (03 R72) and packet of a command packet; SET_MODE into SERVICE is of class SERVICE (05 R102). -/
def packetOf : Instr → Option (Nat × Class × Packet)
  | .nop p => some (Op.NOP, .observer, p)
  | .getInfo p => some (Op.GET_INFO, .observer, p)
  | .getMode p => some (Op.GET_MODE, .observer, p)
  | .setMode p => some (Op.SET_MODE, (if par p 0 1 = 5 then .service else .owner), p)
  | .safeStop p => some (Op.SAFE_STOP, .owner, p)
  | .clearHalt p => some (Op.CLEAR_HALT, .owner, p)
  | .functionReset p => some (Op.FUNCTION_RESET, .owner, p)
  | .claimKey p => some (Op.CLAIM_KEY, .observer, p)
  | .handKey p => some (Op.HAND_KEY, .owner, p)
  | .keyTouch p => some (Op.KEY_TOUCH, .owner, p)
  | .getKey p => some (Op.GET_KEY, .observer, p)
  | .serviceChallenge p => some (Op.SERVICE_CHALLENGE, .owner, p)
  | .serviceResponse p => some (Op.SERVICE_RESPONSE, .owner, p)
  | .serviceEnd p => some (Op.SERVICE_END, .service, p)
  | .cfgWrite p => some (Op.CFG_WRITE, .owner, p)
  | .cfgRead p => some (Op.CFG_READ, .observer, p)
  | .apply p => some (Op.APPLY, .owner, p)
  | .profileLoad p => some (Op.PROFILE_LOAD, .owner, p)
  | .sheetSubmit p => some (Op.SHEET_SUBMIT, .owner, p)
  | .sheetCancel p => some (Op.SHEET_CANCEL, .owner, p)
  | .sheetClearReg p => some (Op.SHEET_CLEAR_REG, .owner, p)
  | .sheetQuery p => some (Op.SHEET_QUERY, .observer, p)
  | .dmaStart p => some (Op.DMA_START, .owner, p)
  | .dmaStop p => some (Op.DMA_STOP, .owner, p)
  | .dmaResume p => some (Op.DMA_RESUME, .owner, p)
  | .dmaStatus p => some (Op.DMA_STATUS, .observer, p)
  | .driveStart p => some (Op.DRIVE_START, .owner, p)
  | .driveSpeed p => some (Op.DRIVE_SPEED, .owner, p)
  | .driveBrake p => some (Op.DRIVE_BRAKE, .owner, p)
  | .move p => some (Op.MOVE, .owner, p)
  | .groupMove p => some (Op.GROUP_MOVE, .owner, p)
  | .home p => some (Op.HOME, .owner, p)
  | .stop p => some (Op.STOP, .owner, p)
  | .emergencyStop p => some (Op.EMERGENCY_STOP, .owner, p)
  | .motionStatus p => some (Op.MOTION_STATUS, .observer, p)
  | .loopLoad p => some (Op.LOOP_LOAD, .owner, p)
  | .loopClose p => some (Op.LOOP_CLOSE, .owner, p)
  | .loopOpen p => some (Op.LOOP_OPEN, .owner, p)
  | .profileRun p => some (Op.PROFILE_RUN, .owner, p)
  | .loopStatus p => some (Op.LOOP_STATUS, .observer, p)
  | .hvSet p => some (Op.HV_SET, .owner, p)
  | .hvEnable p => some (Op.HV_ENABLE, .owner, p)
  | .fuserSet p => some (Op.FUSER_SET, .owner, p)
  | .fuserEnable p => some (Op.FUSER_ENABLE, .owner, p)
  | .supplyStatus p => some (Op.SUPPLY_STATUS, .observer, p)
  | .afeCalibrate p => some (Op.AFE_CALIBRATE, .owner, p)
  | .bandSurvey p => some (Op.BAND_SURVEY, .service, p)
  | .planLoad p => some (Op.PLAN_LOAD, .owner, p)
  | .planSwitch p => some (Op.PLAN_SWITCH, .owner, p)
  | .trimLoad p => some (Op.TRIM_LOAD, .owner, p)
  | .trimWrite p => some (Op.TRIM_WRITE, .service, p)
  | .headCal p => some (Op.HEAD_CAL, .service, p)
  | .calStatus p => some (Op.CAL_STATUS, .observer, p)
  | .initMemory p => some (Op.INIT_MEMORY, .owner, p)
  | .memStatus p => some (Op.MEM_STATUS, .observer, p)
  | .pairStatus p => some (Op.PAIR_STATUS, .observer, p)
  | .pairSync p => some (Op.PAIR_SYNC, .owner, p)
  | .pairSwitch p => some (Op.PAIR_SWITCH, .owner, p)
  | .storeProfile p => some (Op.STORE_PROFILE, .owner, p)
  | .storeTrim p => some (Op.STORE_TRIM, .service, p)
  | .storePlan p => some (Op.STORE_PLAN, .service, p)
  | .patchLoad p => some (Op.PATCH_LOAD, .owner, p)
  | .fuseWrite p => some (Op.FUSE_WRITE, .service, p)
  | .fuseRead p => some (Op.FUSE_READ, .observer, p)
  | .auditRead p => some (Op.AUDIT_READ, .observer, p)
  | .countersRead p => some (Op.COUNTERS_READ, .observer, p)
  | .traceStart p => some (Op.TRACE_START, .owner, p)
  | .traceStop p => some (Op.TRACE_STOP, .owner, p)
  | .capture p => some (Op.CAPTURE, .owner, p)
  | .linkLoopback p => some (Op.LINK_LOOPBACK, .service, p)
  | .eventMask p => some (Op.EVENT_MASK, .owner, p)
  | _ => none

end Sys2Proof.Machine
end

