-- ==== Sys2Proof/Certificates/Slice0/Obligations.lean ====
section
/-! DEFINITION. The statements for the provers. Each is listed in OBLIGATIONS.json with what it rests on. -/

open Sys2Proof Sys2Proof.Machine

/-- Accepted here means: State.admits holds (the device runs, the packet has its turn and nothing fences it, no change of the key
  is due, its chip may take it and the access check passes), and the packet is one of those named. Each of NOP, GET_INFO of a
  selector 0 to 6, GET_MODE, GET_KEY, SHEET_QUERY of a slot 0 to 23 or of the SHEET_ID of a sheet in a slot, DMA_STATUS of a
  channel 0 to 15 or of all, MOTION_STATUS of an axis, a group or a drive, LOOP_STATUS of a slot, SUPPLY_STATUS of the
  supply, the bus, a channel or a zone, CAL_STATUS of the front end, a bank or a station, MEM_STATUS, PAIR_STATUS and
  FUSE_READ of a setting 1 to 8, with every byte of PARAMS that its rule does not name 0, answers the next state in which it
  has completed OK with the RESULT its rule gives and nothing but its arbiter step and its completion has happened. -/
def Obligations.ReportsComplete : Prop :=
  (∀ (s : State) (p : Packet), s.admits Op.NOP .observer p → p.target = 0xFFFF → onlyParams p [] = true → exec (.nop p) s =
    .next (complete (s.asCmd Op.NOP p) St.OK 0 (s.accept Op.NOP .observer p))) ∧
  (∀ (s : State) (p : Packet), s.admits Op.GET_INFO .observer p → p.target = 0xFFFF → onlyParams p [(0, 1)] = true → par p 0
    1 ≤ 6 → exec (.getInfo p) s = .next (complete (s.asCmd Op.GET_INFO p) St.OK ((s.accept Op.GET_INFO .observer p).readWord
    ([Reg.SYS_ID, Reg.SYS_REV, Reg.SYS_SERIAL_LO, Reg.SYS_SERIAL_HI, Reg.SYS_ENGINE_ID, Reg.SYS_BOOT, Reg.SYS_NV_STAT].getD
    (par p 0 1) 0)).toNat (s.accept Op.GET_INFO .observer p))) ∧
  (∀ (s : State) (p : Packet), s.admits Op.GET_MODE .observer p → p.target = 0xFFFF → onlyParams p [] = true → exec (.getMode
    p) s = .next (complete (s.asCmd Op.GET_MODE p) St.OK (s.accept Op.GET_MODE .observer p).modeResult (s.accept Op.GET_MODE
    .observer p))) ∧
  (∀ (s : State) (p : Packet), s.admits Op.GET_KEY .observer p → p.target = 0xFFFF → onlyParams p [] = true → exec (.getKey
    p) s = .next (complete (s.asCmd Op.GET_KEY p) St.OK (s.accept Op.GET_KEY .observer p).keyWord (s.accept Op.GET_KEY
    .observer p))) ∧
  (∀ (s : State) (p : Packet), s.admits Op.SHEET_QUERY .observer p → p.target < 24 → onlyParams p [] = true → exec
    (.sheetQuery p) s = .next (complete (s.asCmd Op.SHEET_QUERY p) St.OK ((s.accept Op.SHEET_QUERY .observer p).sheetStat
    p.target) (s.accept Op.SHEET_QUERY .observer p))) ∧
  (∀ (s : State) (p : Packet) (i : Nat), s.admits Op.SHEET_QUERY .observer p → p.target = 0xFFFF → onlyParams p [(0, 4)] =
    true → s.slotOf (par p 0 4) = some i → exec (.sheetQuery p) s = .next (complete (s.asCmd Op.SHEET_QUERY p) St.OK
    ((s.accept Op.SHEET_QUERY .observer p).sheetStat i) (s.accept Op.SHEET_QUERY .observer p))) ∧
  (∀ (s : State) (p : Packet), s.admits Op.DMA_STATUS .observer p → (p.target < 16 ∨ p.target = 0xFFFF) → onlyParams p [] =
    true → exec (.dmaStatus p) s = .next (complete (s.asCmd Op.DMA_STATUS p) St.OK (if p.target = 0xFFFF then (s.accept
    Op.DMA_STATUS .observer p).dmaStat else (s.accept Op.DMA_STATUS .observer p).dmaState p.target) (s.accept Op.DMA_STATUS
    .observer p))) ∧
  (∀ (s : State) (p : Packet), s.admits Op.MOTION_STATUS .observer p → (par p 0 1 = 0 ∧ p.target < 24 ∨ par p 0 1 = 1 ∧
    p.target < 8 ∨ par p 0 1 = 2 ∧ p.target < 12) → onlyParams p [(0, 1)] = true → exec (.motionStatus p) s = .next (complete
    (s.asCmd Op.MOTION_STATUS p) St.OK (if par p 0 1 = 0 then (s.accept Op.MOTION_STATUS .observer p).axisStat p.target else
    if par p 0 1 = 1 then (s.accept Op.MOTION_STATUS .observer p).groupStat p.target else (s.accept Op.MOTION_STATUS
    .observer p).driveStat p.target) (s.accept Op.MOTION_STATUS .observer p))) ∧
  (∀ (s : State) (p : Packet), s.admits Op.LOOP_STATUS .observer p → p.target < 24 → onlyParams p [] = true → exec
    (.loopStatus p) s = .next (complete (s.asCmd Op.LOOP_STATUS p) St.OK ((s.accept Op.LOOP_STATUS .observer p).loopStat
    p.target) (s.accept Op.LOOP_STATUS .observer p))) ∧
  (∀ (s : State) (p : Packet), s.admits Op.SUPPLY_STATUS .observer p → (par p 0 1 < 2 ∧ p.target = 0xFFFF ∨ par p 0 1 = 2 ∧
    p.target < 24 ∨ par p 0 1 = 3 ∧ p.target < 4) → onlyParams p [(0, 1)] = true → exec (.supplyStatus p) s = .next (complete
    (s.asCmd Op.SUPPLY_STATUS p) St.OK (if par p 0 1 = 0 then (s.accept Op.SUPPLY_STATUS .observer p).supplyStat else if par
    p 0 1 = 1 then (s.accept Op.SUPPLY_STATUS .observer p).busStat else if par p 0 1 = 2 then (s.accept Op.SUPPLY_STATUS
    .observer p).hvStat p.target else (s.accept Op.SUPPLY_STATUS .observer p).zoneStat p.target) (s.accept Op.SUPPLY_STATUS
    .observer p))) ∧
  (∀ (s : State) (p : Packet), s.admits Op.CAL_STATUS .observer p → (par p 0 1 = 0 ∧ p.target = 0xFFFF ∨ par p 0 1 = 1 ∧
    p.target < 3 ∨ par p 0 1 = 2 ∧ p.target < 5) → onlyParams p [(0, 1)] = true → exec (.calStatus p) s = .next (complete
    (s.asCmd Op.CAL_STATUS p) St.OK (if par p 0 1 = 0 then (s.accept Op.CAL_STATUS .observer p).afeCalStat else if par p 0 1
    = 1 then (s.accept Op.CAL_STATUS .observer p).bankStat p.target else unsigned 32 ((s.accept Op.CAL_STATUS .observer
    p).station p.target).surveyTj) (s.accept Op.CAL_STATUS .observer p))) ∧
  (∀ (s : State) (p : Packet), s.admits Op.MEM_STATUS .observer p → (par p 0 1 < 2 ∧ p.target = 0xFFFF) → onlyParams p [(0,
    1)] = true → exec (.memStatus p) s = .next (complete (s.asCmd Op.MEM_STATUS p) St.OK (if par p 0 1 = 0 then (s.accept
    Op.MEM_STATUS .observer p).memCnt else (s.accept Op.MEM_STATUS .observer p).memLast) (s.accept Op.MEM_STATUS .observer
    p))) ∧
  (∀ (s : State) (p : Packet), s.admits Op.PAIR_STATUS .observer p → par p 0 1 ≤ 2 → p.target = 0xFFFF → onlyParams p [(0,
    1)] = true → exec (.pairStatus p) s = .next (complete (s.asCmd Op.PAIR_STATUS p) St.OK (if par p 0 1 = 0 then (s.accept
    Op.PAIR_STATUS .observer p).pairStat else if par p 0 1 = 1 then (s.accept Op.PAIR_STATUS .observer p).convLo else
    (s.accept Op.PAIR_STATUS .observer p).pair.slots) (s.accept Op.PAIR_STATUS .observer p))) ∧
  (∀ (s : State) (p : Packet), s.admits Op.FUSE_READ .observer p → p.target = 0xFFFF → onlyParams p [(0, 2)] = true → 1 ≤ par
    p 0 1 → par p 0 1 ≤ 8 → (par p 0 1 = 3 ∧ par p 1 1 ≤ 4 ∨ par p 0 1 ≠ 3 ∧ par p 1 1 = 0) → exec (.fuseRead p) s = .next
    (complete (s.asCmd Op.FUSE_READ p) St.OK ((if par p 0 1 = 5 then leNat (((s.accept Op.FUSE_READ .observer p).keyHash
    (s.accept Op.FUSE_READ .observer p).nv.keySlots.length).take 3) else if par p 0 1 = 8 then 1 else (s.accept Op.FUSE_READ
    .observer p).fuseValue (par p 0 1) (par p 1 1)) % 2 ^ 24 + 2 ^ 24 * (s.accept Op.FUSE_READ .observer p).slotsLeft (par p
    0 1) (par p 1 1)) (s.accept Op.FUSE_READ .observer p)))

/-- Accepted here means: State.admits holds (the device runs, the packet has its turn and nothing fences it, no change of the key
  is due, its chip may take it and the access check passes), and the packet is one of those named. CFG_READ of 1 to 10
  selectors completes with the first word read as RESULT and, where it names a host address, writes all words there;
  COUNTERS_READ without CLEAR of any block writes the registers of that block to the host address; AUDIT_READ delivers the
  entries of the log in its range, none where the flash cannot be read; TRACE_START starts an empty trace with its selection;
  TRACE_STOP stops it, writes its records to a host address it names and answers how many bytes they are; EVENT_MASK takes
  both bitmaps. -/
def Obligations.RecordingComplete : Prop :=
  (∀ (s : State) (p : Packet), s.admits Op.CFG_READ .observer p → p.target = 0xFFFF → par p 0 8 % 4 = 0 → readSels p ≠ 0 →
    (par p 0 8 = 0 → readSels p = 1) → (List.range 10).all (fun i => if i < readSels p then bitsOf (readSel p i) 19 12 = 0
    else readSel p i = 0) = true → exec (.cfgRead p) s = .next (complete (s.asCmd Op.CFG_READ p) (resultStatus p (par p 0 8))
    (((cfgReads (s.accept Op.CFG_READ .observer p) p (List.range (readSels p)) []).map BitVec.toNat).headD 0) (if par p 0 8 =
    0 then (s.accept Op.CFG_READ .observer p) else (s.accept Op.CFG_READ .observer p).hostResult (par p 0 8) ((cfgReads
    (s.accept Op.CFG_READ .observer p) p (List.range (readSels p)) []).flatMap fun w => leBytes 4 w.toNat)))) ∧
  (∀ (s : State) (p : Packet), s.admits Op.COUNTERS_READ .observer p → 1 ≤ par p 0 1 → par p 0 1 ≤ 9 → par p 1 1 = 0 → (par p
    0 1 = 1 → (s.station p.target).powered = true ∧ (s.station p.target).pending = none) → if par p 0 1 ≤ 7 then p.target <
    (counterBlocks.getD (par p 0 1 - 1) (0, 0, 0, 0)).1 else p.target = 0xFFFF → onlyParams p [(0, 2), (8, 8)] = true → par p
    8 8 ≠ 0 → par p 8 8 % 4 = 0 → exec (.countersRead p) s = .next (complete (s.asCmd Op.COUNTERS_READ p) (resultStatus p
    (par p 8 8)) (counterBlocks.getD (par p 0 1 - 1) (0, 0, 0, 0)).2.2.2 ((s.accept Op.COUNTERS_READ .observer p).hostResult
    (par p 8 8) ((s.accept Op.COUNTERS_READ .observer p).window ((counterBlocks.getD (par p 0 1 - 1) (0, 0, 0, 0)).2.1 +
    (counterBlocks.getD (par p 0 1 - 1) (0, 0, 0, 0)).2.2.1 * (if (counterBlocks.getD (par p 0 1 - 1) (0, 0, 0, 0)).1 = 0
    then 0 else p.target)) ((counterBlocks.getD (par p 0 1 - 1) (0, 0, 0, 0)).2.2.2 / 4))))) ∧
  (∀ (s : State) (p : Packet), s.admits Op.AUDIT_READ .observer p → p.target = 0xFFFF → onlyParams p [(0, 8)] = true → 1 ≤
    par p 4 4 → par p 4 4 ≤ 4096 → (findQueue fun q => s.queueType q = Ty.AUDIT).isSome = true → exec (.auditRead p) s =
    .next (complete (s.asCmd Op.AUDIT_READ p) St.OK (if (s.accept Op.AUDIT_READ .observer p).nv.readable = true then
    (s.accept Op.AUDIT_READ .observer p).nv.log.filter fun a => par p 0 4 ≤ a.seq && a.seq < par p 0 4 + par p 4 4 else
    []).length (deliverAudits (if (s.accept Op.AUDIT_READ .observer p).nv.readable = true then (s.accept Op.AUDIT_READ
    .observer p).nv.log.filter fun a => par p 0 4 ≤ a.seq && a.seq < par p 0 4 + par p 4 4 else []) (s.accept Op.AUDIT_READ
    .observer p)))) ∧
  (∀ (s : State) (p : Packet), s.admits Op.TRACE_START .owner p → s.trace.running = false → p.target = 0xFFFF → onlyParams p
    [(0, 7)] = true → par p 0 4 ≤ 0xFF → par p 4 1 ≤ 31 → par p 5 1 ≤ 23 → par p 6 1 ≤ 1 → exec (.traceStart p) s = .next
    (complete (s.asCmd Op.TRACE_START p) St.OK 0
    { (s.accept Op.TRACE_START .owner p) with trace := ⟨true, par p 0 4, par p 4 1, par p 5 1, par p 6 1 = 1, []⟩ })) ∧
  (∀ (s : State) (p : Packet), s.admits Op.TRACE_STOP .owner p → p.target = 0xFFFF → onlyParams p [(0, 12)] = true → par p 0
    8 % 4 = 0 → exec (.traceStop p) s = .next (complete (s.asCmd Op.TRACE_STOP p) (resultStatus p (par p 0 8)) ((s.accept
    Op.TRACE_STOP .owner p).trace.records.flatMap TraceRec.bytes).length (if par p 0 8 = 0 then
    { (s.accept Op.TRACE_STOP .owner p) with trace := { (s.accept Op.TRACE_STOP .owner p).trace with running := false } }
    else State.hostResult
    { (s.accept Op.TRACE_STOP .owner p) with trace := { (s.accept Op.TRACE_STOP .owner p).trace with running := false } }
    (par p 0 8) (((s.accept Op.TRACE_STOP .owner p).trace.records.flatMap TraceRec.bytes).take (par p 8 4))))) ∧
  (∀ (s : State) (p : Packet), s.admits Op.EVENT_MASK .owner p → p.target = 0xFFFF → exec (.eventMask p) s = .next (complete
    (s.asCmd Op.EVENT_MASK p) St.OK 0
    { (s.accept Op.EVENT_MASK .owner p) with hostMask := slice p.params 0 32, mgmtMask := slice p.params 32 16 }))

/-- Accepted here means: State.admits holds (the device runs, the packet has its turn and nothing fences it, no change of the key
  is due, its chip may take it and the access check passes), and the packet is one of those named. On a chip that is no
  SHADOW, SET_MODE to STANDBY in STANDBY completes OK with 1; in READY and WARMING with no stop and no drain under way it
  overtakes a pending SET_MODE, runs and begins the orderly stop; in PRINTING it then drains the path and lets go of the
  accepted sheets; in SERVICE it then leaves SERVICE; in each of these with a stop or a drain under way it overtakes a
  pending SET_MODE and runs on. SET_MODE to READY with no cause latched completes OK with the mode in WARMING, READY and
  PRINTING, where no drain and no orderly stop is under way; while an orderly stop is under way it overtakes a pending
  SET_MODE and runs on, in PRINTING it ends a drain and completes OK, in STANDBY or SERVICE with another stop under way it
  completes ABORTED_STOP, and in STANDBY or SERVICE with no stop under way, memory initialised, the interlock closed, no
  brownout warning and the process master ready, it overtakes a pending one and enters WARMING. SET_MODE to SERVICE of the
  holder of service access, with no cause latched, completes OK with 5: at once in SERVICE, and in STANDBY and READY with no
  stop or drain and no sheet in a slot by entering SERVICE. SAFE_STOP latches HOST_STOP: alone in STANDBY, where it completes
  OK, and elsewhere with the safe-stop, in which the command runs on. CLEAR_HALT leaves in the mask the causes whose
  condition has not gone, and FIRST as it was or, with no cause left, 0x1F. FUNCTION_RESET of functions that may be reset
  begins their resets and runs on. -/
def Obligations.ModeCommandsRun : Prop :=
  (∀ (s : State) (p : Packet), s.admits Op.SET_MODE .owner p → par p 0 1 = 1 → s.pair.role ≠ .shadow → p.target = 0xFFFF →
    onlyParams p [(0, 1)] = true → s.mode = .standby → exec (.setMode p) s = .next (complete (s.asCmd Op.SET_MODE p) St.OK 1
    (s.accept Op.SET_MODE .owner p))) ∧
  (∀ (s : State) (p : Packet), s.admits Op.SET_MODE .owner p → par p 0 1 = 1 → s.pair.role ≠ .shadow → p.target = 0xFFFF →
    onlyParams p [(0, 1)] = true → (s.mode = .ready ∨ s.mode = .warming) → s.modes.stopping = .none → s.modes.draining =
    false → exec (.setMode p) s = .next (((s.accept Op.SET_MODE .owner p).overtake.start (s.asCmd Op.SET_MODE
    p)).beginOrderly)) ∧
  (∀ (s : State) (p : Packet), s.admits Op.SET_MODE .owner p → par p 0 1 = 1 → s.pair.role ≠ .shadow → p.target = 0xFFFF →
    onlyParams p [(0, 1)] = true → s.mode = .printing → s.modes.stopping = .none → s.modes.draining = false → exec (.setMode
    p) s = .next (State.holdAccepted
    { (s.accept Op.SET_MODE .owner p).overtake.start (s.asCmd Op.SET_MODE p) with modes := { ((s.accept Op.SET_MODE .owner p).overtake.start (s.asCmd Op.SET_MODE p)).modes with draining := true } })) ∧
  (∀ (s : State) (p : Packet), s.admits Op.SET_MODE .owner p → par p 0 1 = 1 → s.pair.role ≠ .shadow → p.target = 0xFFFF →
    onlyParams p [(0, 1)] = true → s.mode = .service → s.modes.stopping = .none → s.modes.draining = false → exec (.setMode
    p) s = .next (((s.accept Op.SET_MODE .owner p).overtake.start (s.asCmd Op.SET_MODE p)).leaveService)) ∧
  (∀ (s : State) (p : Packet), s.admits Op.SET_MODE .owner p → par p 0 1 = 3 → s.pair.role ≠ .shadow → p.target = 0xFFFF →
    onlyParams p [(0, 1)] = true → (s.mode = .warming ∨ s.mode = .ready ∨ s.mode = .printing) → s.modes.stopping ≠ .orderly →
    s.modes.draining = false → s.modes.haltMask = 0 → exec (.setMode p) s = .next (complete (s.asCmd Op.SET_MODE p) St.OK
    (s.accept Op.SET_MODE .owner p).mode.code (s.accept Op.SET_MODE .owner p))) ∧
  (∀ (s : State) (p : Packet), s.admits Op.SET_MODE .owner p → par p 0 1 = 1 → s.pair.role ≠ .shadow → p.target = 0xFFFF →
    onlyParams p [(0, 1)] = true → s.mode ≠ .standby → (s.modes.stopping ≠ .none ∨ s.modes.draining = true) → exec (.setMode
    p) s = .next ((s.accept Op.SET_MODE .owner p).overtake.start (s.asCmd Op.SET_MODE p))) ∧
  (∀ (s : State) (p : Packet), s.admits Op.SET_MODE .owner p → par p 0 1 = 3 → s.pair.role ≠ .shadow → p.target = 0xFFFF →
    onlyParams p [(0, 1)] = true → s.modes.stopping = .orderly → s.modes.haltMask = 0 → exec (.setMode p) s = .next
    ((s.accept Op.SET_MODE .owner p).overtake.start (s.asCmd Op.SET_MODE p))) ∧
  (∀ (s : State) (p : Packet), s.admits Op.SET_MODE .owner p → par p 0 1 = 3 → s.pair.role ≠ .shadow → p.target = 0xFFFF →
    onlyParams p [(0, 1)] = true → s.mode = .printing → s.modes.stopping ≠ .orderly → s.modes.draining = true →
    s.modes.haltMask = 0 → exec (.setMode p) s = .next (complete (s.asCmd Op.SET_MODE p) St.OK (s.accept Op.SET_MODE .owner
    p).mode.code
    { (s.accept Op.SET_MODE .owner p).overtake with modes := { (s.accept Op.SET_MODE .owner p).overtake.modes with draining := false } })) ∧
  (∀ (s : State) (p : Packet), s.admits Op.SET_MODE .owner p → par p 0 1 = 3 → s.pair.role ≠ .shadow → p.target = 0xFFFF →
    onlyParams p [(0, 1)] = true → (s.mode = .standby ∨ s.mode = .service) → s.modes.stopping ≠ .none → s.modes.stopping ≠
    .orderly → s.modes.draining = false → s.modes.haltMask = 0 → exec (.setMode p) s = .next (complete (s.asCmd Op.SET_MODE
    p) St.ABORTED_STOP 0 (s.accept Op.SET_MODE .owner p))) ∧
  (∀ (s : State) (p : Packet), s.admits Op.SET_MODE .owner p → par p 0 1 = 3 → s.pair.role ≠ .shadow → p.target = 0xFFFF →
    onlyParams p [(0, 1)] = true → (s.mode = .standby ∨ s.mode = .service) → s.modes.stopping = .none → s.modes.draining =
    false → s.modes.haltMask = 0 → s.modes.memReady = true → s.safety.interlock = false → s.supply.warning = false → (s.seen
    Op.SET_MODE .owner p).masterReady = true → exec (.setMode p) s = .next (((s.accept Op.SET_MODE .owner p).overtake.start
    (s.asCmd Op.SET_MODE p)).warm)) ∧
  (∀ (s : State) (p : Packet), s.admits Op.SET_MODE .service p → par p 0 1 = 5 → s.pair.role ≠ .shadow → p.target = 0xFFFF →
    onlyParams p [(0, 1)] = true → s.mode = .service → s.modes.haltMask = 0 → exec (.setMode p) s = .next (complete (s.asCmd
    Op.SET_MODE p) St.OK 5 (s.accept Op.SET_MODE .service p))) ∧
  (∀ (s : State) (p : Packet), s.admits Op.SET_MODE .service p → par p 0 1 = 5 → s.pair.role ≠ .shadow → p.target = 0xFFFF →
    onlyParams p [(0, 1)] = true → (s.mode = .standby ∨ s.mode = .ready) → s.modes.stopping = .none → s.modes.draining =
    false → s.modes.haltMask = 0 → (s.slotsWhere fun _ => true) = [] → exec (.setMode p) s = .next (complete (s.asCmd
    Op.SET_MODE p) St.OK 5 (((s.accept Op.SET_MODE .service p).overtake.enter .service).auditService Audit.SERVICE_MODE
    p.master St.OK))) ∧
  (∀ (s : State) (p : Packet), s.admits Op.SAFE_STOP .owner p → p.target = 0xFFFF → onlyParams p [] = true → s.mode =
    .standby → exec (.safeStop p) s = .next (complete (s.asCmd Op.SAFE_STOP p) St.OK 0 ((s.accept Op.SAFE_STOP .owner
    p).latch Halt.HOST_STOP))) ∧
  (∀ (s : State) (p : Packet), s.admits Op.SAFE_STOP .owner p → p.target = 0xFFFF → onlyParams p [] = true → s.mode ≠
    .standby → exec (.safeStop p) s = .next (((s.accept Op.SAFE_STOP .owner p).halt Halt.HOST_STOP).start (s.asCmd
    Op.SAFE_STOP p))) ∧
  (∀ (s : State) (p : Packet), s.admits Op.CLEAR_HALT .owner p → p.target = 0xFFFF → onlyParams p [] = true → ∃ t, exec
    (.clearHalt p) s = .next t ∧ t.modes.haltMask = (s.accept Op.CLEAR_HALT .owner p).haltLeft ∧ (t.modes.haltFirst = if
    (s.accept Op.CLEAR_HALT .owner p).haltLeft = 0 then 0x1F else s.modes.haltFirst)) ∧
  (∀ (s : State) (p : Packet), s.admits Op.FUNCTION_RESET .owner p → (functions (par p 0 2)).all (fun f => !s.inReset f &&
    !s.offStation f && !s.needsForce (bit (par p 2 1) 0) f) = true → p.target = 0xFFFF → onlyParams p [(0, 3)] = true → 0 <
    par p 0 2 → par p 0 2 < 2 ^ 15 → par p 2 1 ≤ 1 → exec (.functionReset p) s = .next (beginResets (functions (par p 0 2))
    ((s.accept Op.FUNCTION_RESET .owner p).start { (s.asCmd Op.FUNCTION_RESET p) with notes := [par p 0 2] })))

/-- Accepted here means: State.admits holds (the device runs, the packet has its turn and nothing fences it, no change of the key
  is due, its chip may take it and the access check passes), and the packet is one of those named. CLAIM_KEY of the holder
  completes OK with the epoch, the lease renewed; of another master while the holder's lease has not lapsed it completes
  KEY_HELD; on a key that is free or lapsed, and with a window open or KEY_CLAIM_WINDOW not 0, its claim stands last among
  the claims, none of them an earlier one of its master, in a window that is open, and holder and epoch stay; a window that
  this opens ends KEY_CLAIM_WINDOW later. HAND_KEY to another master, to 2 where the LEAD is SYNCED and RELAY_EN is set,
  makes it the holder at the next epoch without service access, and a challenge is void; HAND_KEY to 0xFF frees the key at
  the same epoch without service access. KEY_TOUCH completes OK with the epoch. SERVICE_CHALLENGE with no lock-out keeps a
  live challenge bound to the master and the epoch and waits for part 0. SERVICE_RESPONSE: part 0 or 1 in its turn is taken
  and the next part is awaited; part 2 in its turn gains service access where the credential is good and fails otherwise, and
  no challenge is live after it; a part out of its turn, of another master or epoch, or with no live challenge fails.
  SERVICE_END drops service access, holder and epoch as they were. -/
def Obligations.KeyCommandsRun : Prop :=
  (∀ (s : State) (p : Packet), s.admits Op.CLAIM_KEY .observer p → p.target = 0xFFFF → onlyParams p [(0, 1)] = true → par p 0
    1 ≤ 7 → s.key.holder = p.master → exec (.claimKey p) s = .next (complete (s.asCmd Op.CLAIM_KEY p) St.OK s.key.epoch.toNat
    (s.accept Op.CLAIM_KEY .observer p).renew)) ∧
  (∀ (s : State) (p : Packet), s.admits Op.CLAIM_KEY .observer p → p.target = 0xFFFF → onlyParams p [(0, 1)] = true → par p 0
    1 ≤ 7 → s.key.holder ≠ p.master → s.key.holder ≠ 3 → s.key.lapsed = false → exec (.claimKey p) s = .next (complete
    (s.asCmd Op.CLAIM_KEY p) St.KEY_HELD 0 (s.accept Op.CLAIM_KEY .observer p))) ∧
  (∀ (s : State) (p : Packet), s.admits Op.CLAIM_KEY .observer p → p.target = 0xFFFF → onlyParams p [(0, 1)] = true → par p 0
    1 ≤ 7 → s.key.holder ≠ p.master → (s.key.holder = 3 ∨ s.key.lapsed = true) → (s.key.windowOpen = true ∨ s.imm
    Fld.KEY_CLAIM_WINDOW ≠ 0) → ∃ t, exec (.claimKey p) s = .next t ∧ t.key.windowOpen = true ∧ t.key.windowEnds = (if
    s.key.windowOpen = true then s.key.windowEnds else s.cycleOf p + ms (s.imm Fld.KEY_CLAIM_WINDOW)) ∧ t.key.claims =
    (s.key.claims.filter fun k => k.master ≠ p.master) ++ [⟨p.master, par p 0 1, (s.asCmd Op.CLAIM_KEY p)⟩] ∧ t.key.holder =
    s.key.holder ∧ t.key.epoch = s.key.epoch) ∧
  (∀ (s : State) (p : Packet), s.admits Op.HAND_KEY .owner p → p.target = 0xFFFF → onlyParams p [(0, 1)] = true → par p 0 1 <
    3 → par p 0 1 ≠ p.master → (par p 0 1 = 2 → s.syncedLead = true ∧ s.on Fld.RELAY_EN = true) → ∃ t, exec (.handKey p) s =
    .next t ∧ t.key.holder = par p 0 1 ∧ t.key.epoch = nextEpoch s.key.epoch ∧ t.key.lapsed = false ∧ t.key.service = false ∧
    t.cred.live = false) ∧
  (∀ (s : State) (p : Packet), s.admits Op.HAND_KEY .owner p → p.target = 0xFFFF → onlyParams p [(0, 1)] = true → par p 0 1 =
    0xFF → p.master ≠ 0xFF → ∃ t, exec (.handKey p) s = .next t ∧ t.key.holder = 3 ∧ t.key.epoch = s.key.epoch ∧
    t.key.service = false) ∧
  (∀ (s : State) (p : Packet), s.admits Op.KEY_TOUCH .owner p → p.target = 0xFFFF → onlyParams p [] = true → exec (.keyTouch
    p) s = .next (complete (s.asCmd Op.KEY_TOUCH p) St.OK s.key.epoch.toNat (s.accept Op.KEY_TOUCH .owner p))) ∧
  (∀ (s : State) (p : Packet), s.admits Op.SERVICE_CHALLENGE .owner p → s.cred.lockout = none → p.target = 0xFFFF →
    onlyParams p [] = true → ∃ t, exec (.serviceChallenge p) s = .next t ∧ t.cred.live = true ∧ t.cred.master = p.master ∧
    t.cred.epoch = s.key.epoch ∧ t.cred.nextPart = 0 ∧ t.cred.drawn = s.cycleOf p ∧ t.cred.words = (s.accept
    Op.SERVICE_CHALLENGE .owner p).challenge p.master) ∧
  (∀ (s : State) (p : Packet), s.admits Op.SERVICE_RESPONSE .owner p → p.target = 0xFFFF → onlyParams p [(0, 1), (4, 44)] =
    true → par p 0 1 < 2 → s.cred.live = true → s.cred.master = p.master → s.cred.epoch = s.key.epoch → s.cred.nextPart = par
    p 0 1 → ∃ t, exec (.serviceResponse p) s = .next t ∧ t.cred.nextPart = par p 0 1 + 1 ∧ t.cred.answer = s.cred.answer ++
    slice p.params 4 44 ∧ t.cred.live = true) ∧
  (∀ (s : State) (p : Packet), s.admits Op.SERVICE_RESPONSE .owner p → p.target = 0xFFFF → onlyParams p [(0, 1), (4, 44)] =
    true → par p 0 1 = 2 → par p 44 4 = 0 → s.cred.live = true → s.cred.master = p.master → s.cred.epoch = s.key.epoch →
    s.cred.nextPart = par p 0 1 → ∃ t, exec (.serviceResponse p) s = .next t ∧ t.cred.live = false ∧ (t = if (s.accept
    Op.SERVICE_RESPONSE .owner p).credentialGood ((s.accept Op.SERVICE_RESPONSE .owner p).cred.answer ++ slice p.params 4 44)
    = true then complete (s.asCmd Op.SERVICE_RESPONSE p) St.OK 0 (State.gainService p.master
    { (s.accept Op.SERVICE_RESPONSE .owner p) with cred := { (s.accept Op.SERVICE_RESPONSE .owner p).cred with live := false, answer := [] } })
    else State.failCredential (s.asCmd Op.SERVICE_RESPONSE p)
    { (s.accept Op.SERVICE_RESPONSE .owner p) with cred := { (s.accept Op.SERVICE_RESPONSE .owner p).cred with live := false, answer := [] } })) ∧
  (∀ (s : State) (p : Packet), s.admits Op.SERVICE_RESPONSE .owner p → p.target = 0xFFFF → onlyParams p [(0, 1), (4, 44)] =
    true → par p 0 1 ≤ 2 → (par p 0 1 = 2 → par p 44 4 = 0) → (s.cred.live = false ∨ s.cred.master ≠ p.master ∨ s.cred.epoch
    ≠ s.key.epoch ∨ s.cred.nextPart ≠ par p 0 1) → exec (.serviceResponse p) s = .next ((s.accept Op.SERVICE_RESPONSE .owner
    p).failCredential (s.asCmd Op.SERVICE_RESPONSE p))) ∧
  (∀ (s : State) (p : Packet), s.admits Op.SERVICE_END .service p → p.target = 0xFFFF → onlyParams p [] = true → ∃ t, exec
    (.serviceEnd p) s = .next t ∧ t.key.service = false ∧ t.key.holder = s.key.holder ∧ t.key.epoch = s.key.epoch)

/-- Accepted here means: State.admits holds (the device runs, the packet has its turn and nothing fences it, no change of the key
  is due, its chip may take it and the access check passes), and the packet is one of those named. CFG_WRITE of 1 to 5
  entries, none in a gated station and none with a bit set that must be 0, does its entries in order and completes OK with
  how many were written and, from bit 8, which were discarded. APPLY of a group instance that is there, not gated, not closed
  and consistent waits for its boundary with the shadow as it is now and runs on; where only the consistency check fails it
  completes TUMBLER_INCONSISTENT. PROFILE_LOAD in STANDBY or SERVICE, with no other under way, of a profile that is good
  writes the stored words and starts on its groups. -/
def Obligations.ConfigCommandsRun : Prop :=
  (∀ (s : State) (p : Packet), s.admits Op.CFG_WRITE .owner p → (cfgEntries p).all (fun e => !s.gatedAt e.1 && !e.2.2.2) =
    true → p.target = 0xFFFF → 1 ≤ par p 0 1 → par p 0 1 ≤ 5 → onlyParams p [(0, 1), (4, 8 * par p 0 1)] = true → exec
    (.cfgWrite p) s = .next (complete (s.asCmd Op.CFG_WRITE p) St.OK ((cfgWrites (cfgEntries p) 0 (0, 0, (s.accept
    Op.CFG_WRITE .owner p))).1 + 2 ^ 8 * (cfgWrites (cfgEntries p) 0 (0, 0, (s.accept Op.CFG_WRITE .owner p))).2.1)
    (cfgWrites (cfgEntries p) 0 (0, 0, (s.accept Op.CFG_WRITE .owner p))).2.2)) ∧
  (∀ (s : State) (p : Packet), s.admits Op.APPLY .owner p → firstFail (applyChecks (s.seen Op.APPLY .owner p) (par p 0 1)
    p.target |>.take 4) = none → onlyParams p [(0, 1)] = true → firstFail (applyChecks (s.accept Op.APPLY .owner p) (par p 0
    1) p.target) = none → exec (.apply p) s = .next (((s.accept Op.APPLY .owner p).waitApply (par p 0 1) p.target (some
    s.arbSeq)).start (s.asCmd Op.APPLY p))) ∧
  (∀ (s : State) (p : Packet), s.admits Op.APPLY .owner p → firstFail (applyChecks (s.seen Op.APPLY .owner p) (par p 0 1)
    p.target |>.take 4) = none → onlyParams p [(0, 1)] = true → firstFail (applyChecks (s.accept Op.APPLY .owner p) (par p 0
    1) p.target) = some St.TUMBLER_INCONSISTENT → exec (.apply p) s = .next (complete (s.asCmd Op.APPLY p)
    St.TUMBLER_INCONSISTENT 0 (s.accept Op.APPLY .owner p))) ∧
  (∀ (s : State) (p : Packet), s.admits Op.PROFILE_LOAD .owner p → (s.mode = .standby ∨ s.mode = .service) →
    s.tumbler.profile = none → p.target = 0xFFFF → onlyParams p [(0, 1)] = true → par p 0 1 ≤ 1 → s.nv.readable = true →
    s.regionGood (Rgn.PROFILE0 + par p 0 1) = true → exec (.profileLoad p) s = .next (runProfile s.arbSeq profileGroups
    (((s.accept Op.PROFILE_LOAD .owner p).writeProfile ((s.accept Op.PROFILE_LOAD .owner p).nv.profiles.getD (par p 0 1)
    [])).start (s.asCmd Op.PROFILE_LOAD p))))

/-- Accepted here means: State.admits holds (the device runs, the packet has its turn and nothing fences it, no change of the key
  is due, its chip may take it and the access check passes), and the packet is one of those named. A SHEET_SUBMIT that passes
  every check of R35 enters the lowest free slot, whose number is the RESULT. SHEET_CANCEL of a sheet that may still be
  cancelled runs on, and marks a sheet that is picked, or stamps HOST_CANCEL on one that is not and closes it.
  SHEET_CLEAR_REG in READY or PRINTING, with a blank held at registration and none running, runs on and starts the run of the
  blank. -/
def Obligations.SheetCommandsRun : Prop :=
  (∀ (s : State) (p : Packet), s.admits Op.SHEET_SUBMIT .owner p → (s.mode = .warming ∨ s.mode = .ready ∨ s.mode = .printing)
    → s.modes.memReady = true → p.target = 0xFFFF → onlyParams p [(0, 9), (0x0C, 12)] = true → submitRange p = true → (s.seen
    Op.SHEET_SUBMIT .owner p).slotFree = true → s.slotOf (par p 0 4) = none → s.stationsReady (par p 8 1) = true → s.indexOk
    p = true → s.entriesHeld + (submitBands p).length ≤ 1048576 → s.fitsPitch (par p 8 1) (submitBands p) = true → exec
    (.sheetSubmit p) s = .next (complete (s.asCmd Op.SHEET_SUBMIT p) St.OK (s.accept Op.SHEET_SUBMIT .owner p).freeSlot
    ((s.accept Op.SHEET_SUBMIT .owner p).enterSheet p))) ∧
  (∀ (s : State) (p : Packet) (i : Nat) (sh : Sheet), s.admits Op.SHEET_CANCEL .owner p → p.target = 0xFFFF → onlyParams p
    [(0, 4)] = true → s.slotOf (par p 0 4) = some i → s.cancelLate i = false → s.sheet? i = some sh → exec (.sheetCancel p) s
    = .next (if sh.state = .picked then ((s.accept Op.SHEET_CANCEL .owner p).start
    { s.asCmd Op.SHEET_CANCEL p with notes := [i] }).setSheet i (fun x => { x with cancel := true }) else ((((s.accept
    Op.SHEET_CANCEL .owner p).start { s.asCmd Op.SHEET_CANCEL p with notes := [i] }).stamp i Cause.HOST_CANCEL (s.cycleOf
    p)).close i))) ∧
  (∀ (s : State) (p : Packet), s.admits Op.SHEET_CLEAR_REG .owner p → (s.mode = .ready ∨ s.mode = .printing) →
    s.sheets.blankRun = false → p.target = 0xFFFF → onlyParams p [] = true → s.sheets.blank.isSome = true → exec
    (.sheetClearReg p) s = .next (((s.accept Op.SHEET_CLEAR_REG .owner p).start (s.asCmd Op.SHEET_CLEAR_REG p)).runBlank))

/-- Accepted here means: State.admits holds (the device runs, the packet has its turn and nothing fences it, no change of the key
  is due, its chip may take it and the access check passes), and the packet is one of those named. DMA_START of a good list
  on a channel 0 to 15 that holds fewer than 8, with memory initialised and DMA not in reset, runs on with its list behind
  those of the channel. DMA_STOP of a channel 0 to 15 ends its lists with ABORTED_HOST and completes OK. DMA_RESUME with
  memory initialised takes the stop of the channels away and completes OK. -/
def Obligations.DmaCommandsRun : Prop :=
  (∀ (s : State) (p : Packet), s.admits Op.DMA_START .owner p → s.modes.memReady = true → s.inReset Fn.DMA = false →
    (s.channel p.target).lists.length < 8 → p.target < 16 → onlyParams p [(0, 8), (8, 4)] = true → par p 0 8 % 32 = 0 → 0 <
    par p 8 4 → par p 8 4 ≤ 1048575 → exec (.dmaStart p) s = .next (((s.accept Op.DMA_START .owner p).start (s.asCmd
    Op.DMA_START p)).setChannel p.target fun C =>
    { C with lists := C.lists ++ [⟨s.asCmd Op.DMA_START p, par p 0 8, par p 8 4, 0, 0⟩] })) ∧
  (∀ (s : State) (p : Packet), s.admits Op.DMA_STOP .owner p → p.target < 16 → onlyParams p [] = true → exec (.dmaStop p) s =
    .next (complete (s.asCmd Op.DMA_STOP p) St.OK 0 ((s.accept Op.DMA_STOP .owner p).endLists p.target St.ABORTED_HOST))) ∧
  (∀ (s : State) (p : Packet), s.admits Op.DMA_RESUME .owner p → s.modes.memReady = true → p.target = 0xFFFF → onlyParams p
    [] = true → exec (.dmaResume p) s = .next (complete (s.asCmd Op.DMA_RESUME p) St.OK 0
    { (s.accept Op.DMA_RESUME .owner p) with dma := { (s.accept Op.DMA_RESUME .owner p).dma with stopped := false } }))

/-- Accepted here means: State.admits holds (the device runs, the packet has its turn and nothing fences it, no change of the key
  is due, its chip may take it and the access check passes), and the packet is one of those named. On a drive with EN set:
  DRIVE_START in SERVICE, with no cause latched and the drive free, listens for the rotor and runs on; DRIVE_SPEED in
  SERVICE, with no cause latched and the drive running, ends what moved it with ABORTED_HOST, moves its speed reference and
  runs on; DRIVE_BRAKE in STANDBY or SERVICE of a drive that is not tripped ends what moved it with ABORTED_HOST and runs on,
  with a running drive flux-braked and one that does not run listened to at standstill. -/
def Obligations.DriveCommandsRun : Prop :=
  (∀ (s : State) (p : Packet), s.admits Op.DRIVE_START .owner p → s.mode = .service → s.modes.haltMask = 0 → (s.drive
    p.target).free = true → p.target < 12 → s.livOn (Fld.DRV_EN p.target) = true → onlyParams p [(0, 5)] = true → par p 4 1 ≤
    1 → exec (.driveStart p) s = .next (((s.accept Op.DRIVE_START .owner p).listen p.target (parInt p 0 4) (par p 4 1)).start
    (s.asCmd Op.DRIVE_START p))) ∧
  (∀ (s : State) (p : Packet), s.admits Op.DRIVE_SPEED .owner p → s.mode = .service → s.modes.haltMask = 0 → (s.drive
    p.target).running = true → p.target < 12 → s.livOn (Fld.DRV_EN p.target) = true → onlyParams p [(0, 4)] = true → exec
    (.driveSpeed p) s = .next (((finishWhere (driveCmd [Op.DRIVE_SPEED, Op.STOP, Op.EMERGENCY_STOP] p.target) (fun _ =>
    St.ABORTED_HOST) (fun _ => 0) (s.accept Op.DRIVE_SPEED .owner p)).driveMove p.target ((finishWhere (driveCmd
    [Op.DRIVE_SPEED, Op.STOP, Op.EMERGENCY_STOP] p.target) (fun _ => St.ABORTED_HOST) (fun _ => 0) (s.accept Op.DRIVE_SPEED
    .owner p)).rampMove p.target (parInt p 0 4))).start (s.asCmd Op.DRIVE_SPEED p))) ∧
  (∀ (s : State) (p : Packet), s.admits Op.DRIVE_BRAKE .owner p → (s.mode = .standby ∨ s.mode = .service) → (s.drive
    p.target).state ≠ .tripped → p.target < 12 → s.livOn (Fld.DRV_EN p.target) = true → onlyParams p [] = true → exec
    (.driveBrake p) s = .next (State.start (if (((s.accept Op.DRIVE_BRAKE .owner p).abortDrive p.target
    St.ABORTED_HOST).drive p.target).running = true then ((s.accept Op.DRIVE_BRAKE .owner p).abortDrive p.target
    St.ABORTED_HOST).fluxBrake p.target else (((s.accept Op.DRIVE_BRAKE .owner p).abortDrive p.target
    St.ABORTED_HOST).bridgeOff p.target).listen p.target 0 0) (s.asCmd Op.DRIVE_BRAKE p)))

/-- Accepted here means: State.admits holds (the device runs, the packet has its turn and nothing fences it, no change of the key
  is due, its chip may take it and the access check passes), and the packet is one of those named. In WARMING, READY,
  PRINTING and SERVICE with no cause latched and axes that are not busy, MOVE, HOME and GROUP_MOVE run on with their moves
  behind what the queues of the enabled axis or of the members of the group hold; an absolute MOVE asks for a homed axis.
  STOP and EMERGENCY_STOP of an enabled axis, of a group with members and of an enabled drive stop it and run on until it
  rests, or complete at once where it does. -/
def Obligations.AxisCommandsRun : Prop :=
  (∀ (s : State) (p : Packet), s.admits Op.MOVE .owner p → (s.mode = .ready ∨ s.mode = .printing ∨ s.mode = .warming ∨ s.mode
    = .service) → s.modes.haltMask = 0 → s.axisBusy p.target = false → p.target < 24 → s.livOn (Fld.AXS_EN p.target) = true →
    onlyParams p [(0, 1), (4, 8)] = true → par p 0 1 ≤ 2 → (par p 0 1 = 1 → (s.axis p.target).homed = true) → exec (.move p)
    s = .next (((s.accept Op.MOVE .owner p).start (s.asCmd Op.MOVE p)).enqueueMove p.target
    { AxisMove.bare with kind := (if par p 0 1 = 0 then .relative else if par p 0 1 = 1 then .absolute else .velocity), value := parInt p 4 8, cmd := some s.arbSeq })) ∧
  (∀ (s : State) (p : Packet), s.admits Op.HOME .owner p → (s.mode = .ready ∨ s.mode = .printing ∨ s.mode = .warming ∨ s.mode
    = .service) → s.modes.haltMask = 0 → s.axisBusy p.target = false → p.target < 24 → s.livOn (Fld.AXS_EN p.target) = true →
    onlyParams p [(0, 2), (4, 12)] = true → par p 0 1 ≤ 71 → par p 1 1 ≤ 1 → exec (.home p) s = .next (((s.accept Op.HOME
    .owner p).start (s.asCmd Op.HOME p)).enqueueMove p.target
    { AxisMove.bare with kind := .search, value := (if par p 1 1 = 0 then (par p 4 4 : Int) else -(par p 4 4 : Int)), cmd := some s.arbSeq, source := par p 0 1, offset := parInt p 8 4, limit := par p 12 4 })) ∧
  (∀ (s : State) (p : Packet), s.admits Op.GROUP_MOVE .owner p → (s.mode = .ready ∨ s.mode = .printing ∨ s.mode = .warming ∨
    s.mode = .service) → s.modes.haltMask = 0 → (s.members p.target).any (fun n => s.axisBusy n) = false → p.target < 8 →
    s.members p.target ≠ [] → onlyParams p [(4, 24)] = true → (List.range 6).all (fun i => i < (s.members p.target).length ||
    par p (4 + 4 * i) 4 = 0) = true → exec (.groupMove p) s = .next (joinQueues p.target s.arbSeq (((s.accept Op.GROUP_MOVE
    .owner p).members p.target).zip ((List.range 6).map fun i => parInt p (4 + 4 * i) 4)) ((s.accept Op.GROUP_MOVE .owner
    p).start (s.asCmd Op.GROUP_MOVE p)))) ∧
  (∀ (s : State) (p : Packet), s.admits Op.STOP .owner p → par p 0 1 = 0 → p.target < 24 → s.livOn (Fld.AXS_EN p.target) =
    true → onlyParams p [(0, 1)] = true → exec (.stop p) s = .next (((s.accept Op.STOP .owner p).stopAxis p.target).stopOver
    (s.asCmd Op.STOP p) [p.target])) ∧
  (∀ (s : State) (p : Packet), s.admits Op.STOP .owner p → par p 0 1 = 1 → p.target < 8 → s.members p.target ≠ [] →
    onlyParams p [(0, 1)] = true → exec (.stop p) s = .next (((s.accept Op.STOP .owner p).stopGroup p.target).stopOver
    (s.asCmd Op.STOP p) ((s.accept Op.STOP .owner p).members p.target))) ∧
  (∀ (s : State) (p : Packet), s.admits Op.STOP .owner p → par p 0 1 = 2 → p.target < 12 → s.livOn (Fld.DRV_EN p.target) =
    true → onlyParams p [(0, 1)] = true → exec (.stop p) s = .next ((s.accept Op.STOP .owner p).stopDrive p.target (s.asCmd
    Op.STOP p))) ∧
  (∀ (s : State) (p : Packet), s.admits Op.EMERGENCY_STOP .owner p → par p 0 1 = 0 → p.target < 24 → s.livOn (Fld.AXS_EN
    p.target) = true → onlyParams p [(0, 1)] = true → exec (.emergencyStop p) s = .next (((s.accept Op.EMERGENCY_STOP .owner
    p).estopAxis p.target).stopOver (s.asCmd Op.EMERGENCY_STOP p) [p.target])) ∧
  (∀ (s : State) (p : Packet), s.admits Op.EMERGENCY_STOP .owner p → par p 0 1 = 1 → p.target < 8 → s.members p.target ≠ [] →
    onlyParams p [(0, 1)] = true → exec (.emergencyStop p) s = .next ((estopAll ((s.accept Op.EMERGENCY_STOP .owner
    p).members p.target) ((s.accept Op.EMERGENCY_STOP .owner p).stopGroup p.target)).stopOver (s.asCmd Op.EMERGENCY_STOP p)
    ((s.accept Op.EMERGENCY_STOP .owner p).members p.target))) ∧
  (∀ (s : State) (p : Packet), s.admits Op.EMERGENCY_STOP .owner p → par p 0 1 = 2 → p.target < 12 → s.livOn (Fld.DRV_EN
    p.target) = true → onlyParams p [(0, 1)] = true → exec (.emergencyStop p) s = .next ((s.accept Op.EMERGENCY_STOP .owner
    p).estopDrive p.target (s.asCmd Op.EMERGENCY_STOP p)))

/-- Accepted here means: State.admits holds (the device runs, the packet has its turn and nothing fences it, no change of the key
  is due, its chip may take it and the access check passes), and the packet is one of those named. LOOP_LOAD of a good image
  for a slot 0 to 23 writes the shadow and begins its apply. LOOP_CLOSE of a slot that is not OFF, its destinations ready and
  no cause latched, ends an earlier close with ABORTED_HOST, asks the slot to close with its INIT and runs on. LOOP_OPEN of a
  slot 0 to 23, in STANDBY, in SERVICE or of a slot that is not enabled or runs no drive, opens it and completes OK.
  PROFILE_RUN of a CLOSED slot whose reference is the host's and that feeds no drive ends an earlier one with ABORTED_HOST,
  moves the reference and runs on. -/
def Obligations.LoopCommandsRun : Prop :=
  (∀ (s : State) (p : Packet), s.admits Op.LOOP_LOAD .owner p → s.mode ≠ .dormant → p.target < 24 → onlyParams p [(0, 8)] =
    true → par p 0 4 % 4 = 0 → 836 ≤ (argBytes p).length → p.args.isSome = true → badImage (argBytes p) = false → exec
    (.loopLoad p) s = .next (((s.accept Op.LOOP_LOAD .owner p).loadImage p.target (argBytes p)).beginApply Grp.LOOP_COEF
    p.target (s.asCmd Op.LOOP_LOAD p))) ∧
  (∀ (s : State) (p : Packet), s.admits Op.LOOP_CLOSE .owner p → s.modes.haltMask = 0 → s.destUnready p.target = false →
    p.target < 24 → (s.loop p.target).state ≠ .off → onlyParams p [(0, 1)] = true → par p 0 1 ≤ 2 → exec (.loopClose p) s =
    .next (((finishWhere (fun d => d.op = Op.LOOP_CLOSE && d.p.target = p.target) (fun _ => St.ABORTED_HOST) (fun _ => 0)
    (s.accept Op.LOOP_CLOSE .owner p)).closeLoop p.target (par p 0 1)).start (s.asCmd Op.LOOP_CLOSE p))) ∧
  (∀ (s : State) (p : Packet), s.admits Op.LOOP_OPEN .owner p → (s.mode = .standby ∨ s.mode = .service ∨ s.runsDrive p.target
    = false ∨ s.livOn (Fld.LOOP_EN p.target) = false) → p.target < 24 → onlyParams p [(0, 1)] = true → par p 0 1 ≤ 1 → exec
    (.loopOpen p) s = .next (complete (s.asCmd Op.LOOP_OPEN p) St.OK 0 (finishWhere (openEnds p.target) (fun _ =>
    St.ABORTED_HOST) (fun _ => 0) ((s.accept Op.LOOP_OPEN .owner p).openLoop p.target (par p 0 1 = 1))))) ∧
  (∀ (s : State) (p : Packet), s.admits Op.PROFILE_RUN .owner p → p.target < 24 → s.liv (Fld.LOOP_REF_MODE p.target) = 0 →
    s.feedsDrive p.target = false → (s.loop p.target).state = .closed → onlyParams p [(0, 4)] = true → exec (.profileRun p) s
    = .next (((finishWhere (profileCmd (s.accept Op.PROFILE_RUN .owner p) p.target) (fun _ => St.ABORTED_HOST) (fun _ => 0)
    (s.accept Op.PROFILE_RUN .owner p)).refMove p.target ((finishWhere (profileCmd (s.accept Op.PROFILE_RUN .owner p)
    p.target) (fun _ => St.ABORTED_HOST) (fun _ => 0) (s.accept Op.PROFILE_RUN .owner p)).profileMove p.target (parInt p 0
    4))).start (s.asCmd Op.PROFILE_RUN p)))

/-- Accepted here means: State.admits holds (the device runs, the packet has its turn and nothing fences it, no change of the key
  is due, its chip may take it and the access check passes), and the packet is one of those named. HV_SET within FULL and
  with a rate, on a channel no slot runs, changes its set-point and rate and ends an earlier HV_SET with ABORTED_HOST; on a
  channel that is enabled and not being disabled it ramps there and runs on, and on any other it completes OK. HV_ENABLE with
  bit 0 set, in every mode but DORMANT and STANDBY with no cause latched and the outputs not gated, turns the channels of its
  mask on; with bit 0 clear, in every mode but DORMANT, it ramps them down, or, with bit 1 set, cuts them; the command runs
  on until they are there. FUSER_SET in range changes the set-point that WHICH names; where that one is in force and the zone
  is enabled it ends a PROFILE_RUN on the slot of the zone with ABORTED_HOST, moves the zone and, the zone still enabled,
  runs on; otherwise it completes OK. FUSER_ENABLE ends earlier ones on its zones with ABORTED_HOST; with enable clear it
  turns the zones off and completes OK; with enable set, no cause latched, the outputs not gated and the slots of the zones
  not OFF, it turns them on and runs on for the slots of those that are enabled, or completes OK where none is. -/
def Obligations.PowerCommandsRun : Prop :=
  (∀ (s : State) (p : Packet), s.admits Op.HV_SET .owner p → s.hvSlot p.target = false → p.target < 24 → onlyParams p [(0,
    4)] = true → par p 0 2 ≤ s.imm (Fld.HV_FULL p.target) → 0 < par p 2 2 → exec (.hvSet p) s = .next ((if (s.hvCh
    p.target).en = true ∧ (s.hvCh p.target).disabling = false then ((((((s.accept Op.HV_SET .owner p).setImm (Fld.HV_SET
    p.target) (par p 0 2)).setImm (Fld.HV_RAMP p.target) (par p 2 2)).finishSets p.target St.ABORTED_HOST).rampTo p.target
    (par p 0 2)).watchHold).start (s.asCmd Op.HV_SET p) else complete (s.asCmd Op.HV_SET p) St.OK 0 ((((s.accept Op.HV_SET
    .owner p).setImm (Fld.HV_SET p.target) (par p 0 2)).setImm (Fld.HV_RAMP p.target) (par p 2 2)).finishSets p.target
    St.ABORTED_HOST)))) ∧
  (∀ (s : State) (p : Packet), s.admits Op.HV_ENABLE .owner p → bit (par p 3 1) 0 = true → par p 3 1 ≤ 3 → s.mode ≠ .dormant
    → s.mode ≠ .standby → s.noRise = false → p.target = 0xFFFF → onlyParams p [(0, 4)] = true → exec (.hvEnable p) s = .next
    (((hvOnAll (maskList (par p 0 3) 24) (s.accept Op.HV_ENABLE .owner p)).watchHold.start (s.asCmd Op.HV_ENABLE
    p)).finishHv)) ∧
  (∀ (s : State) (p : Packet), s.admits Op.HV_ENABLE .owner p → bit (par p 3 1) 0 = false → par p 3 1 ≤ 3 → s.mode ≠ .dormant
    → p.target = 0xFFFF → onlyParams p [(0, 4)] = true → exec (.hvEnable p) s = .next (((if bit (par p 3 1) 1 = true then
    hvOffAll (maskList (par p 0 3) 24) (s.accept Op.HV_ENABLE .owner p) else hvDownAll (maskList (par p 0 3) 24) (s.accept
    Op.HV_ENABLE .owner p)).start (s.asCmd Op.HV_ENABLE p)).finishHv)) ∧
  (∀ (s : State) (p : Packet), s.admits Op.FUSER_SET .owner p → s.mode ≠ .dormant → p.target < 4 → onlyParams p [(0, 5)] =
    true → par p 4 1 ≤ 1 → -32768 ≤ parInt p 0 4 → parInt p 0 4 ≤ 32767 → (s.setInForce (par p 4 1) = false ∨ (s.zone
    p.target).enabled = false) → exec (.fuserSet p) s = .next (complete (s.asCmd Op.FUSER_SET p) St.OK 0 ((s.accept
    Op.FUSER_SET .owner p).setImm (if par p 4 1 = 0 then Fld.FZ_RUN p.target else Fld.FZ_STBY p.target) (par p 0 2)))) ∧
  (∀ (s : State) (p : Packet), s.admits Op.FUSER_SET .owner p → s.mode ≠ .dormant → p.target < 4 → onlyParams p [(0, 5)] =
    true → par p 4 1 ≤ 1 → -32768 ≤ parInt p 0 4 → parInt p 0 4 ≤ 32767 → s.setInForce (par p 4 1) = true → (s.zone
    p.target).enabled = true → exec (.fuserSet p) s = .next ((if (((finishWhere (profileCmd ((s.accept Op.FUSER_SET .owner
    p).setImm (if par p 4 1 = 0 then Fld.FZ_RUN p.target else Fld.FZ_STBY p.target) (par p 0 2)) (s.imm (Fld.FZ_SLOT
    p.target))) (fun _ => St.ABORTED_HOST) (fun _ => 0) ((s.accept Op.FUSER_SET .owner p).setImm (if par p 4 1 = 0 then
    Fld.FZ_RUN p.target else Fld.FZ_STBY p.target) (par p 0 2))).moveZone p.target).zone p.target).enabled = true then
    ((finishWhere (profileCmd ((s.accept Op.FUSER_SET .owner p).setImm (if par p 4 1 = 0 then Fld.FZ_RUN p.target else
    Fld.FZ_STBY p.target) (par p 0 2)) (s.imm (Fld.FZ_SLOT p.target))) (fun _ => St.ABORTED_HOST) (fun _ => 0) ((s.accept
    Op.FUSER_SET .owner p).setImm (if par p 4 1 = 0 then Fld.FZ_RUN p.target else Fld.FZ_STBY p.target) (par p 0
    2))).moveZone p.target).start (s.asCmd Op.FUSER_SET p) else complete (s.asCmd Op.FUSER_SET p) St.OK 0 ((finishWhere
    (profileCmd ((s.accept Op.FUSER_SET .owner p).setImm (if par p 4 1 = 0 then Fld.FZ_RUN p.target else Fld.FZ_STBY
    p.target) (par p 0 2)) (s.imm (Fld.FZ_SLOT p.target))) (fun _ => St.ABORTED_HOST) (fun _ => 0) ((s.accept Op.FUSER_SET
    .owner p).setImm (if par p 4 1 = 0 then Fld.FZ_RUN p.target else Fld.FZ_STBY p.target) (par p 0 2))).moveZone
    p.target)))) ∧
  (∀ (s : State) (p : Packet), s.admits Op.FUSER_ENABLE .owner p → p.target = 0xFFFF → onlyParams p [(0, 2)] = true → par p 0
    1 ≤ 15 → par p 1 1 = 0 → exec (.fuserEnable p) s = .next (complete (s.asCmd Op.FUSER_ENABLE p) St.OK 0 (zonesOff
    (maskList (par p 0 1) 4) (finishWhere (fun d => d.op = Op.FUSER_ENABLE && (maskList (par p 0 1) 4).any fun z => bit (par
    d.p 0 1) z) (fun _ => St.ABORTED_HOST) (fun _ => 0) (s.accept Op.FUSER_ENABLE .owner p))))) ∧
  (∀ (s : State) (p : Packet), s.admits Op.FUSER_ENABLE .owner p → p.target = 0xFFFF → onlyParams p [(0, 2)] = true → par p 0
    1 ≤ 15 → par p 1 1 = 1 → s.noRise = false → s.zoneUnslotted (par p 0 1) = false → exec (.fuserEnable p) s = .next ((if
    (((maskList (par p 0 1) 4).filter fun z => ((zonesOn (maskList (par p 0 1) 4) (finishWhere (fun d => d.op =
    Op.FUSER_ENABLE && (maskList (par p 0 1) 4).any fun z => bit (par d.p 0 1) z) (fun _ => St.ABORTED_HOST) (fun _ => 0)
    (s.accept Op.FUSER_ENABLE .owner p))).watchHold.zone z).enabled).map fun z => (zonesOn (maskList (par p 0 1) 4)
    (finishWhere (fun d => d.op = Op.FUSER_ENABLE && (maskList (par p 0 1) 4).any fun z => bit (par d.p 0 1) z) (fun _ =>
    St.ABORTED_HOST) (fun _ => 0) (s.accept Op.FUSER_ENABLE .owner p))).watchHold.imm (Fld.FZ_SLOT z)) = [] then complete
    (s.asCmd Op.FUSER_ENABLE p) St.OK 0 ((zonesOn (maskList (par p 0 1) 4) (finishWhere (fun d => d.op = Op.FUSER_ENABLE &&
    (maskList (par p 0 1) 4).any fun z => bit (par d.p 0 1) z) (fun _ => St.ABORTED_HOST) (fun _ => 0) (s.accept
    Op.FUSER_ENABLE .owner p))).watchHold) else ((zonesOn (maskList (par p 0 1) 4) (finishWhere (fun d => d.op =
    Op.FUSER_ENABLE && (maskList (par p 0 1) 4).any fun z => bit (par d.p 0 1) z) (fun _ => St.ABORTED_HOST) (fun _ => 0)
    (s.accept Op.FUSER_ENABLE .owner p))).watchHold).start
    { (s.asCmd Op.FUSER_ENABLE p) with notes := (((maskList (par p 0 1) 4).filter fun z => ((zonesOn (maskList (par p 0 1) 4) (finishWhere (fun d => d.op = Op.FUSER_ENABLE && (maskList (par p 0 1) 4).any fun z => bit (par d.p 0 1) z) (fun _ => St.ABORTED_HOST) (fun _ => 0) (s.accept Op.FUSER_ENABLE .owner p))).watchHold.zone z).enabled).map fun z => (zonesOn (maskList (par p 0 1) 4) (finishWhere (fun d => d.op = Op.FUSER_ENABLE && (maskList (par p 0 1) 4).any fun z => bit (par d.p 0 1) z) (fun _ => St.ABORTED_HOST) (fun _ => 0) (s.accept Op.FUSER_ENABLE .owner p))).watchHold.imm (Fld.FZ_SLOT z)) })))

/-- Accepted here means: State.admits holds (the device runs, the packet has its turn and nothing fences it, no change of the key
  is due, its chip may take it and the access check passes), and the packet is one of those named. AFE_CALIBRATE of kind 0
  triggers a cycle of bank 0, 1 or 2 or of all and runs on; of kind 1, for a channel whose zero may be taken, and of kind 2
  in SERVICE, for a channel that has a target, it runs on; of kind 3 in SERVICE it takes a point of thermistor 0 to 7. In
  SERVICE, on a powered station whose domain stays on, BAND_SURVEY with the polygon off, HEAD_CAL while it tracks and
  LINK_LOOPBACK with the polygon off and a head that loops back put the station to work and run on, where no such job runs
  there yet. CAPTURE in READY, PRINTING or SERVICE on such a station with no capture, of good parameters, with no sheet named
  or one in a slot whose image on the station has not started, runs on with its job entered. -/
def Obligations.ServiceJobsRun : Prop :=
  (∀ (s : State) (p : Packet), s.admits Op.AFE_CALIBRATE .owner p → par p 0 1 = 0 → (p.target < 3 ∨ p.target = 0xFFFF) →
    onlyParams p [(0, 1), (4, 4)] = true → exec (.afeCalibrate p) s = .next (triggers (if p.target = 0xFFFF then [0, 1, 2]
    else [p.target]) ((s.accept Op.AFE_CALIBRATE .owner p).start
    { (s.asCmd Op.AFE_CALIBRATE p) with notes := [(if p.target = 0xFFFF then [0, 1, 2] else [p.target]).foldl setBit 0, 0, 0] }))) ∧
  (∀ (s : State) (p : Packet), s.admits Op.AFE_CALIBRATE .owner p → par p 0 1 = 1 → p.target < 160 → (s.seen Op.AFE_CALIBRATE
    .owner p).zeroHolds p.target = true → onlyParams p [(0, 1), (4, 4)] = true → exec (.afeCalibrate p) s = .next ((s.accept
    Op.AFE_CALIBRATE .owner p).start (s.asCmd Op.AFE_CALIBRATE p))) ∧
  (∀ (s : State) (p : Packet), s.admits Op.AFE_CALIBRATE .owner p → par p 0 1 = 2 → s.mode = .service → (p.target < 120 ∨ 128
    ≤ p.target ∧ p.target < 160) → onlyParams p [(0, 1), (4, 4)] = true → exec (.afeCalibrate p) s = .next ((s.accept
    Op.AFE_CALIBRATE .owner p).start (s.asCmd Op.AFE_CALIBRATE p))) ∧
  (∀ (s : State) (p : Packet), s.admits Op.AFE_CALIBRATE .owner p → par p 0 1 = 3 → s.mode = .service → p.target < 8 →
    onlyParams p [(0, 1), (4, 4)] = true → exec (.afeCalibrate p) s = .next ((s.accept Op.AFE_CALIBRATE .owner p).thermPoint
    (s.asCmd Op.AFE_CALIBRATE p))) ∧
  (∀ (s : State) (p : Packet), s.admits Op.BAND_SURVEY .service p → s.mode = .service → p.target < 5 → (s.station
    p.target).powered = true → (s.station p.target).pending = none → (s.scan p.target).state = .off → (s.pll p.target).survey
    = false → onlyParams p [] = true → exec (.bandSurvey p) s = .next (((s.accept Op.BAND_SURVEY .service p).start (s.asCmd
    Op.BAND_SURVEY p)).setPll p.target fun q => { q with survey := true, locked := false })) ∧
  (∀ (s : State) (p : Packet), s.admits Op.HEAD_CAL .service p → s.mode = .service → p.target < 5 → (s.station
    p.target).powered = true → (s.station p.target).pending = none → (s.scan p.target).state = .track → (s.pipe
    p.target).calMask = 0 → onlyParams p [(0, 5)] = true → par p 0 5 < 2 ^ 34 → exec (.headCal p) s = .next (((s.accept
    Op.HEAD_CAL .service p).start (s.asCmd Op.HEAD_CAL p)).setPipe p.target fun q =>
    { q with calMask := emitterMask p, calSamples := [] })) ∧
  (∀ (s : State) (p : Packet), s.admits Op.LINK_LOOPBACK .service p → s.mode = .service → p.target < 5 → (s.station
    p.target).powered = true → (s.station p.target).pending = none → (s.scan p.target).state = .off → (s.link p.target).state
    ≠ .loopback → bit (s.link p.target).caps 2 = true → onlyParams p [(0, 1)] = true → par p 0 1 ≠ 0 → exec (.linkLoopback p)
    s = .next (((s.accept Op.LINK_LOOPBACK .service p).start (s.asCmd Op.LINK_LOOPBACK p)).setLink p.target fun l =>
    { l with state := .loopback, loopEnds := s.cycleOf p + ms (par p 0 1), since := s.cycleOf p })) ∧
  (∀ (s : State) (p : Packet), s.admits Op.CAPTURE .owner p → (s.mode = .ready ∨ s.mode = .printing ∨ s.mode = .service) →
    s.modes.memReady = true → p.target < 5 → (s.station p.target).powered = true → (s.station p.target).pending = none →
    s.captures.any (fun j => j.station = p.target) = false → onlyParams p [(0, 1), (4, 6), (0x0C, 16)] = true → par p 0 1 ≤ 1
    → par p 4 4 ≠ 0 → 0 < par p 8 2 → par p 8 2 ≤ 4096 → par p 0x10 8 % 64 = 0 → par p 0x18 4 % 64 = 0 → p.params.length = 48
    → par p 0x0C 4 = 0 → exec (.capture p) s = .next
    ({ (s.accept Op.CAPTURE .owner p).start (s.asCmd Op.CAPTURE p) with captures := s.captures ++ [{ station := p.target, cmd := s.arbSeq, what := par p 0 1, lanes := par p 4 4, sweeps := par p 8 2, sheetId := par p 0x0C 4, addr := par p 0x10 8, length := par p 0x18 4, started := false, done := 0, written := 0, lines := 0, dropped := 0, blocks := 0, full := false, held := [] }] })) ∧
  (∀ (s : State) (p : Packet) (i : Nat) (sh : Sheet), s.admits Op.CAPTURE .owner p → (s.mode = .ready ∨ s.mode = .printing ∨
    s.mode = .service) → s.modes.memReady = true → p.target < 5 → (s.station p.target).powered = true → (s.station
    p.target).pending = none → s.captures.any (fun j => j.station = p.target) = false → onlyParams p [(0, 1), (4, 6), (0x0C,
    16)] = true → par p 0 1 ≤ 1 → par p 4 4 ≠ 0 → 0 < par p 8 2 → par p 8 2 ≤ 4096 → par p 0x10 8 % 64 = 0 → par p 0x18 4 %
    64 = 0 → p.params.length = 48 → par p 0x0C 4 ≠ 0 → s.slotOf (par p 0x0C 4) = some i → s.sheet? i = some sh → (sh.on
    p.target).all (fun m => !m.started) = true → exec (.capture p) s = .next
    { (s.accept Op.CAPTURE .owner p).start (s.asCmd Op.CAPTURE p) with captures := s.captures ++ [{ station := p.target, cmd := s.arbSeq, what := par p 0 1, lanes := par p 4 4, sweeps := par p 8 2, sheetId := par p 0x0C 4, addr := par p 0x10 8, length := par p 0x18 4, started := false, done := 0, written := 0, lines := 0, dropped := 0, blocks := 0, full := false, held := [] }] })

/-- Accepted here means: State.admits holds (the device runs, the packet has its turn and nothing fences it, no change of the key
  is due, its chip may take it and the access check passes), and the packet is one of those named. On a powered station whose
  domain stays on, with memory initialised: PLAN_LOAD into a slot that is not busy, into slot 0 only in STANDBY or SERVICE,
  judges its image, from host memory or the plan store, fills the slot and completes OK with its RESULT, or completes
  PLAN_INVALID with what failed noted; PLAN_SWITCH with no switch waiting and both slots readable and consistent exchanges
  the plans at once and completes OK in STANDBY and SERVICE, and elsewhere waits until TUMBLER_TIMEOUT; TRIM_LOAD in STANDBY,
  READY or SERVICE, of masters that can be read, loads the emitters of its mask and completes OK with their number.
  TRIM_WRITE in those modes of good cells completes OK with their number, its emitter's master written at its cells and noted
  as changed. INIT_MEMORY in STANDBY or SERVICE, with none running and the allocation within 108 MiB, runs on. -/
def Obligations.PlanTrimCommandsRun : Prop :=
  (∀ (s : State) (p : Packet), s.admits Op.PLAN_LOAD .owner p → (par p 0 1 = 0 → s.mode = .standby ∨ s.mode = .service) →
    s.modes.memReady = true → p.target < 5 → (s.station p.target).powered = true → (s.station p.target).pending = none →
    s.slotBusy p.target (par p 0 1) = false → onlyParams p [(0, 2), (4, 8), (0x0C, 4)] = true → par p 0 1 ≤ 35 → par p 1 1 =
    0 → par p 4 8 % 4 = 0 → p.args.isSome = true → par p 0x0C 4 ≤ (argBytes p).length → exec (.planLoad p) s = .next
    ((((s.accept Op.PLAN_LOAD .owner p).loadPlan p.target (par p 0 1) ((s.accept Op.PLAN_LOAD .owner p).planImage p) (par p
    0x0C 4)).2.elim (complete (s.asCmd Op.PLAN_LOAD p) St.OK (((s.accept Op.PLAN_LOAD .owner p).loadPlan p.target (par p 0 1)
    ((s.accept Op.PLAN_LOAD .owner p).planImage p) (par p 0x0C 4)).1.loadResult p.target (readPlan ((s.accept Op.PLAN_LOAD
    .owner p).planImage p))) ((s.accept Op.PLAN_LOAD .owner p).loadPlan p.target (par p 0 1) ((s.accept Op.PLAN_LOAD .owner
    p).planImage p) (par p 0x0C 4)).1) fun f => complete (s.asCmd Op.PLAN_LOAD p) St.PLAN_INVALID 0 (((s.accept Op.PLAN_LOAD
    .owner p).loadPlan p.target (par p 0 1) ((s.accept Op.PLAN_LOAD .owner p).planImage p) (par p 0x0C 4)).1.planDiag
    p.target f.1 (par p 0 1) f.2)))) ∧
  (∀ (s : State) (p : Packet), s.admits Op.PLAN_LOAD .owner p → (par p 0 1 = 0 → s.mode = .standby ∨ s.mode = .service) →
    s.modes.memReady = true → p.target < 5 → (s.station p.target).powered = true → (s.station p.target).pending = none →
    s.slotBusy p.target (par p 0 1) = false → onlyParams p [(0, 2), (4, 8), (0x0C, 4)] = true → par p 0 1 ≤ 35 → par p 1 1 =
    1 → par p 4 8 = 0 → par p 0x0C 4 ≤ 179 → (s.accept Op.PLAN_LOAD .owner p).planImage p ≠ [] → exec (.planLoad p) s = .next
    ((((s.accept Op.PLAN_LOAD .owner p).loadPlan p.target (par p 0 1) ((s.accept Op.PLAN_LOAD .owner p).planImage p)
    (((s.accept Op.PLAN_LOAD .owner p).planImage p).length)).2.elim (complete (s.asCmd Op.PLAN_LOAD p) St.OK (((s.accept
    Op.PLAN_LOAD .owner p).loadPlan p.target (par p 0 1) ((s.accept Op.PLAN_LOAD .owner p).planImage p) (((s.accept
    Op.PLAN_LOAD .owner p).planImage p).length)).1.loadResult p.target (readPlan ((s.accept Op.PLAN_LOAD .owner p).planImage
    p))) ((s.accept Op.PLAN_LOAD .owner p).loadPlan p.target (par p 0 1) ((s.accept Op.PLAN_LOAD .owner p).planImage p)
    (((s.accept Op.PLAN_LOAD .owner p).planImage p).length)).1) fun f => complete (s.asCmd Op.PLAN_LOAD p) St.PLAN_INVALID 0
    (((s.accept Op.PLAN_LOAD .owner p).loadPlan p.target (par p 0 1) ((s.accept Op.PLAN_LOAD .owner p).planImage p)
    (((s.accept Op.PLAN_LOAD .owner p).planImage p).length)).1.planDiag p.target f.1 (par p 0 1) f.2)))) ∧
  (∀ (s : State) (p : Packet), s.admits Op.PLAN_SWITCH .owner p → s.modes.memReady = true → p.target < 5 → (s.station
    p.target).powered = true → (s.station p.target).pending = none → (s.plans p.target).switchWait = false → onlyParams p []
    = true → s.planUnreadable p.target 0 = false → s.planUnreadable p.target 1 = false → s.switchBad p.target = none →
    (s.mode = .standby ∨ s.mode = .service) → exec (.planSwitch p) s = .next (complete (s.asCmd Op.PLAN_SWITCH p) St.OK 0
    ((s.accept Op.PLAN_SWITCH .owner p).exchange p.target))) ∧
  (∀ (s : State) (p : Packet), s.admits Op.PLAN_SWITCH .owner p → s.modes.memReady = true → p.target < 5 → (s.station
    p.target).powered = true → (s.station p.target).pending = none → (s.plans p.target).switchWait = false → onlyParams p []
    = true → s.planUnreadable p.target 0 = false → s.planUnreadable p.target 1 = false → s.switchBad p.target = none → s.mode
    ≠ .standby → s.mode ≠ .service → exec (.planSwitch p) s = .next (((s.accept Op.PLAN_SWITCH .owner p).start
    { (s.asCmd Op.PLAN_SWITCH p) with notes := [s.cycleOf p + ms (s.imm Fld.TUMBLER_TIMEOUT)] }).setPlans p.target fun P =>
    { P with switchWait := true })) ∧
  (∀ (s : State) (p : Packet), s.admits Op.TRIM_LOAD .owner p → (s.mode = .standby ∨ s.mode = .ready ∨ s.mode = .service) →
    s.modes.memReady = true → p.target < 5 → (s.station p.target).powered = true → (s.station p.target).pending = none →
    onlyParams p [(0, 5)] = true → par p 0 5 < 2 ^ 34 → (maskEmitters (par p 0 5)).any (fun e => (s.failingTrim p.target
    e).any fun f => f.2 = 0xFF) = false → exec (.trimLoad p) s = .next (complete (s.asCmd Op.TRIM_LOAD p) St.OK (maskEmitters
    (par p 0 5)).length (loadTrims p.target (maskEmitters (par p 0 5)) (correctTrims p.target (maskEmitters (par p 0 5))
    (s.accept Op.TRIM_LOAD .owner p))))) ∧
  (∀ (s : State) (p : Packet), s.admits Op.TRIM_WRITE .service p → (s.mode = .standby ∨ s.mode = .ready ∨ s.mode = .service)
    → s.modes.memReady = true → p.target < 5 → onlyParams p [(0, 1), (2, 2), (4, 4), (8, 8)] = true → par p 0 1 ≤ 33 → par p
    2 2 ≤ 32767 → 0 < par p 4 4 → par p 2 2 + par p 4 4 ≤ 32768 → p.args.isSome = true → par p 4 4 ≤ (argBytes p).length →
    ((argBytes p).take (par p 4 4)).all (fun b => b.toNat < 64) = true → (s.failingTrim p.target (par p 0 1)).any (fun f =>
    f.2 = 0xFF) = false → ∃ t, exec (.trimWrite p) s = .next t ∧ (∃ u, t = complete (s.asCmd Op.TRIM_WRITE p) St.OK (par p 4
    4) u ∧ u.mem.changed = ((correctTrims p.target [par p 0 1] (s.accept Op.TRIM_WRITE .service p)).residentTrim p.target
    (par p 0 1)).mem.changed.set (34 * p.target + par p 0 1) true ∧ u.mem.master = Store.putAll zeroByte ((correctTrims
    p.target [par p 0 1] (s.accept Op.TRIM_WRITE .service p)).residentTrim p.target (par p 0 1)).mem.master (((List.range
    (par p 4 4)).map (masterBase p.target (par p 0 1) + par p 2 2 + ·)).zip ((argBytes p).take (par p 4 4))))) ∧
  (∀ (s : State) (p : Packet), s.admits Op.INIT_MEMORY .owner p → (s.mode = .standby ∨ s.mode = .service) → s.modes.initBusy
    = false → p.target = 0xFFFF → onlyParams p [] = true → s.requestedMiB.sum + 16 ≤ 108 → exec (.initMemory p) s = .next
    ({ (s.accept Op.INIT_MEMORY .owner p).start { (s.asCmd Op.INIT_MEMORY p) with notes := s.requestedMiB } with modes := { (s.accept Op.INIT_MEMORY .owner p).modes with initBusy := true } }))

/-- Accepted here means: State.admits holds (the device runs, the packet has its turn and nothing fences it, no change of the key
  is due, its chip may take it and the access check passes), and the packet is one of those named. In a mode that stores,
  with no store running and the supply high enough, on a readable flash: STORE_PROFILE begins its store into the profile it
  names or the copy its rule chooses; STORE_TRIM with memory initialised and every master readable corrects the masters and
  begins the store of the trim into the copy its rule chooses; STORE_PLAN with memory initialised and its plans readable does
  the same for the plans and the band tables of its mask; PATCH_LOAD begins its store into the region its rule chooses where
  the patch is good and no older than the fused version, and completes BAD_SIGNATURE or ROLLBACK otherwise. Where the flash
  cannot be read each of the four completes FLASH_ERROR by State.noFlash. FUSE_WRITE in SERVICE: a value the setting already
  has completes OK with the slots left and costs none; another value in its range, with a slot left and the flash readable,
  is programmed. PAIR_SYNC with a SHADOW there and no synchronisation under way completes OK at once on a SYNCED pair and
  begins one otherwise. PAIR_SWITCH on a SYNCED pair in STANDBY, READY or SERVICE runs on and stops the arbiter. -/
def Obligations.StoreCommandsRun : Prop :=
  (∀ (s : State) (p : Packet), s.admits Op.STORE_PROFILE .owner p → storeModes s.mode = true → s.nv.storing = none →
    s.supplyLow = false → p.target = 0xFFFF → onlyParams p [(0, 1)] = true → (par p 0 1 ≤ 1 ∨ par p 0 1 = 0xFF) →
    s.nv.readable = true → exec (.storeProfile p) s = .next ((s.accept Op.STORE_PROFILE .owner p).beginStore (s.asCmd
    Op.STORE_PROFILE p) (Rgn.PROFILE0 + (if par p 0 1 = 0xFF then (s.accept Op.STORE_PROFILE .owner p).storeCopy Rgn.PROFILE0
    Rgn.PROFILE1 else par p 0 1)) 0 [] fun v =>
    { v with profiles := v.profiles.set (if par p 0 1 = 0xFF then (s.accept Op.STORE_PROFILE .owner p).storeCopy Rgn.PROFILE0 Rgn.PROFILE1 else par p 0 1) (s.accept Op.STORE_PROFILE .owner p).profileWords })) ∧
  (∀ (s : State) (p : Packet), s.admits Op.STORE_TRIM .service p → storeModes s.mode = true → s.nv.storing = none →
    s.supplyLow = false → p.target = 0xFFFF → onlyParams p [] = true → s.nv.readable = true → s.modes.memReady = true →
    s.trimUnreadable = false → exec (.storeTrim p) s = .next ((correctLines ((s.accept Op.STORE_TRIM .service p).failingIn
    0x800000 0x1000000) (s.accept Op.STORE_TRIM .service p)).beginStore (s.asCmd Op.STORE_TRIM p) (Rgn.TRIM_A + (correctLines
    ((s.accept Op.STORE_TRIM .service p).failingIn 0x800000 0x1000000) (s.accept Op.STORE_TRIM .service p)).storeCopy
    Rgn.TRIM_A Rgn.TRIM_B) 0 [] fun v =>
    { v with trims := v.trims.set ((correctLines ((s.accept Op.STORE_TRIM .service p).failingIn 0x800000 0x1000000) (s.accept Op.STORE_TRIM .service p)).storeCopy Rgn.TRIM_A Rgn.TRIM_B) (correctLines ((s.accept Op.STORE_TRIM .service p).failingIn 0x800000 0x1000000) (s.accept Op.STORE_TRIM .service p)).mem.master })) ∧
  (∀ (s : State) (p : Packet), s.admits Op.STORE_PLAN .service p → storeModes s.mode = true → s.nv.storing = none →
    s.supplyLow = false → p.target = 0xFFFF → onlyParams p [(0, 1)] = true → par p 0 1 ≤ 31 → s.nv.readable = true →
    s.modes.memReady = true → s.plansUnreadable (par p 0 1) = false → exec (.storePlan p) s = .next ((s.accept Op.STORE_PLAN
    .service p).beginStore (s.asCmd Op.STORE_PLAN p) (Rgn.PLAN_A + (s.accept Op.STORE_PLAN .service p).storeCopy Rgn.PLAN_A
    Rgn.PLAN_B) 0 [] fun v =>
    { v with plans := v.plans.set ((s.accept Op.STORE_PLAN .service p).storeCopy Rgn.PLAN_A Rgn.PLAN_B) ((s.accept Op.STORE_PLAN .service p).planEntries (par p 0 1)), bands := v.bands.set ((s.accept Op.STORE_PLAN .service p).storeCopy Rgn.PLAN_A Rgn.PLAN_B) ((s.accept Op.STORE_PLAN .service p).bandEntries (par p 0 1)) })) ∧
  (∀ (s : State) (p : Packet), s.admits Op.PATCH_LOAD .owner p → storeModes s.mode = true → s.nv.storing = none → s.supplyLow
    = false → p.target = 0xFFFF → onlyParams p [(0, 8), (8, 4)] = true → par p 8 4 ≤ 2 * 1024 * 1024 - 64 → p.args.isSome =
    true → par p 8 4 ≤ (argBytes p).length → s.nv.readable = true → exec (.patchLoad p) s = .next ((if patchGood
    (patchVersion ((argBytes p).take (par p 8 4))) ((argBytes p).take (par p 8 4)) = false then complete (s.asCmd
    Op.PATCH_LOAD p) St.BAD_SIGNATURE 0 (s.accept Op.PATCH_LOAD .owner p) else if patchVersion ((argBytes p).take (par p 8
    4)) < (s.accept Op.PATCH_LOAD .owner p).acting 6 then complete (s.asCmd Op.PATCH_LOAD p) St.ROLLBACK 0 (s.accept
    Op.PATCH_LOAD .owner p) else (s.accept Op.PATCH_LOAD .owner p).beginStore (s.asCmd Op.PATCH_LOAD p) (if (s.accept
    Op.PATCH_LOAD .owner p).boot.patchValid then 1 - (s.accept Op.PATCH_LOAD .owner p).boot.patchRegion else 0) (patchVersion
    ((argBytes p).take (par p 8 4))) ((argBytes p).take (par p 8 4)) id))) ∧
  (∀ (s : State) (p : Packet), s.admits Op.STORE_PROFILE .owner p → storeModes s.mode = true → s.nv.storing = none →
    s.supplyLow = false → p.target = 0xFFFF → onlyParams p [(0, 1)] = true → (par p 0 1 ≤ 1 ∨ par p 0 1 = 0xFF) →
    s.nv.readable = false → exec (.storeProfile p) s = .next ((s.accept Op.STORE_PROFILE .owner p).noFlash (s.asCmd
    Op.STORE_PROFILE p) 2)) ∧
  (∀ (s : State) (p : Packet), s.admits Op.STORE_TRIM .service p → storeModes s.mode = true → s.nv.storing = none →
    s.supplyLow = false → p.target = 0xFFFF → onlyParams p [] = true → s.nv.readable = false → exec (.storeTrim p) s = .next
    ((s.accept Op.STORE_TRIM .service p).noFlash (s.asCmd Op.STORE_TRIM p) 4)) ∧
  (∀ (s : State) (p : Packet), s.admits Op.STORE_PLAN .service p → storeModes s.mode = true → s.nv.storing = none →
    s.supplyLow = false → p.target = 0xFFFF → onlyParams p [(0, 1)] = true → par p 0 1 ≤ 31 → s.nv.readable = false → exec
    (.storePlan p) s = .next ((s.accept Op.STORE_PLAN .service p).noFlash (s.asCmd Op.STORE_PLAN p) 3)) ∧
  (∀ (s : State) (p : Packet), s.admits Op.PATCH_LOAD .owner p → storeModes s.mode = true → s.nv.storing = none → s.supplyLow
    = false → p.target = 0xFFFF → onlyParams p [(0, 8), (8, 4)] = true → par p 8 4 ≤ 2 * 1024 * 1024 - 64 → p.args.isSome =
    true → par p 8 4 ≤ (argBytes p).length → s.nv.readable = false → exec (.patchLoad p) s = .next ((s.accept Op.PATCH_LOAD
    .owner p).noFlash (s.asCmd Op.PATCH_LOAD p) 1)) ∧
  (∀ (s : State) (p : Packet), s.admits Op.FUSE_WRITE .service p → s.mode = .service → p.target = 0xFFFF → onlyParams p ([(0,
    2), (4, 4)] ++ if par p 0 1 = 5 then [(8, 8)] else []) = true → 1 ≤ par p 0 1 → par p 0 1 ≤ 7 → (par p 0 1 = 3 ∧ par p 1
    1 ≤ 4 ∨ par p 0 1 ≠ 3 ∧ par p 1 1 = 0) → (par p 0 1 = 5 → p.args.isSome = true ∧ 32 ≤ (argBytes p).length) → ((if par p 0
    1 = 5 then par p 4 4 = 0 ∧ slice (argBytes p) 0 32 = s.keyHash s.nv.keySlots.length else par p 4 4 = s.fuseValue (par p 0
    1) (par p 1 1))) → exec (.fuseWrite p) s = .next (complete (s.asCmd Op.FUSE_WRITE p) St.OK ((s.accept Op.FUSE_WRITE
    .service p).slotsLeft (par p 0 1) (par p 1 1)) (s.accept Op.FUSE_WRITE .service p))) ∧
  (∀ (s : State) (p : Packet), s.admits Op.FUSE_WRITE .service p → s.mode = .service → p.target = 0xFFFF → onlyParams p ([(0,
    2), (4, 4)] ++ if par p 0 1 = 5 then [(8, 8)] else []) = true → 1 ≤ par p 0 1 → par p 0 1 ≤ 7 → (par p 0 1 = 3 ∧ par p 1
    1 ≤ 4 ∨ par p 0 1 ≠ 3 ∧ par p 1 1 = 0) → (par p 0 1 = 5 → p.args.isSome = true ∧ 32 ≤ (argBytes p).length) → (¬ (if par p
    0 1 = 5 then par p 4 4 = 0 ∧ slice (argBytes p) 0 32 = s.keyHash s.nv.keySlots.length else par p 4 4 = s.fuseValue (par p
    0 1) (par p 1 1))) → fuseRange (par p 0 1) (par p 4 4) = true → (par p 0 1 = 6 → s.fuseValue 6 0 ≤ par p 4 4 ∧ par p 4 4
    ≤ s.boot.patchVer) → s.slotsLeft (par p 0 1) (par p 1 1) ≠ 0 → s.nv.readable = true → exec (.fuseWrite p) s = .next
    ((s.accept Op.FUSE_WRITE .service p).fuseProgram (s.asCmd Op.FUSE_WRITE p) (par p 0 1) (par p 1 1) (par p 4 4) (slice
    (argBytes p) 0 32))) ∧
  (∀ (s : State) (p : Packet), s.admits Op.PAIR_SYNC .owner p → s.shadowThere = true → s.pair.syncing = false → p.target =
    0xFFFF → onlyParams p [] = true → exec (.pairSync p) s = .next ((if s.pair.synced = true then complete (s.asCmd
    Op.PAIR_SYNC p) St.OK 0 (s.accept Op.PAIR_SYNC .owner p) else ((s.accept Op.PAIR_SYNC .owner p).start (s.asCmd
    Op.PAIR_SYNC p)).beginSync))) ∧
  (∀ (s : State) (p : Packet), s.admits Op.PAIR_SWITCH .owner p → s.pair.synced = true → (s.mode = .standby ∨ s.mode = .ready
    ∨ s.mode = .service) → p.target = 0xFFFF → onlyParams p [] = true → exec (.pairSwitch p) s = .next
    ({ (s.accept Op.PAIR_SWITCH .owner p).start (s.asCmd Op.PAIR_SWITCH p) with pairWork := { (s.accept Op.PAIR_SWITCH .owner p).pairWork with switching := true } }))

/-- While the device is up: a doorbell within an enabled SUBMISSION queue moves its TAIL; one in the span of an enabled
  device-written queue moves its HEAD and posts what is held. A fetch of an enabled SUBMISSION queue that holds packets takes
  at most the packets there is room for, moves HEAD past them and takes them in, in their order. Writing QUEn_CTL with ENABLE
  set, by the holder of the key and not discarded, stores it, a queue that was off starting with an empty ring, and mirrors
  it; with ENABLE clear it stores and mirrors it, and where the queue was on the applies that wait for the ring land.
  COAL_TIME after the oldest waiting entry of a queue with its interrupt enabled sends the interrupt. A failed fetch of an
  enabled SUBMISSION queue and a failed write to an enabled queue in use end in QUEUE_ERROR with STAT bit 2 or 3; the loss of
  arguments, of a result and of a band index re-read act by State.loseArgs, State.loseResult and State.indexLost. -/
def Obligations.QueueRowsRun : Prop :=
  (∀ (s : State) (q : Nat) (value : Word) (tick : Nat), s.up = true → s.queueOn q = true → s.queueType q = Ty.SUBMISSION →
    value.toNat < s.queueSize q → exec (.doorbellTail q value tick) s = .next (((s.at tick).setQueue q fun Q =>
    { Q with tail := value.toNat }).rung q)) ∧
  (∀ (s : State) (q : Nat) (value : Word) (tick : Nat), s.up = true → s.queueOn q = true → s.queueType q ≠ Ty.SUBMISSION →
    s.queueType q ≠ Ty.UNUSED → s.inSpan q value.toNat = true → exec (.doorbellHead q value tick) s = .next ((((s.at
    tick).setQueue q fun Q => { Q with head := value.toNat }).rung q).flush)) ∧
  (∀ (s : State) (q : Nat) (raws : List (List Byte × Option (List Byte))) (tick : Nat), s.up = true → s.mayFetch q = true →
    exec (.packetFetch q raws tick) s = .next (intakeAll q tick (raws.take (s.fetchRoom q)) (s.queue q).head ((s.at
    tick).fetched q (raws.take (s.fetchRoom q)).length))) ∧
  (∀ (s : State) (master q : Nat) (value : Word), s.up = true → q < 32 → s.key.holder = master → s.pair.role ≠ .shadow → bit
    value.toNat 0 = true → s.acceptsWord (Reg.QUE_CTL q) value = true → exec (.queueEnable master q value) s = .next
    ((s.writeCtl q value.toNat).mirrorOn (.config (.register (Reg.QUE_CTL q) value)))) ∧
  (∀ (s : State) (master q : Nat) (value : Word), s.up = true → q < 32 → s.key.holder = master → s.pair.role ≠ .shadow →
    s.queueOn q = true → bit value.toNat 0 = false → s.acceptsWord (Reg.QUE_CTL q) value = true → exec (.queueDisable master
    q value) s = .next (((s.writeCtl q value.toNat).mirrorOn (.config (.register (Reg.QUE_CTL q) value))).landGroup
    Grp.QUE_RING q)) ∧
  (∀ (s : State) (master q : Nat) (value : Word), s.up = true → q < 32 → s.key.holder = master → s.pair.role ≠ .shadow →
    s.queueOn q = false → bit value.toNat 0 = false → s.acceptsWord (Reg.QUE_CTL q) value = true → exec (.queueDisable master
    q value) s = .next ((s.writeCtl q value.toNat).mirrorOn (.config (.register (Reg.QUE_CTL q) value)))) ∧
  (∀ (s : State) (q t : Nat), s.up = true → (s.queue q).oldest = some t → s.on (Fld.QUE_IRQ_EN q) = true → s.imm
    (Fld.QUE_COAL_TIME q) ≠ 0 → exec (.coalTimeExpiry q) s = .next (((s.at (t + us (s.imm (Fld.QUE_COAL_TIME q)))).setQueue q
    fun Q => { Q with irqCount := 0, oldest := none }).out (.msix (s.liv (Fld.QUE_VECTOR q))))) ∧
  (∀ (s : State) (q tick : Nat), s.up = true → s.queueOn q = true → s.queueType q = Ty.SUBMISSION → exec (.hostAccessError
    (.fetch q) tick) s = .next ((s.at tick).queueError q 2)) ∧
  (∀ (s : State) (q tick : Nat), s.up = true → s.queueOn q = true → s.queueType q ≠ Ty.UNUSED → exec (.hostAccessError (.post
    q) tick) s = .next ((s.at tick).queueError q 3)) ∧
  (∀ (s : State) (m t tick : Nat), s.up = true → exec (.hostAccessError (.args m t) tick) s = .next ((s.at tick).loseArgs m
    t)) ∧
  (∀ (s : State) (m t tick : Nat), s.up = true → exec (.hostAccessError (.result m t) tick) s = .next ((s.at tick).loseResult
    m t)) ∧
  (∀ (s : State) (line tick : Nat), s.up = true → exec (.hostAccessError (.index line) tick) s = .next ((s.at tick).indexLost
    line))

/-- While the device is up: a SUBMIT frame that is good hands its 64 bytes to the packet checks of master 1, and one that is not
  delivers the FRAME_ERROR completion to the port. A whole FETCH frame after its gap outputs the oldest item, which counts as
  delivered, or, where none waits, the empty payload; a repeated FETCH outputs the last one. A frame of an unknown kind
  counts in MGMT_SYNC_ERR. -/
def Obligations.MgmtRowsRun : Prop :=
  (∀ (s : State) (frame : List Byte) (whole gapOk : Bool) (args : Option (List Byte)) (tick : Nat), s.up = true → fieldAt
    frame 0 1 = 0xA5 → submitGood frame whole gapOk = true → exec (.mgmtSubmit frame whole gapOk args tick) s = .next ((s.at
    tick).submit (slice frame 2 64) args tick)) ∧
  (∀ (s : State) (frame : List Byte) (whole gapOk : Bool) (args : Option (List Byte)) (tick : Nat), s.up = true → fieldAt
    frame 0 1 = 0xA5 → submitGood frame whole gapOk = false → exec (.mgmtSubmit frame whole gapOk args tick) s = .next ((s.at
    tick).deliver (.completion ⟨0xFFFF, St.FRAME_ERROR, 0xFFFF, 0xFE, 0, 0, 0xFFFF, 0xFFFF, 0xFF, 1⟩) true false)) ∧
  (∀ (s : State) (e : Entry), s.up = true → s.mgmt.items.head? = some e → exec (.mgmtFetch false true true) s = .next ((s.out
    (.mgmt (mgmtFrame 0xC3 (mgmtPayload (some e))))).delivered e)) ∧
  (∀ (s : State), s.up = true → s.mgmt.items = [] → exec (.mgmtFetch false true true) s = .next (s.out (.mgmt (mgmtFrame 0xC3
    (mgmtPayload none))))) ∧
  (∀ (s : State), s.up = true → exec (.mgmtFetch true true true) s = .next (s.out (.mgmt (mgmtFrame 0xC3 (mgmtPayload
    s.mgmt.last))))) ∧
  (∀ (s : State) (frame : List Byte), s.up = true → unknownFrame frame = true → exec (.mgmtUnknownFrame frame) s = .next
    ({ s with mgmt := { s.mgmt with syncErrors := satAdd 0xFFFFFFFF s.mgmt.syncErrors 1 } }))

/-- While the device is up and is no SHADOW: a direct 32-bit write by the key holder of a register of BAR0 that takes it has the
  effect of its register, and a LEAD whose mirror runs mirrors it; a write of a BAR2 page is the doorbell, or the write of
  the register it aliases, or nothing, as State.bar2Write says. The row of a single register is that write at its register:
  TUMBLER_APPLY, STNn_SEG_CTL, SEG_PHASE, DCT_DATA, LOOPn_COEF_DATA, AFE_CH_DATA, STNn_EMIT_MARK, EMIT_FAIL (both words),
  PIX_RATE, SYS_MASTER_STN, SYS_KEY_CFG, SYS_BUS_CFG, SYS_PAIR_CFG, the chopper's clear, SYS_DOMAIN_CTL, DRVn_CAP_CTL and the
  three STAT_CLR. Reading a register whose low word latches keeps the snapshot that State.readSnap makes. -/
def Obligations.RegisterWritesRun : Prop :=
  (∀ (s : State) (master addr tick : Nat) (value : Word) (q : Pos), s.up = true → s.key.holder = master → s.pair.role ≠
    .shadow → addr % 4 = 0 → addr < 0x80000 → posOf addr = some q → (s.at tick).discards q (2 ^ 32 - 1) value.toNat = false →
    exec (.registerWrite master addr 4 value tick) s = .next (((s.at tick).effect q addr value.toNat).mirrorOn (.config
    (.register addr value)))) ∧
  (∀ (s : State) (master o size tick : Nat) (value : Word), s.up = true → exec (.registerWrite master (0x100000 + o) size
    value tick) s = .next ((s.at tick).bar2Write master o size value)) ∧
  (∀ (s : State) (master : Nat) (value : Word) (tick : Nat), s.up = true → s.key.holder = master → s.pair.role ≠ .shadow →
    (s.at tick).acceptsWord Reg.SYS_TUMBLER_APPLY value = true → exec (.tumblerApply master value tick) s = .next (((s.at
    tick).registerApply value.toNat).mirrorOn (.config (.register Reg.SYS_TUMBLER_APPLY value)))) ∧
  (∀ (s : State) (master station : Nat) (value : Word), s.up = true → station < 5 → s.key.holder = master → s.pair.role ≠
    .shadow → s.acceptsWord (Reg.STN_SEG_CTL station) value = true → exec (.segSwap master station value) s = .next
    ((s.writeSegCtl station value.toNat).mirrorOn (.config (.register (Reg.STN_SEG_CTL station) value)))) ∧
  (∀ (s : State) (master station : Nat) (value : Word), s.up = true → station < 5 → s.key.holder = master → s.pair.role ≠
    .shadow → s.acceptsWord (Reg.STN_SEG_PHASE station) value = true → exec (.segPhaseWrite master station value) s = .next
    ((s.writeSeg station value.toNat).mirrorOn (.config (.register (Reg.STN_SEG_PHASE station) value)))) ∧
  (∀ (s : State) (master station : Nat) (value : Word), s.up = true → station < 5 → s.key.holder = master → s.pair.role ≠
    .shadow → s.acceptsWord (Reg.STN_DCT_DATA station) value = true → exec (.dctDataWrite master station value) s = .next
    ((s.writeDct station value.toNat).mirrorOn (.config (.register (Reg.STN_DCT_DATA station) value)))) ∧
  (∀ (s : State) (master slot : Nat) (value : Word), s.up = true → slot < 24 → s.key.holder = master → s.pair.role ≠ .shadow
    → s.acceptsWord (Reg.LOOP_COEF_DATA slot) value = true → exec (.coefDataWrite master slot value) s = .next ((s.writeCoef
    slot value).mirrorOn (.config (.register (Reg.LOOP_COEF_DATA slot) value)))) ∧
  (∀ (s : State) (master : Nat) (value : Word), s.up = true → s.key.holder = master → s.pair.role ≠ .shadow → s.acceptsWord
    (Reg.AFE_CH_DATA) value = true → exec (.afeChDataWrite master value) s = .next ((s.writeChannel value.toNat).mirrorOn
    (.config (.register Reg.AFE_CH_DATA value)))) ∧
  (∀ (s : State) (master station : Nat) (value : Word), s.up = true → station < 5 → s.key.holder = master → s.pair.role ≠
    .shadow → s.acceptsWord (Reg.STN_EMIT_MARK station) value = true → exec (.emitMark master station value) s = .next
    ((s.writeMark station value.toNat).mirrorOn (.config (.register (Reg.STN_EMIT_MARK station) value)))) ∧
  (∀ (s : State) (master station : Nat) (high : Bool) (value : Word), s.up = true → station < 5 → s.key.holder = master →
    s.pair.role ≠ .shadow → s.acceptsWord (if high then Reg.STN_EMIT_FAIL_HI station else Reg.STN_EMIT_FAIL_LO station) value
    = true → exec (.emitFailClear master station high value) s = .next ((clearMarks station (if high then (maskList
    value.toNat 2).map (32 + ·) else maskList value.toNat 32) s).mirrorOn (.config (.register (if high then
    Reg.STN_EMIT_FAIL_HI station else Reg.STN_EMIT_FAIL_LO station) value)))) ∧
  (∀ (s : State) (master station : Nat) (value : Word), s.up = true → station < 5 → s.key.holder = master → s.pair.role ≠
    .shadow → s.acceptsWord (Reg.STN_PIX_RATE station) value = true → exec (.magWrite master station value) s = .next
    ((s.writeMag station value.toNat).mirrorOn (.config (.register (Reg.STN_PIX_RATE station) value)))) ∧
  (∀ (s : State) (master : Nat) (value : Word), s.up = true → s.key.holder = master → s.pair.role ≠ .shadow → s.acceptsWord
    (Reg.SYS_MASTER_STN) value = true → exec (.masterStnWrite master value) s = .next ((s.store Reg.SYS_MASTER_STN
    value.toNat).mirrorOn (.config (.register Reg.SYS_MASTER_STN value)))) ∧
  (∀ (s : State) (master : Nat) (value : Word), s.up = true → s.key.holder = master → s.pair.role ≠ .shadow → s.acceptsWord
    (Reg.SYS_KEY_CFG) value = true → exec (.keyCfgWrite master value) s = .next (((s.store Reg.SYS_KEY_CFG
    value.toNat).checkLease).mirrorOn (.config (.register Reg.SYS_KEY_CFG value)))) ∧
  (∀ (s : State) (master : Nat) (value : Word), s.up = true → s.key.holder = master → s.pair.role ≠ .shadow → s.acceptsWord
    (Reg.SYS_BUS_CFG) value = true → exec (.busCfgWrite master value) s = .next ((s.store Reg.SYS_BUS_CFG
    value.toNat).mirrorOn (.config (.register Reg.SYS_BUS_CFG value)))) ∧
  (∀ (s : State) (master : Nat) (value : Word), s.up = true → s.key.holder = master → s.pair.role ≠ .shadow → s.acceptsWord
    (Reg.SYS_PAIR_CFG) value = true → exec (.pairCfgWrite master value) s = .next ((s.store Reg.SYS_PAIR_CFG
    value.toNat).mirrorOn (.config (.register Reg.SYS_PAIR_CFG value)))) ∧
  (∀ (s : State) (master : Nat) (value : Word) (pulseI : Nat), s.up = true → s.key.holder = master → s.pair.role ≠ .shadow →
    value = 1 → exec (.chopperClear master value pulseI) s = .next ((s.clearChopper 1 pulseI).mirrorOn (.config (.register
    Reg.SYS_BUS_FLT 1)))) ∧
  (∀ (s : State) (master : Nat) (value : Word) (tick : Nat), s.up = true → s.key.holder = master → s.pair.role ≠ .shadow →
    (s.at tick).acceptsWord Reg.SYS_DOMAIN_CTL value = true → exec (.stnPowerDown master value tick) s = .next (((s.at
    tick).writeDomain value.toNat).mirrorOn (.config (.register Reg.SYS_DOMAIN_CTL value)))) ∧
  (∀ (s : State) (master : Nat) (value : Word) (tick : Nat), s.up = true → s.key.holder = master → s.pair.role ≠ .shadow →
    (s.at tick).acceptsWord Reg.SYS_DOMAIN_CTL value = true → exec (.stnPowerUp master value tick) s = .next (((s.at
    tick).writeDomain value.toNat).mirrorOn (.config (.register Reg.SYS_DOMAIN_CTL value)))) ∧
  (∀ (s : State) (master drive : Nat) (value : Word), s.up = true → drive < 12 → s.key.holder = master → s.pair.role ≠
    .shadow → s.acceptsWord (Reg.DRV_CAP_CTL drive) value = true → exec (.capArm master drive value) s = .next
    ((s.writeCapture drive value.toNat).mirrorOn (.config (.register (Reg.DRV_CAP_CTL drive) value)))) ∧
  (∀ (s : State) (master station : Nat) (value : Word), s.up = true → station < 5 → s.key.holder = master → s.pair.role ≠
    .shadow → s.acceptsWord (Reg.STN_STAT_CLR station) value = true → exec (.stnStatClr master station value) s = .next
    ((s.clearStnStats station value.toNat).mirrorOn (.config (.register (Reg.STN_STAT_CLR station) value)))) ∧
  (∀ (s : State) (master drive : Nat) (value : Word), s.up = true → drive < 12 → s.key.holder = master → s.pair.role ≠
    .shadow → s.acceptsWord (Reg.DRV_STAT_CLR drive) value = true → exec (.drvStatClr master drive value) s = .next
    ((s.clearDrvStats drive value.toNat).mirrorOn (.config (.register (Reg.DRV_STAT_CLR drive) value)))) ∧
  (∀ (s : State) (master : Nat) (value : Word), s.up = true → s.key.holder = master → s.pair.role ≠ .shadow → s.acceptsWord
    (Reg.AFE_STAT_CLR) value = true → exec (.afeStatClr master value) s = .next ((s.clearAfeStats value.toNat).mirrorOn
    (.config (.register Reg.AFE_STAT_CLR value)))) ∧
  (∀ (s : State) (master addr a : Nat), s.up = true → readAddr addr = some a → exec (.lowWordRead master addr) s = .next
    { s with snaps := (s.readSnap master s.snaps a).2 })

/-- While the device is up: at a boundary of a group instance that is no station group, or whose station does not sweep, the
  applies that wait for it land; on a chip that is no SHADOW the oldest waiting apply of a group other than 0 ends with
  TUMBLER_TIMEOUT at its deadline, and with group 0 the PLAN_SWITCH waiting on the station does at the time it noted; the
  banks of a station that does not sweep swap. -/
def Obligations.TumblerRowsRun : Prop :=
  (∀ (s : State) (group inst tick : Nat), s.up = true → (isStationGroup group = false ∨ (s.scan inst).state = .off) → exec
    (.tumblerLand group inst tick) s = .next ((s.at tick).landGroup group inst)) ∧
  (∀ (s : State) (group inst : Nat) (a : Apply), s.up = true → s.pair.role ≠ .shadow → group ≠ 0 → s.firstApply group inst =
    some a → exec (.tumblerTimeout group inst) s = .next ((s.at a.deadline).endApply a St.TUMBLER_TIMEOUT)) ∧
  (∀ (s : State) (inst : Nat) (c : Cmd), s.up = true → s.pair.role ≠ .shadow → s.running.find? (switchOf inst) = some c →
    exec (.tumblerTimeout 0 inst) s = .next ((s.at (c.notes.headD 0)).endSwitch inst St.TUMBLER_TIMEOUT)) ∧
  (∀ (s : State) (station : Nat), s.up = true → (s.scan station).state = .off → exec (.segSwapLand station) s = .next
    (s.swapBanks station))

/-- While the device is up: a station that is drained and whose power-down is pending goes off; 10 ms after the power-down was
  asked for the lists and commands that still wait on the station end with ABORTED_POWER and it goes off all the same; a
  station that STN_ON names and that is off comes back fresh with its link in training. -/
def Obligations.DomainRowsRun : Prop :=
  (∀ (s : State) (station : Nat), s.up = true → (s.station station).pending.isSome = true → s.drained station = true → exec
    (.stnDomainOff station) s = .next (s.powerOff station)) ∧
  (∀ (s : State) (station t : Nat), s.up = true → (s.station station).pending = some t → exec (.powerWaitExpiry station) s =
    .next ((finishWhere (targetsStation station) (fun _ => St.ABORTED_POWER) (fun _ => 0) (stopLists St.ABORTED_POWER true
    ((s.at (t + ms 10)).waitingOn station) (s.at (t + ms 10))).1).powerOff station)) ∧
  (∀ (s : State) (station : Nat), s.up = true → bit (s.imm Fld.STN_ON) station = true → (s.station station).powered = false →
    exec (.stnDomainOn station) s = .next (((s.dropStation station).setStation station fun st => st.fresh true).train
    station))

/-- While the device is up: a reset of a function that is not in reset puts its bit into BUSY, has the effect of its function,
  and a wait of SETTLE_HOLD that this breaks starts again; for MOTION and HV, outside PRINTING, and in PRINTING with FORCE,
  where the machine then safe-stops with FORCED_RESET; for a station, where it is powered. When a reset is over its bit
  leaves BUSY, what follows it starts, and every FUNCTION_RESET that waits for nothing more completes OK. -/
def Obligations.ResetRowsRun : Prop :=
  (∀ (s : State) (tick : Nat), s.up = true → s.inReset Fn.HOSTQ = false → exec (.hostqReset tick) s = .next ((((s.at
    tick).enterReset Fn.HOSTQ).resetEffect Fn.HOSTQ).watchHold)) ∧
  (∀ (s : State) (tick : Nat), s.up = true → s.inReset Fn.DMA = false → exec (.dmaReset tick) s = .next ((((s.at
    tick).enterReset Fn.DMA).resetEffect Fn.DMA).watchHold)) ∧
  (∀ (s : State) (tick : Nat), s.up = true → s.inReset Fn.DECOMP = false → exec (.decompReset tick) s = .next ((((s.at
    tick).enterReset Fn.DECOMP).resetEffect Fn.DECOMP).watchHold)) ∧
  (∀ (s : State) (tick : Nat), s.up = true → s.inReset Fn.LOOPS = false → exec (.loopsReset tick) s = .next ((((s.at
    tick).enterReset Fn.LOOPS).resetEffect Fn.LOOPS).watchHold)) ∧
  (∀ (s : State) (tick : Nat), s.up = true → s.inReset Fn.FUSER = false → exec (.fuserReset tick) s = .next ((((s.at
    tick).enterReset Fn.FUSER).resetEffect Fn.FUSER).watchHold)) ∧
  (∀ (s : State) (tick : Nat), s.up = true → s.inReset Fn.AFE = false → exec (.afeReset tick) s = .next ((((s.at
    tick).enterReset Fn.AFE).resetEffect Fn.AFE).watchHold)) ∧
  (∀ (s : State) (tick : Nat), s.up = true → s.inReset Fn.NVSTORE = false → exec (.nvstoreReset tick) s = .next ((((s.at
    tick).enterReset Fn.NVSTORE).resetEffect Fn.NVSTORE).watchHold)) ∧
  (∀ (s : State) (tick : Nat), s.up = true → s.inReset Fn.PAIRLINK = false → exec (.pairlinkReset tick) s = .next ((((s.at
    tick).enterReset Fn.PAIRLINK).resetEffect Fn.PAIRLINK).watchHold)) ∧
  (∀ (s : State) (station tick : Nat), s.up = true → station < 5 → (s.station station).powered = true → s.inReset (Fn.STATION
    + station) = false → exec (.stationReset station tick) s = .next ((((s.at tick).enterReset (Fn.STATION +
    station)).beginStationReset station).watchHold)) ∧
  (∀ (s : State) (force : Bool) (tick : Nat), s.up = true → s.inReset Fn.MOTION = false → s.mode ≠ .printing → s.needsForce
    force Fn.MOTION = false → exec (.motionReset force tick) s = .next ((((s.at tick).enterReset Fn.MOTION).resetEffect
    Fn.MOTION).watchHold)) ∧
  (∀ (s : State) (force : Bool) (tick : Nat), s.up = true → s.inReset Fn.MOTION = false → s.mode = .printing → force = true →
    exec (.motionReset force tick) s = .next (((((s.at tick).enterReset Fn.MOTION).resetEffect Fn.MOTION).watchHold).halt
    Halt.FORCED_RESET)) ∧
  (∀ (s : State) (force : Bool) (tick : Nat), s.up = true → s.inReset Fn.HV = false → s.mode ≠ .printing → s.needsForce force
    Fn.HV = false → exec (.hvReset force tick) s = .next ((((s.at tick).enterReset Fn.HV).resetEffect Fn.HV).watchHold)) ∧
  (∀ (s : State) (force : Bool) (tick : Nat), s.up = true → s.inReset Fn.HV = false → s.mode = .printing → force = true →
    exec (.hvReset force tick) s = .next (((((s.at tick).enterReset Fn.HV).resetEffect Fn.HV).watchHold).halt
    Halt.FORCED_RESET)) ∧
  (∀ (s : State) (function : Nat), s.up = true → s.inReset function = true → exec (.functionResetDone function) s = .next
    (let u := State.afterReset
       { s.at (s.resets.started.getD function 0 + resetTicks function) with resets := { s.resets with busy := clrBit s.resets.busy function } }
       function; finishWhere (fun c => c.op = Op.FUNCTION_RESET && c.notes = [0]) (fun _ => St.OK) (fun _ => 0)
       { u with running := u.running.map fun c => if c.op = Op.FUNCTION_RESET then { c with notes := c.notes.map fun m => clrBit m function } else c }))

/-- While the device is up: a claim window that closes with claims grants the key at the next epoch, unlapsed and without service
  access, to its claim where it holds one, and closes the window without claims; a lease that lapses leaves holder and epoch,
  marks the key lapsed and drops service access; a live challenge is void 60 s after it was drawn; a lock-out ends at its
  time. -/
def Obligations.KeyTimersRun : Prop :=
  (∀ (s : State), s.up = true → s.key.windowOpen = true → s.key.claims ≠ [] → ∃ t, exec (.claimWindowClose) s = .next t ∧
    t.key.windowOpen = false ∧ t.key.claims = [] ∧ t.key.epoch = nextEpoch s.key.epoch ∧ t.key.lapsed = false ∧ t.key.service
    = false) ∧
  (∀ (s : State) (k : Claim), s.up = true → s.key.windowOpen = true → s.key.claims = [k] → ∃ t, exec .claimWindowClose s =
    .next t ∧ t.key.holder = k.master) ∧
  (∀ (s : State), s.up = true → s.key.holder ≠ 3 → s.key.lapsed = false → ∃ t, exec (.keyLapse) s = .next t ∧ t.key.lapsed =
    true ∧ t.key.holder = s.key.holder ∧ t.key.epoch = s.key.epoch ∧ t.key.service = false) ∧
  (∀ (s : State), s.up = true → s.cred.live = true → exec (.challengeExpiry) s = .next
    ({ s.at (s.cred.drawn + sec 60) with cred := { s.cred with live := false } })) ∧
  (∀ (s : State) (t : Nat), s.up = true → s.cred.lockout = some t → exec .credentialLockoutEnd s = .next
    { s.at t with cred := { s.cred with lockout := none } })

/-- While the device is up: on a chip that is no SHADOW a drain with no stop under way and no sheet past acceptance begins the
  orderly stop, and with the mechanics at rest an orderly stop ends and a READY request that waits for it is taken up; a
  safe-stop ends when the mechanics are at rest, and at the latest SAFE_STOP_MAX (in 100 ms) after it began. -/
def Obligations.StopRowsRun : Prop :=
  (∀ (s : State) (tick : Nat), s.up = true → s.pair.role ≠ .shadow → s.modes.draining = true → s.modes.stopping = .none →
    s.pathEmpty = true → exec (.orderlyStop tick) s = .next ((s.at tick).beginOrderly)) ∧
  (∀ (s : State) (tick : Nat), s.up = true → s.pair.role ≠ .shadow → s.modes.stopping = .orderly → s.mechanicsAtRest = true →
    exec (.orderlyStopRest tick) s = .next ((s.at tick).endOrderly.readyAfterStop)) ∧
  (∀ (s : State) (tick : Nat), s.up = true → (s.modes.stopping = .safe ∨ s.modes.stopping = .bridgesOff) → s.mechanicsAtRest
    = true → exec (.safeStopRest tick) s = .next ((s.at tick).endSafeStop)) ∧
  (∀ (s : State), s.up = true → (s.modes.stopping = .safe ∨ s.modes.stopping = .bridgesOff) → exec (.safeStopMaxExpiry) s =
    .next ((s.at (s.modes.stopStart + ms (100 * s.imm Fld.SAFE_STOP_MAX))).endSafeStop))

/-- While the device is up, in WARMING with no stop under way: a step other than the load that is reported done advances WARMING;
  on a chip that is no SHADOW SETTLE_HOLD after the last step enters READY where every step still holds, and WARM_MAX after
  entry safe-stops with WARM_TIMEOUT; the load reads the stations, is noted as done and advances WARMING. In any mode a
  running INIT_MEMORY that is done makes memory ready with the sizes it noted and the overlays out of date; a copy of
  overlays in initialised memory is noted. -/
def Obligations.WarmRowsRun : Prop :=
  (∀ (s : State) (step : WarmStep) (tick : Nat), s.up = true → s.mode = .warming → s.modes.stopping = .none → step ≠ .load →
    exec (.warmingStepDone step tick) s = .next ((s.at tick).advance step)) ∧
  (∀ (s : State) (t : Nat), s.up = true → s.pair.role ≠ .shadow → s.mode = .warming → s.modes.stopping = .none →
    s.modes.allHeld = some t → warmSteps.all (s.at (t + ms (s.imm Fld.SETTLE_HOLD))).stepHolds = true → exec
    .settleHoldExpiry s = .next (s.at (t + ms (s.imm Fld.SETTLE_HOLD))).enterReady) ∧
  (∀ (s : State), s.up = true → s.pair.role ≠ .shadow → s.mode = .warming → s.modes.stopping = .none → exec (.warmMaxExpiry)
    s = .next ((s.at (s.modes.warmStart + sec (s.imm Fld.WARM_MAX))).halt Halt.WARM_TIMEOUT)) ∧
  (∀ (s : State), s.up = true → s.mode = .warming → s.modes.stopping = .none → s.modes.warmDone.contains .load = false → exec
    (.loadDone) s = .next ((State.afterStep
    { loadStations allStations s with modes := { (loadStations allStations s).modes with warmDone := (loadStations allStations s).modes.warmDone ++ [WarmStep.load] } }
    .load).advance .load)) ∧
  (∀ (s : State) (c : Cmd), s.up = true → s.running.find? (fun c => c.op = Op.INIT_MEMORY) = some c → ∃ t, exec
    .initMemoryDone s = .next t ∧ t.modes.memReady = true ∧ t.modes.initBusy = false ∧ t.modes.overlays = false ∧
    t.feed.winMiB = c.notes.take 5 ∧ t.feed.scratchMiB = c.notes.getD 5 0) ∧
  (∀ (s : State), s.up = true → s.modes.memReady = true → exec (.overlayCopyDone) s = .next
    ({ s with modes := { s.modes with overlays := true } }))

/-- RESETn low for 10 µs or more clears the machine and holds it; its release with the supply on starts the boot with the time
  base at 0 and the straps captured; while the device is up and not yet in RUN the boot ends in RUN at 35 ms or later, as
  SHADOW where a paired chip is fenced or finds a LEAD; a paired chip in RUN without a role is SHADOW at the end of its
  election time where the Deadbolt fences it and LEAD otherwise; a wake source in DORMANT, with RESETn and the supply high,
  starts the wake, and 3 ms later memory is powered, its registers are back and STANDBY is entered with the links in training
  and the safety inputs latched. -/
def Obligations.BootRowsRun : Prop :=
  (∀ (s : State) (lowTicks : Nat), us 10 ≤ lowTicks → exec (.resetnAssert lowTicks) s = .next
    ({ s.cleared with pins := { s.pins with resetn := false } })) ∧
  (∀ (s : State) (pairRole pairPresent : Bool), s.pins.resetn = false → s.supply.on = true → exec (.resetnRelease pairRole
    pairPresent) s = .next (State.bootPhases
    { s with pins := { s.pins with resetn := true, extest := false }, now := 0, boot := { s.boot with strap := pairRole, present := pairPresent } })) ∧
  (∀ (s : State), s.up = true → s.boot.phase < 5 → exec (.bootRun) s = .next
    (let u := State.at (if s.boot.phase = 0 then s.bootPhases else s) (ms 35);
       let v := { u with boot := { u.boot with phase := 5, released := u.now } }; if v.pair.paired = true ∧ (v.pair.dboltIn =
         true ∨ v.pair.peerRole = 1) then v.becomeShadow else v)) ∧
  (∀ (s : State), s.up = true → s.pair.paired = true → s.boot.phase = 5 → s.pair.role = .unpaired → exec (.electionTimeout) s
    = .next (if s.pair.dboltIn then (s.at (s.boot.released + ms (if s.boot.strap then 40 else 20))).becomeShadow else (s.at
    (s.boot.released + ms (if s.boot.strap then 40 else 20))).becomeLead)) ∧
  (∀ (s : State) (source : WakeSource), s.pins.resetn = true → s.supply.on = true → s.mode = .dormant → exec (.wake source) s
    = .next ({ s with modes := { s.modes with waking := true }, pins := { s.pins with wake := source = .pin } })) ∧
  (∀ (s : State), s.mode = .dormant → s.modes.waking = true → exec .wakeDone s = .next (trainAll allStations (State.enter
    { s.at (s.now + ms 3) with regs := Store.putAll resetWord s.regs s.supply.aonCopy, supply := { s.supply with memPower := true, aonCopy := [] }, modes := { s.modes with waking := false, stopping := .none, draining := false } }
    .standby)).latchInputs)

/-- VIN rising to the start level with the supply off clears the machine, the supply is on, and with RESETn high the boot starts;
  loss of the supply clears the machine with the supply and the bus off, whatever the state. While the device is up: with the
  telemetry link up a first brownout warning counts, latches BROWNOUT, sheds load and raises its event; VIN at 36.8 V or more
  after a warning ends it and the shedding; a telemetry sample with VBUS below OV2 is taken and judged, and with the link
  down only the gate of the chopper follows VBUS; with RESETn low the gate follows the fixed levels. The loss of the link
  leaves it down with HVDIE_LINK latched; its return is noted; CHOP_DETECT after the gate was turned on the chopper is
  judged. -/
def Obligations.SupplyRowsRun : Prop :=
  (∀ (s : State) (vin : Nat), s.supply.on = false → 360 ≤ vin → s.pins.resetn = true → exec (.vinRise vin) s = .next
    (State.bootPhases { s.cleared with supply := { Supply.reset with vin := vin % 4096 } })) ∧
  (∀ (s : State) (vin : Nat), s.supply.on = false → 360 ≤ vin → s.pins.resetn = false → exec (.vinRise vin) s = .next
    ({ s.cleared with supply := { Supply.reset with vin := vin % 4096 } })) ∧
  (∀ (s : State) (vin tick : Nat), s.up = true → s.supply.warning = false → s.bus.linkUp = true → exec (.brownoutWarning vin
    tick) s = .next (((State.halt
    { s.at tick with supply := { s.supply with vin := vin % 4096, warning := true, warnings := satAdd 0xFFFF s.supply.warnings 1 } }
    Halt.BROWNOUT).shedAll).raise Ev.BROWNOUT_WARNING 0xFF 0xFF (leBytes 2 (vin % 4096)))) ∧
  (∀ (s : State), exec (.brownoutOff) s = .next
    ({ s.cleared with supply := { Supply.reset with on := false, vin := s.supply.vin }, bus := .reset })) ∧
  (∀ (s : State) (vin : Nat), s.up = true → s.supply.warning = true → 368 ≤ vin → exec (.brownoutRecovery vin) s = .next
    ({ s with supply := { s.supply with vin := vin % 4096, warning := false }, feed := { s.feed with shedLoad := false } })) ∧
  (∀ (s : State) (vin vbus brkI v5 : Nat) (temp : Int) (tick : Nat), s.up = true → s.pins.resetn = true → s.bus.linkUp = true
    → vbus < 10 * s.imm Fld.OV2 → ∃ t, exec (.telemetrySample vin vbus brkI v5 temp tick) s = .next t ∧ t.supply.vin = vin ∧
    t.supply.v5 = v5 ∧ t.supply.temp = temp ∧ t.bus.vbus = vbus ∧ t.bus.brkI = brkI ∧ t.now = max s.now tick) ∧
  (∀ (s : State) (vin vbus brkI v5 : Nat) (temp : Int) (tick : Nat), s.up = true → s.pins.resetn = true → s.bus.linkUp =
    false → exec (.telemetrySample vin vbus brkI v5 temp tick) s = .next ((s.at tick).chopperGate vbus)) ∧
  (∀ (s : State) (vin vbus brkI v5 : Nat) (temp : Int) (tick : Nat), s.pins.resetn = false → exec (.telemetrySample vin vbus
    brkI v5 temp tick) s = .next (s.setGate (s.resetGate vbus) vbus)) ∧
  (∀ (s : State) (tick : Nat), s.up = true → s.bus.linkUp = true → ∃ t, exec (.hvdieLinkLost tick) s = .next t ∧ t.bus.linkUp
    = false ∧ t.latched Halt.HVDIE_LINK = true) ∧
  (∀ (s : State) (tick : Nat), s.up = true → s.bus.linkUp = false → exec (.hvdieLinkUp tick) s = .next (State.judgeRegen
    { s.at tick with bus := { s.bus with linkUp := true, linkSince := (s.at tick).now } })) ∧
  (∀ (s : State), s.up = true → exec (.chopDetectExpiry) s = .next ((s.at (s.bus.gateAt + us (10 * s.imm
    Fld.CHOP_DETECT))).judgeChopper))

/-- While the device is up, whatever the mode, the interlock opening and the over-temperature input asserting latch INTERLOCK and
  OVERTEMP and leave their levels asserted. Their closing and release, whatever the state, only take the levels back, with
  the chopper gate held by what is left. -/
def Obligations.SafetyRowsRun : Prop :=
  (∀ (s : State) (tick : Nat), s.up = true → s.safety.interlock = false → ∃ t, exec (.interlockOpen tick) s = .next t ∧
    t.safety.interlock = true ∧ t.latched Halt.INTERLOCK = true) ∧
  (∀ (s : State), exec (.interlockClosed) s = .next (State.holdBrk
    { s with safety := { s.safety with interlock := false } })) ∧
  (∀ (s : State) (tick : Nat), s.up = true → s.safety.overtemp = false → ∃ t, exec (.overtempTrip tick) s = .next t ∧
    t.safety.overtemp = true ∧ t.latched Halt.OVERTEMP = true) ∧
  (∀ (s : State), exec (.overtempRelease) s = .next ({ s with safety := { s.safety with overtemp := false } }))

/-- On a chip that is up and no SHADOW, the sheets projected to the tick: a due pick gate that passes with no pick waiting for
  the shadow is traced and, on a LEAD that is not SYNCED, picks its sheet, while a SYNCED LEAD mirrors it and waits; one that
  fails is traced and postponed. A due Hinge gate that passes is traced and ready for the next line start; at that line
  start, with no stop under way and no mirrored Hinge unconfirmed, the sheet passes the Hinge. PICK_WAIT_MAX after the head
  began to starve marks FEED_STARVED as raised. REG_HOLD_MAX of a registered sheet whose gate has failed and is not ready,
  with the path running, acts as its rule says. -/
def Obligations.GateRowsRun : Prop :=
  (∀ (s : State) (slot tick : Nat), s.up = true → s.pair.role ≠ .shadow → (s.at tick).project.pickDue slot = true → (s.at
    tick).project.pickPasses slot = true → (s.at tick).project.sheets.pickWait = none → (s.at tick).project.syncedLead =
    false → exec (.pickGate slot tick) s = .next (((s.at tick).project.traceGate slot 0 true).pick slot)) ∧
  (∀ (s : State) (slot tick : Nat), s.up = true → s.pair.role ≠ .shadow → (s.at tick).project.pickDue slot = true → (s.at
    tick).project.pickPasses slot = true → (s.at tick).project.sheets.pickWait = none → (s.at tick).project.syncedLead = true
    → ∃ t, exec (.pickGate slot tick) s = .next t ∧ t =
    (let u := ((s.at tick).project.traceGate slot 0 true).sendMirror (.journal (.gate slot 0));
       { u with sheets := { u.sheets with pickWait := some (slot, u.pair.msgSent) } })) ∧
  (∀ (s : State) (slot tick : Nat), s.up = true → s.pair.role ≠ .shadow → (s.at tick).project.pickDue slot = true → (s.at
    tick).project.pickPasses slot = false → exec (.pickGate slot tick) s = .next ((s.at tick).project.pickFails slot)) ∧
  (∀ (s : State) (t slot : Nat), s.up = true → s.pair.role ≠ .shadow → s.sheets.starved = some t → s.head = some slot →
    s.sheets.starvedUp = false → ∃ u, exec .pickWaitMaxExpiry s = .next u ∧ u.sheets.starvedUp = true ∧ u.now = max s.now (t
    + ms (s.imm Fld.PICK_WAIT_MAX))) ∧
  (∀ (s : State) (slot tick : Nat), s.up = true → s.pair.role ≠ .shadow → (s.at tick).project.hingeDue slot = true → (s.at
    tick).project.hingePasses slot = true → exec (.hingeGate slot tick) s = .next (((s.at tick).project.traceGate slot 1
    true).hingeGranted slot)) ∧
  (∀ (s : State) (slot tick : Nat), s.up = true → s.pair.role ≠ .shadow → s.sheets.hingeReady = some slot → s.modes.stopping
    = .none → s.sheets.hingeMsg.any s.unconfirmed = false → exec (.hinge slot tick) s = .next ((s.at tick).passHinge slot)) ∧
  (∀ (s : State) (slot : Nat) (sh : Sheet), s.up = true → s.pair.role ≠ .shadow → s.sheet? slot = some sh → sh.state =
    .registered → sh.gateFail.isSome = true → s.sheets.hingeReady ≠ some slot → s.pathStopped = false → exec
    (.regHoldMaxExpiry slot) s = .next ((s.at (sh.registered + s.regHold sh)).regTimeout slot))

/-- While the device is up: a lead edge on a clear sensor covers it and homes the axes that seek it; outside SERVICE it then goes
  to the sheet that awaits it, stamped in steps of 100 ns, and with none and the path running at a watched sensor it is a jam
  of kind 2. A trail edge on a covered sensor clears it and outside SERVICE goes to the sheet it belongs to. A jam window
  that closes without its lead edge, and TRAIL_MAX without a trail edge, declare a jam of kind 1 and 3 of a sheet whose
  windows run. A path step that is due, first of its sheet and ready, on a path that is not stopped, is noted as fired, and
  on an enabled axis with room in its queue its move joins that queue. -/
def Obligations.PathRowsRun : Prop :=
  (∀ (s : State) (sensor tick : Nat), s.up = true → s.path.level.getD sensor false = false → (homeEdge sensor (stamp100 tick)
    (List.range 24) ((s.at tick).setLevel sensor true)).mode = .service → exec (.sensorLeadEdge sensor tick) s = .next
    ((homeEdge sensor (stamp100 tick) (List.range 24) ((s.at tick).setLevel sensor true)))) ∧
  (∀ (s : State) (sensor tick i : Nat), s.up = true → s.path.level.getD sensor false = false → (homeEdge sensor (stamp100
    tick) (List.range 24) ((s.at tick).setLevel sensor true)).mode ≠ .service → (homeEdge sensor (stamp100 tick) (List.range
    24) ((s.at tick).setLevel sensor true)).leadOwner sensor (stamp100 tick) = some i → exec (.sensorLeadEdge sensor tick) s
    = .next ((homeEdge sensor (stamp100 tick) (List.range 24) ((s.at tick).setLevel sensor true)).leadEdge i sensor (stamp100
    tick))) ∧
  (∀ (s : State) (sensor tick : Nat), s.up = true → s.path.level.getD sensor false = false → (homeEdge sensor (stamp100 tick)
    (List.range 24) ((s.at tick).setLevel sensor true)).mode ≠ .service → (homeEdge sensor (stamp100 tick) (List.range 24)
    ((s.at tick).setLevel sensor true)).leadOwner sensor (stamp100 tick) = none → (homeEdge sensor (stamp100 tick)
    (List.range 24) ((s.at tick).setLevel sensor true)).watched sensor = true → (homeEdge sensor (stamp100 tick) (List.range
    24) ((s.at tick).setLevel sensor true)).pathStopped = false → exec (.sensorLeadEdge sensor tick) s = .next ((homeEdge
    sensor (stamp100 tick) (List.range 24) ((s.at tick).setLevel sensor true)).jam sensor 2 none)) ∧
  (∀ (s : State) (sensor tick : Nat), s.up = true → s.path.level.getD sensor false = true → s.mode = .service → exec
    (.sensorTrailEdge sensor tick) s = .next ((s.at tick).setLevel sensor false)) ∧
  (∀ (s : State) (sensor tick i : Nat), s.up = true → s.path.level.getD sensor false = true → s.mode ≠ .service → ((s.at
    tick).setLevel sensor false).trailOwner sensor = some i → exec (.sensorTrailEdge sensor tick) s = .next (((s.at
    tick).setLevel sensor false).trailEdge i sensor (stamp100 tick))) ∧
  (∀ (s : State) (slot sensor c : Nat) (sh : Sheet) (k : Track), s.up = true → s.onPath slot = some sh → sh.track sensor =
    some k → k.centre sh = some c → s.windowsRun = true → sh.everPicked = true → k.windowed sh = true → k.lead = none → exec
    (.jamWindowClose slot sensor) s = .next ((s.at (c + k.jam)).jam sensor 1 (some slot))) ∧
  (∀ (s : State) (slot sensor t : Nat) (sh : Sheet) (k : Track), s.up = true → s.onPath slot = some sh → sh.track sensor =
    some k → k.lead = some t → s.windowsRun = true → k.windowed sh = true → k.trail = none → (k.role = 3 → sh.pastHinge =
    true) → exec (.trailMaxExpiry slot sensor) s = .next ((s.at ((if k.role = 3 then sh.tHinge else t) + k.trailMax)).jam
    sensor 3 (some slot))) ∧
  (∀ (s : State) (slot step : Nat) (sh : Sheet) (x : StepTrack) (e : Nat × Int), s.up = true → s.onPath slot = some sh →
    sh.steps.find? (fun x => x.step = step) = some x → x.event = some e → s.pathStopped = false → x.fired = false →
    s.stepReady x = true → sh.firstOf x = true → s.livOn (Fld.AXS_EN x.axis) = true → x.axis < 24 → (s.axis x.axis).queueFull
    = false → exec (.pathStepFire slot step) s = .next (((s.at (x.due.getD s.now)).setOnPath slot fun sh =>
    { sh with steps := sh.steps.map fun y => if y.step = step then { y with fired := true } else y }).enqueueMove x.axis
    (x.move e.2)))

/-- While the device is up, on a station that sweeps: an edge of the polarity BD_EDGE selects, at least 20 ns wide and no echo of
  the last one, advances the tracking, the sweep and the drums where the window is open and has not closed by then, and
  elsewhere only counts as spurious; a SPURIOUS_EDGE row outside the window that is no echo only counts; a window that closes
  without an edge is a missing sweep at its closing time; SYNC_WINDOW_OPEN opens the window at its time and lights the laser
  where it may; LINE_START and END_OF_ACTIVE_SCAN run the line of the station at their times. PREDICTED_SWEEP runs the sweep
  of a powered station that does not sweep while its link is down, its PLL unlocked or it is in reset. -/
def Obligations.ScanRowsRun : Prop :=
  (∀ (s : State) (station tick raw : Nat) (falling : Bool) (width : Nat), s.up = true → (((s.at tick).turnPll station).scan
    station).state ≠ .off → falling = ((s.at tick).turnPll station).livOn (Fld.STN_BD_EDGE station) → 20 ≤ width → ((s.at
    tick).turnPll station).sameEdge station ((((s.at tick).turnPll station).pll station).stamp raw) = false → (((s.at
    tick).turnPll station).scan station).window = true → ((s.at tick).turnPll station).pastWindow station = false → ∃ t, exec
    (.bdEdge station tick raw falling width) s = .next t ∧ t =
    (let u := State.setScan ((((s.at tick).turnPll station).weighWindow station).syncOff station) station fun c =>
       { c with window := false, lastSeen := some ((((s.at tick).turnPll station).pll station).stamp raw) }; (((u.stepEdge
       station ((((s.at tick).turnPll station).pll station).stamp raw)).sweep station tick).alignLine station).startDrums
       station (s.scan station).state)) ∧
  (∀ (s : State) (station tick raw : Nat) (falling : Bool) (width : Nat), s.up = true → (((s.at tick).turnPll station).scan
    station).state ≠ .off → falling = ((s.at tick).turnPll station).livOn (Fld.STN_BD_EDGE station) → 20 ≤ width → ((s.at
    tick).turnPll station).sameEdge station ((((s.at tick).turnPll station).pll station).stamp raw) = false → ((((s.at
    tick).turnPll station).scan station).window = false ∨ ((s.at tick).turnPll station).pastWindow station = true) → exec
    (.bdEdge station tick raw falling width) s = .next (((s.at tick).turnPll station).spuriousEdge station ((((s.at
    tick).turnPll station).pll station).stamp raw))) ∧
  (∀ (s : State) (station raw : Nat), s.up = true → (s.scan station).window = false → s.sameEdge station ((s.turned
    station).stamp raw) = false → exec (.spuriousEdge station raw) s = .next (s.spuriousEdge station ((s.turned
    station).stamp raw))) ∧
  (∀ (s : State) (station : Nat), s.up = true → (s.scan station).state ≠ .off → (s.scan station).window = true → ∃ t, exec
    (.missingSweep station) s = .next t ∧ t =
    (let v := (s.at (s.closeDue station)).weighWindow station; ((v.stepMissing station).sweep station ((s.scan
       station).edgeTick + (v.fineTicks station (v.nextGap station + (s.scan station).slew)).toNat)).alignLine station)) ∧
  (∀ (s : State) (station : Nat), s.up = true → (s.scan station).state ≠ .off → (s.scan station).window = false → ∃ t, exec
    (.syncWindowOpen station) s = .next t ∧ t =
    (let u := (s.at (s.openDue station)).setScan station fun c =>
       { c with window := true, windowAt := (s.at (s.openDue station)).now }; if u.laserMay station = true then u.setLink
       station fun l => { l with laserEn := true } else u)) ∧
  (∀ (s : State) (station : Nat) (badWords : List Nat), s.up = true → (s.scan station).state ≠ .off → exec (.lineStart
    station badWords) s = .next ((s.at (s.lineDue station)).lineStart station badWords)) ∧
  (∀ (s : State) (station : Nat) (badWords : List Nat), s.up = true → (s.scan station).state ≠ .off → exec (.endOfActiveScan
    station badWords) s = .next ((s.at (s.scanEnd station (s.scan station).lineTick)).endScan station badWords)) ∧
  (∀ (s : State) (station tick : Nat), s.up = true → (s.station station).powered = true → (s.scan station).state = .off →
    s.sweepMode = true → ((s.link station).state ≠ .up ∨ (s.pll station).locked = false ∨ bit s.resets.busy (Fn.STATION +
    station) = true) → exec (.predictedSweep station tick) s = .next ((s.at tick).predictedSweep station))

/-- While the device is up: a PLL that tries a band that holds locks by RELOCK_MAX with its control voltage, ends the applies
  that waited for it OK and lets the station resume; phases or a count that show an unlock of a locked PLL with no survey
  turn the laser off, count, start the next lock, raise PLL_UNLOCK and reset the station; RELOCK_MAX without lock latches
  PLL_UNLOCK the first time and starts again, and for a PLL that does not lock ends the applies that wait for it at their
  deadline; a survey that is done leaves the PLL enabled and locking with the die temperature noted. With no sheet imaging,
  step 1 of a speed-changing failover becomes step 2 at the same N; with every station of the run tracking, step 2 ends with
  the new RUN_N. -/
def Obligations.ClockRowsRun : Prop :=
  (∀ (s : State) (station vctl tick : Nat), s.up = true → s.locking station = true → (s.pll station).trying = true →
    s.bandHolds station = true → tick ≤ s.lockDue station → exec (.pllLock station vctl tick) s = .next (((((s.at
    tick).setPll station fun p =>
    { p with locked := true, relocking := false, halted := false, vctl := vctl % 1024 }).countDots station).endLocks station
    St.OK).resume station)) ∧
  (∀ (s : State) (station : Nat) (phases : List Nat) (count : Option Nat) (tick : Nat), s.up = true → s.findsUnlock station
    phases count = true → exec (.pllUnlock station phases count tick) s = .next (((((((s.at tick).turnPll station).laserOff
    station).setPll station fun p => { p with relocking := true, unlocks := satAdd 0xFFFF p.unlocks 1 }).startLock
    station).raise Ev.PLL_UNLOCK station 0xFF []).beginStationReset station)) ∧
  (∀ (s : State) (station : Nat), s.up = true → station < s.stations.length → s.locking station = true → (s.pll
    station).halted = false → ∃ t, exec (.relockMaxExpiry station) s = .next t ∧ (t.pll station).halted = true ∧ t.latched
    Halt.PLL_UNLOCK = true) ∧
  (∀ (s : State) (station : Nat) (a : Apply), s.up = true → s.locking station = false → s.tumbler.waiting.find?
    (State.waitsLock station) = some a → exec (.relockMaxExpiry station) s = .next ((s.at a.deadline).endLocks station
    St.LOCK_FAILED)) ∧
  (∀ (s : State) (station : Nat) (bands : List (Nat × Nat)) (tick : Nat), s.up = true → station < s.stations.length → (s.pll
    station).survey = true → ∃ t, exec (.bandSurveyDone station bands tick) s = .next t ∧ (t.pll station).survey = false ∧
    (t.pll station).enabled = true ∧ (t.pll station).locked = false ∧ (t.station station).surveyTj = s.afe.tj) ∧
  (∀ (s : State) (tick : Nat), s.up = true → s.run.slowStep = 1 → s.noneImaging = true → ∃ t, exec (.speedChangeHold tick) s
    = .next t ∧ t.run.slowStep = 2 ∧ t.run.slowN = s.run.slowN) ∧
  (∀ (s : State) (tick : Nat), s.up = true → s.run.slowStep = 2 → s.runStations.all (fun n => (s.scan n).tracking) = true → ∃
    t, exec (.speedChangeResume tick) s = .next t ∧ t.run.runN = s.run.slowN ∧ t.run.slowStep = 0)

/-- While the device is up: on a chip that is no SHADOW, T0 ends after 10 µs in T1 and the lanes carry the training stream; a
  training step that takes too long waits, and 1 ms later trains again. Of a powered station whose link is not DOWN, a HELLO
  with a good CRC is noted with its fields and takes T1 to T2, where TRAIN_DONE leaves; READY takes T2 to UP and counts the
  training; RETRAIN and a head fault lose the link, the fault counted; a LOOP_RESULT after the loopback has run ends it with
  its count; each of these with a bad CRC counts in RET_ERRORS and does nothing else. A return lane silent for RET_TIMEOUT,
  and one that loses its alignment, lose the link. A loopback runs to its end, and 1 ms later with no result ends with an
  open one. -/
def Obligations.LinkRowsRun : Prop :=
  (∀ (s : State) (station : Nat), s.up = true → s.pair.role ≠ .shadow → (s.link station).state = .t0 → exec (.trainingT0End
    station) s = .next (((s.at ((s.link station).since + us 10)).setLink station fun l =>
    { l with state := .t1, since := (s.at ((s.link station).since + us 10)).now, blocksAt := (s.at ((s.link station).since + us 10)).now }).out
    (.beam station (s.at ((s.link station).since + us 10)).now .training))) ∧
  (∀ (s : State) (station d : Nat), s.up = true → stepLimit (s.link station).state = some d → exec (.trainingStepTimeout
    station) s = .next ((s.at ((s.link station).since + d)).setLink station fun l =>
    { l with state := .wait, since := (s.at ((s.link station).since + d)).now })) ∧
  (∀ (s : State) (station : Nat), s.up = true → (s.link station).state = .wait → exec (.trainingRetry station) s = .next
    ((s.at ((s.link station).since + ms 1)).train station)) ∧
  (∀ (s : State) (station vendor model fw emitters caps : Nat) (tick : Nat), s.up = true → s.hears station → (s.link
    station).state = .t1 → exec (.hello station vendor model fw emitters caps (headCrc 0x01 (leBytes 2 vendor ++ leBytes 2
    model ++ leBytes 2 fw ++ leBytes 1 emitters ++ leBytes 1 caps)) tick) s = .next
    ((let u := s.heard station tick; (u.setLink station fun l =>
        { l with retLocked := true, helloSeen := true, vendor := vendor % 65536, model := model % 65536, fw := fw % 65536, emitters := emitters % 64, caps := caps % 8, state := .t2, since := u.now }).out
        (.beam station u.now .trainDone)))) ∧
  (∀ (s : State) (station vendor model fw emitters caps : Nat) (crc tick : Nat), s.up = true → s.hears station → crc ≠
    headCrc 0x01 (leBytes 2 vendor ++ leBytes 2 model ++ leBytes 2 fw ++ leBytes 1 emitters ++ leBytes 1 caps) → exec (.hello
    station vendor model fw emitters caps crc tick) s = .next (s.misheard station tick)) ∧
  (∀ (s : State) (station : Nat) (tick : Nat), s.up = true → s.hears station → (s.link station).state = .t2 → exec (.readyMsg
    station (headCrc 0x02 []) tick) s = .next (((s.heard station tick).setLink station fun l =>
    { l with state := .up, trainings := satAdd 0xFFFF l.trainings 1, since := (s.at tick).now, upAt := (s.at tick).now }).resume
    station)) ∧
  (∀ (s : State) (station : Nat) (crc tick : Nat), s.up = true → s.hears station → crc ≠ headCrc 0x02 [] → exec (.readyMsg
    station crc tick) s = .next (s.misheard station tick)) ∧
  (∀ (s : State) (station reason : Nat) (tick : Nat), s.up = true → s.hears station → exec (.retrain station reason (headCrc
    0x03 (leBytes 1 reason)) tick) s = .next ((s.heard station tick).linkLost station 0 2 (reason % 256))) ∧
  (∀ (s : State) (station reason : Nat) (crc tick : Nat), s.up = true → s.hears station → crc ≠ headCrc 0x03 (leBytes 1
    reason) → exec (.retrain station reason crc tick) s = .next (s.misheard station tick)) ∧
  (∀ (s : State) (station cause : Nat) (tick : Nat), s.up = true → s.hears station → exec (.headFault station cause (headCrc
    0x21 (leBytes 1 cause)) tick) s = .next (((s.heard station tick).setLink station fun l =>
    { l with headFaults := satAdd 0xFFFF l.headFaults 1 }).linkLost station 0 3 (cause % 256))) ∧
  (∀ (s : State) (station cause : Nat) (crc tick : Nat), s.up = true → s.hears station → crc ≠ headCrc 0x21 (leBytes 1 cause)
    → exec (.headFault station cause crc tick) s = .next (s.misheard station tick)) ∧
  (∀ (s : State) (station e0 e1 e2 e3 : Nat) (tick : Nat), s.up = true → s.hears station → (s.link station).state = .loopback
    → (s.link station).loopEnds = 0 → exec (.loopResult station e0 e1 e2 e3 (headCrc 0x30 (leBytes 4 e0 ++ leBytes 4 e1 ++
    leBytes 4 e2 ++ leBytes 4 e3)) tick) s = .next ((s.heard station tick).endLoopback station (loopErrors [e0, e1, e2,
    e3]))) ∧
  (∀ (s : State) (station e0 e1 e2 e3 : Nat) (crc tick : Nat), s.up = true → s.hears station → crc ≠ headCrc 0x30 (leBytes 4
    e0 ++ leBytes 4 e1 ++ leBytes 4 e2 ++ leBytes 4 e3) → exec (.loopResult station e0 e1 e2 e3 crc tick) s = .next
    (s.misheard station tick)) ∧
  (∀ (s : State) (station tick : Nat), s.up = true → (s.link station).lastMsg + us (s.imm (Fld.STN_RET_TIMEOUT station)) ≤
    tick → exec (.retTimeout station tick) s = .next ((s.at tick).linkLost station 0x10 1 0)) ∧
  (∀ (s : State) (station tick : Nat), s.up = true → (s.link station).retLocked = true → exec (.retAlignLost station tick) s
    = .next (((s.at tick).setLink station fun l => { l with retLocked := false }).linkLost station 0x10 0 0)) ∧
  (∀ (s : State) (station : Nat), s.up = true → (s.link station).state = .loopback → (s.link station).loopEnds ≠ 0 → exec
    (.loopbackDurationEnd station) s = .next ((s.at (s.link station).loopEnds).setLink station fun l =>
    { l with loopEnds := 0, since := (s.at (s.link station).loopEnds).now })) ∧
  (∀ (s : State) (station : Nat), s.up = true → (s.link station).state = .loopback → (s.link station).loopEnds = 0 → exec
    (.loopResultTimeout station) s = .next (State.endLoopback (s.at ((s.link station).since + ms 1)).drawNat.2 station (s.at
    ((s.link station).since + ms 1)).drawNat.1))

/-- While the device is up, of a powered station whose link is not DOWN and with a good CRC: STATUS is noted; on an UP link an
  APC sample of an emitter is its newest, with its sweep; an emitter fault of kind 1 or 2 marks the emitter in its sweep; a
  segment error of reason 3 counts the segments it names; each of them with a bad CRC counts in RET_ERRORS and does nothing
  else. A duty sub-window of a powered station is judged, with what was to leave sent and the limits written taken over.
  HEAD_CAL with 8 samples of each of its emitters sets their targets and completes OK; a capture that is full or done leaves
  and completes with its RESULT. -/
def Obligations.HeadRowsRun : Prop :=
  (∀ (s : State) (station : Nat) (temp : Int) (flags seq : Nat) (tick : Nat), s.up = true → s.hears station → exec
    (.statusMsg station temp flags seq (headCrc 0x20 (leInt 1 temp ++ leBytes 1 flags ++ leBytes 2 seq)) tick) s = .next
    ((s.heard station tick).setLink station fun l => { l with temp := temp, flags := flags % 8 })) ∧
  (∀ (s : State) (station : Nat) (temp : Int) (flags seq : Nat) (crc tick : Nat), s.up = true → s.hears station → crc ≠
    headCrc 0x20 (leInt 1 temp ++ leBytes 1 flags ++ leBytes 2 seq) → exec (.statusMsg station temp flags seq crc tick) s =
    .next (s.misheard station tick)) ∧
  (∀ (s : State) (station sweep emitter sample : Nat) (tick : Nat), s.up = true → s.hears station → station <
    s.stations.length → emitter < (s.pipe station).emitters.length → (s.link station).state = .up → emitter < 34 → ∃ t, exec
    (.apcSample station sweep emitter sample (headCrc 0x10 (leBytes 2 sweep ++ leBytes 1 emitter ++ leBytes 1 0 ++ leBytes 2
    sample)) tick) s = .next t ∧ ((t.pipe station).emitters.getD emitter .reset).sample = sample % 4096 ∧ ((t.pipe
    station).emitters.getD emitter .reset).fresh = true ∧ ((t.pipe station).emitters.getD emitter .reset).smpSweep =
    sweepFrom (s.scan station).sweeps sweep 65536) ∧
  (∀ (s : State) (station sweep emitter sample : Nat) (crc tick : Nat), s.up = true → s.hears station → crc ≠ headCrc 0x10
    (leBytes 2 sweep ++ leBytes 1 emitter ++ leBytes 1 0 ++ leBytes 2 sample) → exec (.apcSample station sweep emitter sample
    crc tick) s = .next (s.misheard station tick)) ∧
  (∀ (s : State) (station emitter kind sweep : Nat) (tick : Nat), s.up = true → s.hears station → (s.link station).state =
    .up → emitter < 34 → (kind = 1 ∨ kind = 2) → exec (.emitterFault station emitter kind sweep (headCrc 0x11 (leBytes 1
    emitter ++ leBytes 1 kind ++ leBytes 4 sweep)) tick) s = .next ((s.heard station tick).mark station emitter kind
    (sweepFrom (s.scan station).sweeps sweep (2 ^ 32)))) ∧
  (∀ (s : State) (station emitter kind sweep : Nat) (crc tick : Nat), s.up = true → s.hears station → crc ≠ headCrc 0x11
    (leBytes 1 emitter ++ leBytes 1 kind ++ leBytes 4 sweep) → exec (.emitterFault station emitter kind sweep crc tick) s =
    .next (s.misheard station tick)) ∧
  (∀ (s : State) (station sweep mask reason : Nat) (tick : Nat), s.up = true → s.hears station → (s.link station).state = .up
    → reason = 3 → exec (.segError station sweep mask reason (headCrc 0x12 (leBytes 4 sweep ++ leBytes 4 mask ++ leBytes 1
    reason)) tick) s = .next (((s.heard station tick).sendNow station).setLink station fun l =>
    { l with segErrors := satAdd 0xFFFF l.segErrors (max 1 (maskList mask 32).length) })) ∧
  (∀ (s : State) (station sweep mask reason : Nat) (crc tick : Nat), s.up = true → s.hears station → crc ≠ headCrc 0x12
    (leBytes 4 sweep ++ leBytes 4 mask ++ leBytes 1 reason) → exec (.segError station sweep mask reason crc tick) s = .next
    (s.misheard station tick)) ∧
  (∀ (s : State) (station : Nat) (head : Bool) (cycles tick : Nat), s.up = true → (s.station station).powered = true → exec
    (.dutySubwindowEnd station head cycles tick) s = .next
    (let u := (s.at tick).sendNow station; if head = true then (u.headWindow station cycles).setPipe station fun p =>
       { p with dutyHead := (u.reg (Reg.STN_DUTY_CFG station)).toNat } else (emitterWindows station cycles (List.range 34)
       u).setPipe station fun p => { p with dutyCfg := (u.reg (Reg.STN_DUTY_CFG station)).toNat })) ∧
  (∀ (s : State) (station : Nat), s.up = true → (s.pipe station).calMask ≠ 0 → (s.calEmitters station).all (fun e =>
    (s.calSum station e).length = 8) = true → exec (.headCalDone station) s = .next ((finishWhere (fun c => c.op =
    Op.HEAD_CAL && c.p.target = station) (fun _ => St.OK) (fun _ => (s.calEmitters station).length) ((setTargets station
    (s.calEmitters station) s).setPipe station fun p => { p with calMask := 0, calSamples := [] })).calDone 0x11 station)) ∧
  (∀ (s : State) (station : Nat) (j : CaptureJob), s.up = true → s.captures.find? (fun j => j.station = station && (j.full ||
    j.sweeps ≤ j.done)) = some j → exec (.captureDone station) s = .next (finish j.cmd (if j.full then St.NO_SPACE else
    St.OK) (j.lines + 2 ^ 16 * j.dropped) (State.out { s with captures := s.captures.filter fun x => x.station ≠ station }
    .flushRead)))

/-- While the device is up: on a chip that is no SHADOW, with memory initialised, no load shed and DECOMP not in reset, the next
  block in deadline order that an engine takes is dispatched to it. An engine that times out on a band gives its block back
  and takes a strike. The verdict of an engine on a band in its slot whose bytes are still there ends the job, is traced, and
  decodes the band or counts as a failed block; a re-decode whose bytes are gone asks for the block again. On a chip that is
  no SHADOW the next waiting band in deadline order is asked for, for the first time or again, when the ring has room for it.
  -/
def Obligations.FeedRowsRun : Prop :=
  (∀ (s : State) (tick : Nat), s.up = true → s.pair.role ≠ .shadow → s.modes.memReady = true → s.feed.shedLoad = false →
    s.inReset Fn.DECOMP = false → (s.at tick).nextJob.isSome = true → ∃ t, exec (.blockDispatch tick) s = .next t ∧ some t =
    (s.at tick).nextJob.map fun x => (s.at tick).dispatch x.1.1.1 x.1.1.2.1 x.1.1.2.2 x.2 x.1.2) ∧
  (∀ (s : State) (engine i j : Nat), s.up = true → (s.engine engine).job = some (i, j) → exec (.engineTimeout engine) s =
    .next ((((s.at ((s.engine engine).since + us ((s.engine engine).limit Fld.ENGINE_TIMEOUT))).traceEngine engine 1 3 i
    j).giveBack engine).strike engine)) ∧
  (∀ (s : State) (engine tick i j : Nat) (fault : Option Bool) (sh : Sheet) (b : Band) (orig : List Byte), s.up = true →
    (s.engine engine).job = some (i, j) → s.sheet? i = some sh → s.band? i j = some b → ((s.engine engine).redo = false ∨
    b.block ≠ []) → engineVerdict b (s.lineDots b.station) fault = .ok orig → exec (.engineVerdict engine fault tick) s =
    .next ((((s.at tick).setEngine engine fun E => { E with job := none, redo := false }).traceEngine engine 1 (Verdict.code
    (.ok orig)) i j).decodedOk i j sh b orig (s.engine engine).redo)) ∧
  (∀ (s : State) (engine tick i j : Nat) (fault : Option Bool) (sh : Sheet) (b : Band) (v : Verdict), s.up = true → (s.engine
    engine).job = some (i, j) → s.sheet? i = some sh → s.band? i j = some b → ((s.engine engine).redo = false ∨ b.block ≠ [])
    → engineVerdict b (s.lineDots b.station) fault = v → (v = .badCrc ∨ v = .malformed) → exec (.engineVerdict engine fault
    tick) s = .next ((((s.at tick).setEngine engine fun E => { E with job := none, redo := false }).traceEngine engine 1
    v.code i j).failedBlock engine i j v.code b ((readHeader b.block).dots ≠ s.lineDots b.station) (s.engine engine).redo)) ∧
  (∀ (s : State) (engine tick i j : Nat) (fault : Option Bool) (sh : Sheet) (b : Band), s.up = true → (s.engine engine).job =
    some (i, j) → s.sheet? i = some sh → s.band? i j = some b → (s.engine engine).redo = true → b.block = [] → exec
    (.engineVerdict engine fault tick) s = .next (((s.at tick).setEngine engine fun E =>
    { E with job := none, redo := false }).askAgain i j St.UNINIT_OR_CORRUPT)) ∧
  (∀ (s : State) (tick : Nat) (x : Int × Nat × Nat) (xs : List (Int × Nat × Nat)) (b : Band), s.up = true → s.pair.role ≠
    .shadow → (s.at tick).inOrder (fun b => b.state = .waiting) = x :: xs → (s.at tick).band? x.2.1 x.2.2 = some b → (s.at
    tick).ringRoom b.space = true → exec (.dataRequestPost tick) s = .next
    (match b.again with
       | none => (s.at tick).postRequest x.2.1 x.2.2 0 0
       | some st => (s.at tick).postRequest x.2.1 x.2.2 1 (if st = St.OK then 0 else st)))

/-- While the device is up: a descriptor fetched for a channel with a list and no current one becomes the current one, and a bad
  one ends with its status; read while the channels are held, it only counts as unexpected. Of a current staging descriptor
  that is not stale and has no band, with the channels running, the first line names its band where it agrees with the open
  one at its offset. Staged bytes are committed to the band of the oldest landing, or of the current descriptor where nothing
  lands. With the channels running a descriptor that is done moves its bytes into or out of scratch memory and ends, and a
  staging one that may end ends OK. An error on a channel stops the channels while they run, counts in BUS_ERRORS for a write
  while they are stopped, and counts as unexpected for a read while they are held; a completion time-out of a channel with a
  list is a bus error; channels that are not stopped run again once drained. -/
def Obligations.DmaRowsRun : Prop :=
  (∀ (s : State) (channel : Nat) (raw : List Byte) (l : DmaList) (ls : List DmaList), s.up = true → s.dmaHeld = false →
    (s.channel channel).lists = l :: ls → s.dmaRuns = true → (s.channel channel).cur = none → exec (.descriptorFetch channel
    raw) s = .next
    (match ((s.setChannel channel fun C => { C with cur := some (readDesc raw), curAddr := l.next }).setList channel fun l =>
       { l with seen := l.seen + 1 }).badDesc raw with
       | some st => (((s.setChannel channel fun C => { C with cur := some (readDesc raw), curAddr := l.next }).setList
         channel fun l => { l with seen := l.seen + 1 }).setChannel channel fun C =>
         { C with err := setBit C.err 1 }).endDesc channel st
       | none => ((s.setChannel channel fun C => { C with cur := some (readDesc raw), curAddr := l.next }).setList channel
         fun l => { l with seen := l.seen + 1 }))) ∧
  (∀ (s : State) (channel : Nat) (raw : List Byte), s.up = true → s.dmaHeld = true → exec (.descriptorFetch channel raw) s =
    .next (s.unexpected)) ∧
  (∀ (s : State) (channel : Nat) (line : List Byte) (tick i j : Nat) (d : Desc) (sh : Sheet) (b : Band), s.up = true →
    s.dmaRuns = true → (s.channel channel).cur = some d → d.region = 0 → d.stale = false → d.target = none → (s.at
    tick).openAt d.ofs = some (i, j) → (s.at tick).sheet? i = some sh → (s.at tick).band? i j = some b → namesOther line sh b
    = false → (s.at tick).headerGood d sh b line = true → exec (.stagingFirstLine channel line tick) s = .next ((((s.at
    tick).setChannel channel fun C =>
    { C with cur := some { d with target := some (i, j), req := b.reqSeq, line := line } }).overStaged d.ofs
    b.space).overLines (((((s.at tick).setChannel channel fun C =>
    { C with cur := some { d with target := some (i, j), req := b.reqSeq, line := line } }).overStaged d.ofs
    b.space).stagingBase + d.ofs) / 64) (b.space / 64))) ∧
  (∀ (s : State) (channel : Nat) (block : List Byte) (tick : Nat) (l : Landing) (ls : List Landing), s.up = true → (s.channel
    channel).landing = l :: ls → exec (.bandStaged channel block tick) s = .next (((s.at tick).setChannel channel fun C =>
    { C with landing := ls }).commitBand l.slot l.idx l.req l.line block)) ∧
  (∀ (s : State) (channel : Nat) (block : List Byte) (tick i j : Nat) (d : Desc), s.up = true → (s.channel channel).landing =
    [] → (s.channel channel).cur = some d → d.target = some (i, j) → d.staged = false → exec (.bandStaged channel block tick)
    s = .next (((s.at tick).setChannel channel fun C => { C with cur := some { d with staged := true } }).commitBand i j
    d.req d.line block)) ∧
  (∀ (s : State) (channel : Nat) (data : List Byte) (tick : Nat) (d : Desc), s.up = true → s.dmaRuns = true → (s.channel
    channel).cur = some d → d.region = 0 → (d.stale = true ∨ d.target.isSome = true ∧ (d.staged = true ∨ d.barrier = false))
    → exec (.descriptorDone channel data tick) s = .next (((s.at tick).moved channel d.length).endDesc channel St.OK)) ∧
  (∀ (s : State) (channel : Nat) (data : List Byte) (tick : Nat) (d : Desc), s.up = true → s.dmaRuns = true → (s.channel
    channel).cur = some d → d.region ≠ 0 → d.dir = 0 → exec (.descriptorDone channel data tick) s = .next ((((s.at
    tick).scratchWrite d.ofs (slice data 0 d.length)).moved channel d.length).endDesc channel St.OK)) ∧
  (∀ (s : State) (channel : Nat) (data : List Byte) (tick : Nat) (d : Desc), s.up = true → s.dmaRuns = true → (s.channel
    channel).cur = some d → d.region ≠ 0 → d.dir ≠ 0 → exec (.descriptorDone channel data tick) s = .next (((s.at
    tick).sendAll channel d).endDesc channel ((s.at tick).sentStatus d))) ∧
  (∀ (s : State) (channel : Nat) (write : Bool) (tick : Nat), s.up = true → channel < 16 → s.dmaHeld = false → exec
    (.dmaBusError channel write tick) s = .next ((s.at tick).busError)) ∧
  (∀ (s : State) (channel : Nat) (write : Bool) (tick : Nat), s.up = true → channel < 16 → s.dmaHeld = true → write = false →
    exec (.dmaBusError channel write tick) s = .next (s.unexpected)) ∧
  (∀ (s : State) (channel : Nat) (write : Bool) (tick : Nat), s.up = true → channel < 16 → s.dma.stopped = true → write =
    true → exec (.dmaBusError channel write tick) s = .next
    ({ s with dma := { s.dma with busErrors := satAdd 0xFFFF s.dma.busErrors 1 } })) ∧
  (∀ (s : State) (channel : Nat), s.up = true → s.dmaHeld = false → (s.channel channel).lists ≠ [] → exec (.completionTimeout
    channel) s = .next (s.busError)) ∧
  (∀ (s : State), s.up = true → s.dma.stopped = false → exec (.dmaChannelsRestart) s = .next
    ({ s with dma := { s.dma with draining := false } }))

/-- While the device is up: a line of initialised memory whose stored check is not the CRC-16 of its 64 bytes and its number
  fails where a reader reads it, a failing read of an engine first ending its re-decode; with a matching check the row
  changes nothing. A corrected line goes back to its readers. With memory initialised, no load shed and SCRUB_PERIOD not 0, a
  scrub step judges the line at the position, moves on by one line and counts a pass after the last. -/
def Obligations.MemoryRowsRun : Prop :=
  (∀ (s : State) (line : Nat) (data : List Byte) (check : Nat) (reader : MemReader) (tick : Nat), s.up = true →
    s.modes.memReady = true → line < bufferLines → (crcT10 (data ++ leBytes 4 line)).toNat ≠ check → s.reads reader = true →
    ∃ t, exec (.memCheckFail line data check reader tick) s = .next t ∧ t =
    (let u :=
       match reader with
         | .engine e => (s.at tick).redoFails e
         | _ => s.at tick; u.lineFails line (u.readerDeadline reader))) ∧
  (∀ (s : State) (line : Nat) (data : List Byte) (check : Nat) (reader : MemReader) (tick : Nat), s.up = true → (crcT10 (data
    ++ leBytes 4 line)).toNat = check → exec (.memCheckFail line data check reader tick) s = .next (s)) ∧
  (∀ (s : State) (line tick : Nat), s.up = true → exec (.lineCorrected line tick) s = .next ((s.at tick).correctLine line)) ∧
  (∀ (s : State) (data : List Byte) (check : Nat), s.up = true → s.modes.memReady = true → s.feed.shedLoad = false → s.imm
    Fld.SCRUB_PERIOD ≠ 0 → exec (.scrubStep data check) s = .next
    (let u := if (crcT10 (data ++ leBytes 4 s.mem.position)).toNat = check then s else s.lineFails s.mem.position s.now;
       { u with mem := { u.mem with position := if s.mem.position + 1 = bufferLines then 0 else s.mem.position + 1, passes := if s.mem.position + 1 = bufferLines then satAdd 0x7FF u.mem.passes 1 else u.mem.passes } }))

/-- While the device is up: a PWM period of an enabled drive with neither AFE nor MOTION in reset takes the readings and
  commutates, and trips on over-current or runs the demand, the current loops and the times of the drive. An implausible
  observer trips a running drive that is slow and takes a fast one into FALLBACK. A zero crossing is collected in LISTEN; a
  first one that stays out in FALLBACK counts as missed and a second trips. An encoder that has agreed for 64 ms is trusted
  again; a phase low for 256 periods trips. LISTEN that has seen its crossings or lasted 20 ms, with no brake waiting, aligns
  a rotor at rest. The alignment ends after ALIGN_MS in the start, or at once in RUN with an encoder. A start that has not
  handed over rests once and trips the second time; it is tried again after 500 ms. A pending start listens once its rotor is
  slow or turns forward. A speed move that has arrived and a stop that has reached its end complete their commands, as does a
  flux brake 100 ms after rest. -/
def Obligations.DriveRowsRun : Prop :=
  (∀ (s : State) (drive : Nat) (inp : DriveInput) (tick : Nat), s.up = true → ((s.at tick).landGroup Grp.DRV_MOTOR
    drive).livOn (Fld.DRV_EN drive) = true → bit ((s.at tick).landGroup Grp.DRV_MOTOR drive).resets.busy Fn.AFE = false → bit
    ((s.at tick).landGroup Grp.DRV_MOTOR drive).resets.busy Fn.MOTION = false → ((((s.at tick).landGroup Grp.DRV_MOTOR
    drive).driveReadings drive inp).commutate drive).overcurrent drive inp = false → exec (.drivePwmPeriod drive inp tick) s
    = .next
    (let u := ((((((s.at tick).landGroup Grp.DRV_MOTOR drive).driveReadings drive inp).commutate drive).handOver
       drive).regenStep drive).driveDemand drive;
       let v := u.currentLoops drive ((((((((s.at tick).landGroup Grp.DRV_MOTOR drive).driveReadings drive inp).commutate
         drive).handOver drive).regenStep drive).driveDemand drive).controlAngle drive inp); (v.driveTimes drive
         inp).traceDrive drive)) ∧
  (∀ (s : State) (drive : Nat) (inp : DriveInput) (tick : Nat), s.up = true → ((s.at tick).landGroup Grp.DRV_MOTOR
    drive).livOn (Fld.DRV_EN drive) = true → bit ((s.at tick).landGroup Grp.DRV_MOTOR drive).resets.busy Fn.AFE = false → bit
    ((s.at tick).landGroup Grp.DRV_MOTOR drive).resets.busy Fn.MOTION = false → ((((s.at tick).landGroup Grp.DRV_MOTOR
    drive).driveReadings drive inp).commutate drive).overcurrent drive inp = true → exec (.drivePwmPeriod drive inp tick) s =
    .next (((((s.at tick).landGroup Grp.DRV_MOTOR drive).driveReadings drive inp).commutate drive).trip drive 2)) ∧
  (∀ (s : State) (drive tick : Nat), s.up = true → ((s.at tick).drive drive).running = true → (s.at tick).implausible drive =
    true → (s.at tick).fast drive = true → ((s.at tick).drive drive).state ≠ .fallback → exec (.observerImplausible drive
    tick) s = .next ((s.at tick).setDrive drive fun D =>
    { D with state := .fallback, fwActive := false, agree := 0, missed := 0, zcTimes := [(s.at tick).now], sixStep := (s.at tick).sectorOf drive, stepAt := none, fallbacks := satAdd 0xFFFF D.fallbacks 1 })) ∧
  (∀ (s : State) (drive tick : Nat), s.up = true → ((s.at tick).drive drive).running = true → (s.at tick).implausible drive =
    true → (s.at tick).fast drive = false → exec (.observerImplausible drive tick) s = .next ((s.at tick).trip drive 1)) ∧
  (∀ (s : State) (drive angle tick : Nat), s.up = true → (s.drive drive).state = .listen → exec (.bemfZeroCross drive angle
    tick) s = .next ((s.at tick).setDrive drive fun D => { D with zcTimes := D.zcTimes ++ [tick] })) ∧
  (∀ (s : State) (drive tick : Nat), s.up = true → (s.drive drive).state = .fallback → 3 * s.zcInterval drive * ((s.drive
    drive).missed + 1) ≤ 2 * (tick - (s.drive drive).zcTimes.getLast?.getD 0) → (s.drive drive).missed = 0 → exec (.zcMissing
    drive tick) s = .next ((s.at tick).setDrive drive fun D => { D with missed := 1, agree := 0 })) ∧
  (∀ (s : State) (drive tick : Nat), s.up = true → (s.drive drive).state = .fallback → 3 * s.zcInterval drive * ((s.drive
    drive).missed + 1) ≤ 2 * (tick - (s.drive drive).zcTimes.getLast?.getD 0) → (s.drive drive).missed ≠ 0 → exec (.zcMissing
    drive tick) s = .next ((s.at tick).trip drive 1)) ∧
  (∀ (s : State) (drive : Nat), s.up = true → (s.drive drive).distrust = true → ms 64 ≤ (s.drive drive).encAgree → exec
    (.encTrustRestore drive) s = .next (s.setDrive drive fun D => { D with distrust := false, encAgree := 0 })) ∧
  (∀ (s : State) (drive tick : Nat), s.up = true → (s.drive drive).bridge = true → 256 ≤ (s.drive drive).lowPhase → exec
    (.phaseOpen drive tick) s = .next ((s.at tick).trip drive 4)) ∧
  (∀ (s : State) (drive : Nat) (speed : Int) (emf tick : Nat), s.up = true → (s.drive drive).state = .listen → (9 ≤ (s.drive
    drive).zcTimes.length ∨ (s.drive drive).since + ms 20 ≤ (s.at tick).now) → s.running.any (driveCmd [Op.DRIVE_BRAKE]
    drive) = false → (emf < 200 ∨ speed = 0) → exec (.listenEnd drive speed emf tick) s = .next (((s.at tick).noteSpeed drive
    0).align drive)) ∧
  (∀ (s : State) (drive : Nat), s.up = true → (s.drive drive).state = .start → (s.drive drive).aligning = true → exec
    (.alignDone drive) s = .next (if s.livOn (Fld.DRV_ENC_EN drive) = true then (s.at ((s.drive drive).since + ms (s.imm
    (Fld.DRV_ALIGN_MS drive)))).driveStarted drive 0 else (s.at ((s.drive drive).since + ms (s.imm (Fld.DRV_ALIGN_MS
    drive)))).setDrive drive fun D =>
    { D with aligning := false, plausible := 0, since := (s.at ((s.drive drive).since + ms (s.imm (Fld.DRV_ALIGN_MS drive)))).now })) ∧
  (∀ (s : State) (drive tick : Nat), s.up = true → (s.drive drive).state = .start → (s.drive drive).aligning = false →
    (s.drive drive).waiting = false → 3 * (100000000 * s.imm (Fld.DRV_HANDOVER drive)) ≤ 2 * (s.at tick).stepped drive →
    (s.drive drive).attempts = 0 → exec (.handoverTimeout drive tick) s = .next ((s.at tick).setDrive drive fun D =>
    { D with bridge := false, waiting := true, attempts := 1, restSince := some (s.at tick).now, offAt := (s.at tick).now })) ∧
  (∀ (s : State) (drive tick : Nat), s.up = true → (s.drive drive).state = .start → (s.drive drive).aligning = false →
    (s.drive drive).waiting = false → 3 * (100000000 * s.imm (Fld.DRV_HANDOVER drive)) ≤ 2 * (s.at tick).stepped drive →
    (s.drive drive).attempts ≠ 0 → exec (.handoverTimeout drive tick) s = .next ((s.at tick).trip drive 3)) ∧
  (∀ (s : State) (drive : Nat), s.up = true → (s.drive drive).state = .start → (s.drive drive).waiting = true → exec
    (.startRetry drive) s = .next ((s.at ((s.drive drive).restSince.getD s.now + ms 500)).align drive)) ∧
  (∀ (s : State) (drive : Nat) (speed : Int) (emf : Nat), s.up = true → (s.drive drive).pending = true → (emf < 200 ∨
    (s.drive drive).forward speed = true ∨ speed.natAbs < s.imm (Fld.DRV_REV_MAX drive)) → exec (.pendingStart drive speed
    emf) s = .next (s.listen drive (s.drive drive).target (s.drive drive).revAction)) ∧
  (∀ (s : State) (drive : Nat) (m : SpeedMove), s.up = true → (s.drive drive).move = some m → m.stop = false → (s.drive
    drive).arrived m.target = true → exec (.driveMoveDone drive) s = .next (finishWhere (driveCmd [Op.DRIVE_SPEED] drive)
    (fun _ => St.OK) (fun _ => 0) (s.setDrive drive fun D => { D with move := none }))) ∧
  (∀ (s : State) (drive : Nat) (m : SpeedMove), s.up = true → (s.drive drive).move = some m → m.stop = true → s.refDone drive
    = true → exec (.driveMoveDone drive) s = .next (finishWhere (driveCmd [Op.STOP, Op.EMERGENCY_STOP] drive) (fun _ =>
    St.OK) (fun _ => 0) (s.bridgeOff drive))) ∧
  (∀ (s : State) (drive t : Nat), s.up = true → (s.drive drive).restSince = some t → (s.drive drive).state = .fluxBrake →
    s.running.any (driveCmd [Op.DRIVE_BRAKE] drive) = true → exec (.brakeDone drive) s = .next (finishWhere (driveCmd
    [Op.DRIVE_BRAKE] drive) (fun _ => St.OK) (fun _ => 0) ((s.at (t + ms 100)).bridgeOff drive)))

/-- While the device is up: a PWM period of an energised axis, AFE not in reset, moves its electrical angle on and its phase
  duties become those found in the last period; a current update of an energised axis takes the next current and the load
  angle. A move that ends lands the geometry that waits and starts the next; a group whose heads all wait starts, with its
  leader, where no member is over its peak speed, and drops its move with BAD_PARAM where one is; a stall that has lasted
  STALL_MS stops its axis. A quadrature edge counts its step or its error; an index edge homes the axes that seek it; a
  reversal beyond BACKSLACK is raised once, and counts. -/
def Obligations.AxisRowsRun : Prop :=
  (∀ (s : State) (axis : Nat) (ia ib : Int) (tick : Nat), s.up = true → axis < s.axes.length → ((s.at tick).axis
    axis).energised = true → bit s.resets.busy Fn.AFE = false → ∃ t, exec (.axisPwmPeriod axis ia ib tick) s = .next t ∧
    (t.axis axis).theta = (s.at tick).thetaOf axis ∧ (t.axis axis).dutyA = (s.axis axis).nextA ∧ (t.axis axis).dutyB =
    (s.axis axis).nextB ∧ (t.axis axis).lastA = ia ∧ (t.axis axis).lastB = ib) ∧
  (∀ (s : State) (axis tick : Nat), s.up = true → axis < s.axes.length → ((s.at tick).axis axis).energised = true → ∃ t, exec
    (.axisCurrentUpdate axis tick) s = .next t ∧ (t.axis axis).current = (s.at tick).nextCurrent axis ((s.at tick).loadAngle
    axis) ∧ (t.axis axis).angle = (if (s.at tick).angleValid axis then (clampInt 0 255 ((s.at tick).loadAngle axis)).toNat
    else 0)) ∧
  (∀ (s : State) (axis : Nat), s.up = true → exec (.axisMoveEnd axis) s = .next (landInstances Grp.AXS_GEOM (List.range 24)
    (s.endMove axis))) ∧
  (∀ (s : State) (group tick : Nat), s.up = true → group < s.groups.length → ((s.at tick).groupHeads group).isSome = true →
    ((((s.at tick).groupHeads group).getD []).any (fun h => (s.at tick).overPeak h.1 (1000 * (s.at tick).imm (Fld.GRP_V
    group) * h.2.value.natAbs / ((s.at tick).groupLeader (((s.at tick).groupHeads group).getD [])).2)) = false ∨ ((s.at
    tick).groupLeader (((s.at tick).groupHeads group).getD [])).2 = 0) → ∃ t, exec (.groupMoveStart group tick) s = .next t ∧
    (t.group group).state = 1 ∧ (t.group group).leader = ((s.at tick).groupLeader (((s.at tick).groupHeads group).getD
    [])).1) ∧
  (∀ (s : State) (group tick : Nat), s.up = true → ((s.at tick).groupHeads group).isSome = true → (((s.at tick).groupHeads
    group).getD []).any (fun h => (s.at tick).overPeak h.1 (1000 * (s.at tick).imm (Fld.GRP_V group) * h.2.value.natAbs /
    ((s.at tick).groupLeader (((s.at tick).groupHeads group).getD [])).2)) = true → ((s.at tick).groupLeader (((s.at
    tick).groupHeads group).getD [])).2 ≠ 0 → ∃ t, exec (.groupMoveStart group tick) s = .next t ∧ t = finish (((((s.at
    tick).groupHeads group).getD []).head?.bind fun h => h.2.cmd).getD 0) St.BAD_PARAM 0 (dropMember group ((s.at
    tick).members group) (s.at tick))) ∧
  (∀ (s : State) (axis t : Nat), s.up = true → firstOfTwo (s.axis axis).stall1 (s.axis axis).stall2 = some t → exec (.stall
    axis) s = .next ((s.at (t + ms (s.imm (Fld.AXS_STALL_MS axis)))).stallAxis axis)) ∧
  (∀ (s : State) (encoder : Nat) (a b : Bool) (tick : Nat), s.up = true → exec (.quadratureEdge encoder a b tick) s = .next
    ((s.at tick).setEncoder encoder fun e =>
    match quadStep (s.encoder encoder).a (s.encoder encoder).b a b with
      | none => { e with a := a, b := b, qerr := satAdd 0xFF e.qerr 1 }
      | some d => Encoder.step { e with a := a, b := b } (if s.on (Fld.ENC_DIR encoder) then -d else d) (s.imm
        (Fld.ENC_BACKSLACK encoder)))) ∧
  (∀ (s : State) (encoder tick : Nat), s.up = true → exec (.encIndexEdge encoder tick) s = .next (homeEdge (64 + encoder)
    tick (List.range 24) (s.at tick))) ∧
  (∀ (s : State) (encoder tick : Nat), s.up = true → encoder < s.encoders.length → (s.encoder encoder).raised = false →
    (s.imm (Fld.ENC_BACKSLACK encoder) : Int) < (s.encoder encoder).high - (s.encoder encoder).count → s.mode ≠ .printing → ∃
    t, exec (.encReversal encoder tick) s = .next t ∧ (t.encoder encoder).raised = true ∧ (t.encoder encoder).reversals =
    satAdd 0xFF (s.encoder encoder).reversals 1)

/-- While the device is up, LOOPS not in reset and the sample due, a sample lands what waits for the slot; then a CLOSED slot
  with its destinations on and no close waiting runs its loop, one with a destination off opens and ends what waits for it,
  and an OFF one does nothing. 50 ms after a LOOPS reset a slot of it that is still open halts with LOOP_REARM, and the wait
  ends. -/
def Obligations.LoopRowsRun : Prop :=
  (∀ (s : State) (slot tick : Nat), s.up = true → bit (s.at tick).resets.busy Fn.LOOPS = false → (s.at tick).sampleDue slot =
    true → (((s.at tick).landGroup Grp.LOOP_COEF slot).loop slot).state = .closed → ((s.at tick).landGroup Grp.LOOP_COEF
    slot).destsOn slot = true → (((s.at tick).landGroup Grp.LOOP_COEF slot).loop slot).closeInit = none → exec (.loopSample
    slot tick) s = .next (((s.at tick).landGroup Grp.LOOP_COEF slot).runLoop slot)) ∧
  (∀ (s : State) (slot tick : Nat), s.up = true → bit (s.at tick).resets.busy Fn.LOOPS = false → (s.at tick).sampleDue slot =
    true → (((s.at tick).landGroup Grp.LOOP_COEF slot).loop slot).state = .closed → ((s.at tick).landGroup Grp.LOOP_COEF
    slot).destsOn slot = false → exec (.loopSample slot tick) s = .next (finishWhere (openEnds slot) (fun _ =>
    St.ABORTED_HOST) (fun _ => 0) (((s.at tick).landGroup Grp.LOOP_COEF slot).openLoop slot false))) ∧
  (∀ (s : State) (slot tick : Nat), s.up = true → bit (s.at tick).resets.busy Fn.LOOPS = false → (s.at tick).sampleDue slot =
    true → (((s.at tick).landGroup Grp.LOOP_COEF slot).loop slot).state = .off → exec (.loopSample slot tick) s = .next
    (((s.at tick).landGroup Grp.LOOP_COEF slot))) ∧
  (∀ (s : State) (r : Nat × Nat) (rs : List (Nat × Nat)), s.up = true → s.resets.rearm = r :: rs → exec .loopRearmExpiry s =
    .next (if (s.at (r.2 + ms 50)).rearmLate = true then (s.at (r.2 + ms 50)).endRearm.halt Halt.LOOP_REARM else (s.at (r.2 +
    ms 50)).endRearm))

/-- While the device is up: a PWM period of an enabled channel that no slot runs, with neither AFE nor HV in reset, ends a ramp
  that is over, sets the duty of a channel that is still enabled and judges it. 1 ms in band after its ramp settles a channel
  that has no arc pause and completes its commands; SETTLE without it fails it. ARC_OFF ends the pause of an arc. A mains
  crossing 7.69 to 11.11 ms after the last edge is accepted, with FUSER in reset or firing the zones; 25 ms without one turns
  to the timer, which then fires them every 10 ms while FUSER is not in reset. A zone at full power for RISE_S that has not
  risen by RISE_MIN fails, and one that has is watched from here. -/
def Obligations.HvFuserRowsRun : Prop :=
  (∀ (s : State) (channel tick : Nat), s.up = true → (s.hvCh channel).en = true → bit s.resets.busy Fn.AFE = false → bit
    s.resets.busy Fn.HV = false → ∃ t, exec (.hvPwmPeriod channel tick) s = .next t ∧ t =
    (let u := (if s.hvSlot channel = true ∧ (s.hvCh channel).disabling = false then (s.at tick).setHv channel fun h =>
       { h with ramp := none } else (s.at tick).endRamp channel); if (u.hvCh channel).en = true then (u.hvDuty
       channel).judgeHv channel else u)) ∧
  (∀ (s : State) (channel e i : Nat), s.up = true → (s.hvCh channel).rampEnd = some e → (s.hvCh channel).inSince = some i →
    (s.hvCh channel).settled = false → (s.hvCh channel).arcPause = false → exec (.hvSettled channel) s = .next ((((s.at (max
    e i + ms 1)).setHv channel fun h => { h with settled := true }).finishSets channel St.OK).finishHv)) ∧
  (∀ (s : State) (channel e : Nat), s.up = true → (s.hvCh channel).rampEnd = some e → (s.hvCh channel).settled = false →
    (s.hvCh channel).fault = false → exec (.hvSettleTimeout channel) s = .next ((s.at (e + ms (s.imm (Fld.HV_SETTLE
    channel)))).hvFails channel)) ∧
  (∀ (s : State) (channel : Nat), s.up = true → (s.hvCh channel).arcPause = true → channel < s.hv.length → ∃ t, exec
    (.arcOffExpiry channel) s = .next t ∧ (t.hvCh channel).arcPause = false) ∧
  (∀ (s : State) (tick : Nat), s.up = true → 769000 ≤ tick - s.safety.lastEdge → tick - s.safety.lastEdge ≤ 1111000 → exec
    (.zeroCrossing tick) s = .next (if bit s.resets.busy Fn.FUSER = true then
    { s.at tick with safety := { s.safety with lastEdge := tick, lastZc := tick, zcLost := false, halfUs := (tick - s.safety.lastEdge) / 100 } }
    else crossZones (List.range 4)
    { s.at tick with safety := { s.safety with lastEdge := tick, lastZc := tick, zcLost := false, halfUs := (tick - s.safety.lastEdge) / 100 } })) ∧
  (∀ (s : State), s.up = true → s.safety.zcLost = false → exec (.zcLost) s = .next
    ({ s.at (s.safety.lastZc + ms 25) with safety := { s.safety with zcLost := true, timerAt := (s.at (s.safety.lastZc + ms 25)).now } })) ∧
  (∀ (s : State), s.up = true → s.safety.zcLost = true → bit s.resets.busy Fn.FUSER = false → exec (.halfCycleTimer) s =
    .next (crossZones (List.range 4)
    { s.at (s.safety.timerAt + ms 10) with safety := { s.safety with timerAt := (s.at (s.safety.timerAt + ms 10)).now } })) ∧
  (∀ (s : State) (zone t : Nat) (temp : Int), s.up = true → (s.zone zone).highFrom = some (t, temp) → 10 * (s.imm
    (Fld.FZ_RISE_MIN zone) : Int) ≤ (s.therm (s.imm (Fld.FZ_CFG_TH zone))).temp - temp → exec (.fuserRiseCheck zone) s =
    .next ((s.at (t + sec (s.imm (Fld.FZ_RISE_S zone)))).setZone zone fun Z =>
    { Z with highFrom := some ((s.at (t + sec (s.imm (Fld.FZ_RISE_S zone)))).now, (s.therm (s.imm (Fld.FZ_CFG_TH zone))).temp) })) ∧
  (∀ (s : State) (zone t : Nat) (temp : Int), s.up = true → (s.zone zone).highFrom = some (t, temp) → (s.therm (s.imm
    (Fld.FZ_CFG_TH zone))).temp - temp < 10 * (s.imm (Fld.FZ_RISE_MIN zone) : Int) → exec (.fuserRiseCheck zone) s = .next
    ((s.at (t + sec (s.imm (Fld.FZ_RISE_S zone)))).zoneFails zone))

/-- While the device is up: a frame that ends, AFE not in reset, counts one more frame of its bank; a calibrated slice with
  offset, gain and check within their limits is in service with them and the calibration goes on, one beyond a limit is
  retired with the cause of the first. CAL_PERIOD that is not 0 triggers a cycle. An autozero that is asked for, AFE not in
  reset and the zero there to take, takes it and completes. A store that ends without a block left to write again notes its
  RAW blocks and ends with its own outcome, or on a SYNCED LEAD with its peer's; the audit log is flushed outside PRINTING on
  a readable flash with the supply high enough, with an entry for what was lost. -/
def Obligations.AfeRowsRun : Prop :=
  (∀ (s : State) (bank : Nat) (raws : List (Nat × Nat × Nat)) (drifts : List (Nat × Int)) (tj : Int) (tick : Nat), s.up =
    true → bank < s.afe.banks.length → s.inReset Fn.AFE = false → ∃ t, exec (.afeFrameEnd bank raws drifts tj tick) s = .next
    t ∧ (t.bank bank).frames = ((s.bank bank).frames + 1) % 2 ^ 32) ∧
  (∀ (s : State) (bank : Nat) (c0 cBG check : Int) (tick : Nat), s.up = true → (s.bank bank).calSlice ≠ 7 → s.inReset Fn.AFE
    = false → c0.natAbs ≤ 16 * s.imm Fld.OFS_LIMIT → (nearest (1000000 * (16 * 8192 - (cBG - c0))) (cBG - c0)).natAbs ≤ 100 *
    s.imm Fld.GAIN_LIMIT → check.natAbs ≤ 16 * s.imm Fld.CHECK_TOL → ∃ t, exec (.sliceCalDone bank c0 cBG check tick) s =
    .next t ∧ t =
    (let w := (s.bank bank).calSlice;
       let u := (s.at tick).setBank bank (fun B => Bank.setDiag (Bank.setDiag (Bank.setDiag (Bank.setDiag B w 1 c0) w 2 cBG)
         w 3 check) w 6 0);
         let v := u.setBank bank (fun B =>
           { B with ofs := B.ofs.set w c0, gain := B.gain.set w (nearest (1000000 * (16 * 8192 - (cBG - c0))) (cBG - c0)), calSlice := 7, inService := if w = B.spare then B.inService else setBit (if B.spare < 5 then clrBit B.inService B.spare else B.inService) w });
           calNext bank (v.bank bank).waiting v)) ∧
  (∀ (s : State) (bank : Nat) (c0 cBG check : Int) (tick : Nat), s.up = true → (s.bank bank).calSlice ≠ 7 → s.inReset Fn.AFE
    = false → (16 * s.imm Fld.OFS_LIMIT < c0.natAbs ∨ 100 * s.imm Fld.GAIN_LIMIT < (nearest (1000000 * (16 * 8192 - (cBG -
    c0))) (cBG - c0)).natAbs ∨ 16 * s.imm Fld.CHECK_TOL < check.natAbs) → ∃ t, exec (.sliceCalDone bank c0 cBG check tick) s
    = .next t ∧ t =
    (let w := (s.bank bank).calSlice;
       let u := (s.at tick).setBank bank (fun B => Bank.setDiag (Bank.setDiag (Bank.setDiag (Bank.setDiag B w 1 c0) w 2 cBG)
         w 3 check) w 6 0);
         let v := u.retireSlice bank w (if 16 * s.imm Fld.OFS_LIMIT < c0.natAbs then 1 else if 100 * s.imm Fld.GAIN_LIMIT <
           (nearest (1000000 * (16 * 8192 - (cBG - c0))) (cBG - c0)).natAbs then 2 else 3); calNext bank (v.bank
           bank).waiting v)) ∧
  (∀ (s : State) (bank : Nat), s.up = true → s.imm Fld.CAL_PERIOD ≠ 0 → exec (.calPeriodExpiry bank) s = .next ((s.at
    ((s.bank bank).lastCycle + sec (s.imm Fld.CAL_PERIOD))).trigger bank)) ∧
  (∀ (s : State) (channel : Nat) (mean : Int), s.up = true → s.inReset Fn.AFE = false → s.zeroHolds channel = true →
    s.running.any (fun c => isCal 1 c && c.p.target = channel) = true → exec (.autozero channel mean) s = .next ((finishWhere
    (fun c => isCal 1 c && c.p.target = channel) (fun _ => St.OK) (fun _ => 0) (s.newZero channel mean)).calDone 1 channel)) ∧
  (∀ (s : State) (kind r peer : Nat) (raws : List Nat), s.up = true → s.nv.storing = some (kind, r) → kind ≠ 4 → exec
    (.storeDone 0 raws peer) s = .next ((s.rewrittenRaw r ((raws.filter fun i => i < (s.nv.blocks
    r).length).eraseDups)).endStore St.OK (if (s.rewrittenRaw r ((raws.filter fun i => i < (s.nv.blocks
    r).length).eraseDups)).syncedLead = true then peer else St.OK))) ∧
  (∀ (s : State) (r peer : Nat) (raws : List Nat), s.up = true → s.nv.storing = some (4, r) → exec (.storeDone 0 raws peer) s
    = .next
    (let u := s.rewrittenRaw r ((raws.filter fun i => i < (s.nv.blocks r).length).eraseDups);
       let v := { u with mem := { u.mem with changed := u.unchanged (u.nv.trims.getD (r - Rgn.TRIM_A) []) } }; v.endStore
         St.OK (if v.syncedLead = true then peer else St.OK))) ∧
  (∀ (s : State) (kind r peer : Nat) (raws : List Nat), s.up = true → s.nv.storing = some (kind, r) → exec (.storeDone 1 raws
    peer) s = .next ((s.rewrittenRaw r ((raws.filter fun i => i < (s.nv.blocks r).length).eraseDups)).endStore St.FLASH_ERROR
    St.FLASH_ERROR)) ∧
  (∀ (s : State), s.up = true → s.mode ≠ .printing → s.supplyLow = false → s.nv.readable = true → exec (.auditFlush) s =
    .next
    (let u := s.flushLog; if u.nv.lost = 0 then u else (State.audit { u with nv := { u.nv with lost := 0 } } 11 0xFF 0xFF
       0xFF u.nv.lost [] [] u.key.epoch u.key.epoch).flushLog))

/-- While the device is up, on a SHADOW whose link is up: an arbiter step of the LEAD takes its ARB_SEQ, and its packet is
  followed where it was accepted and counted where it was not; a configuration change (a register, a landing apply, trim
  cells, a plan image) and a journal change are followed, a mark of the two clocks that the chip has not or that lies more
  than 1 µs off leaving SYNCED; a mirrored completion, event, record or request is kept, an event with its SEQ; each of these
  is acknowledged. POSTED moves the tail of the ring; LOOPIN is kept for its slot, which is then FENCED where it was open; a
  digest on a chip that is not SYNCED sets the bits it compares; a snapshot block that decodes is taken in, and one that does
  not is counted. On a linked LEAD an ACK takes what it covers off the mirror and, with no planned exchange, lets go of what
  waited; a relayed packet enters as the packet of master 2; a relayed completion goes back on the SHADOW. On a SYNCED LEAD a
  message that is not acknowledged within ACK_TIMEOUT loses the shadow. -/
def Obligations.MirrorRowsRun : Prop :=
  (∀ (s : State) (seq opcode : Nat) (p : Packet) (verdict : Nat), s.up = true → s.pair.role = .shadow → s.linked = true →
    verdict ≠ 0 → exec (.arbMsg seq opcode p verdict) s = .next (State.applied ((if observerOps.contains opcode ||
    accessVerdict verdict then State.at { s.mirrorHead p with arbSeq := seq % 2 ^ 32 } p.tick else (State.at
    { s.mirrorHead p with arbSeq := seq % 2 ^ 32 } p.tick).renew).arbStep opcode p verdict))) ∧
  (∀ (s : State) (seq opcode : Nat) (p : Packet) (verdict : Nat), s.up = true → s.pair.role = .shadow → s.linked = true →
    verdict = 0 → exec (.arbMsg seq opcode p verdict) s = .next ((State.mirrorStep
    { s.mirrorHead p with arbSeq := seq % 2 ^ 32 } opcode p).applied)) ∧
  (∀ (s : State) (a : Nat) (w : Word), s.up = true → s.pair.role = .shadow → s.linked = true → exec (.configMsg (.register a
    w)) s = .next (s.mirrorWrite a w.toNat).applied) ∧
  (∀ (s : State) (g n : Nat), s.up = true → s.pair.role = .shadow → s.linked = true → exec (.configMsg (.applied g n)) s =
    .next (State.applied (((s.firstApply g n).map s.landApply).getD s))) ∧
  (∀ (s : State) (n e slot : Nat) (cells : List Byte), s.up = true → s.pair.role = .shadow → s.linked = true → exec
    (.configMsg (.trim n e slot cells)) s = .next (s.mirrorTrim n e slot cells).applied) ∧
  (∀ (s : State) (n slot : Nat) (image : List Byte), s.up = true → s.pair.role = .shadow → s.linked = true → exec (.configMsg
    (.plan n slot image)) s = .next ((s.loadPlan n slot image image.length).1).applied) ∧
  (∀ (s : State) (c : JournalChange), s.up = true → s.pair.role = .shadow → s.linked = true → exec (.journalMsg c none) s =
    .next (s.followJournal c).applied) ∧
  (∀ (s : State) (c : JournalChange) (lead own : Nat), s.up = true → s.pair.role = .shadow → s.linked = true → exec
    (.journalMsg c (some (lead, some own))) s = .next (if us 1 < apart lead own then ((s.followJournal c).unsync
    Unsync.JOURNAL).applied else (s.followJournal c).applied)) ∧
  (∀ (s : State) (c : JournalChange) (lead : Nat), s.up = true → s.pair.role = .shadow → s.linked = true → exec (.journalMsg
    c (some (lead, none))) s = .next ((s.followJournal c).unsync Unsync.JOURNAL).applied) ∧
  (∀ (s : State) (bytes : List Byte), s.up = true → s.pair.role = .shadow → s.linked = true → exec (.postMsg Ty.EVENT bytes)
    s = .next (State.keep { s with eventSeq := (readEvent bytes).seq } (.event (readEvent bytes))).applied) ∧
  (∀ (s : State) (bytes : List Byte), s.up = true → s.pair.role = .shadow → s.linked = true → exec (.postMsg Ty.COMPLETION
    bytes) s = .next (s.mirrorCompletion bytes).applied) ∧
  (∀ (s : State) (bytes : List Byte), s.up = true → s.pair.role = .shadow → s.linked = true → exec (.postMsg Ty.SHEET_RECORD
    bytes) s = .next (s.mirrorRecord (readRecord bytes)).applied) ∧
  (∀ (s : State) (bytes : List Byte), s.up = true → s.pair.role = .shadow → s.linked = true → exec (.postMsg Ty.DATA_REQUEST
    bytes) s = .next (s.mirrorRequest (readRequest bytes)).applied) ∧
  (∀ (s : State) (queue index : Nat), s.up = true → s.pair.role = .shadow → s.linked = true → queue < s.queues.length → ∃ t,
    exec (.postedMsg queue index) s = .next t ∧ (t.queue queue).tail = (index + 1) % s.queueSize queue) ∧
  (∀ (s : State) (slot : Nat) (inputs : List Word) (r1 r2 : Word), s.up = true → s.pair.role = .shadow → s.linked = true →
    exec (.loopin slot inputs r1 r2) s = .next (s.setLoop slot fun L =>
    { L with loopin := some (inputs, r1, r2), state := if L.state = .opened ∧ L.closeInit = none then .fenced else L.state })) ∧
  (∀ (s : State) (d : DigestView), s.up = true → s.pair.role = .shadow → s.linked = true → s.pair.synced = false → ∃ t, exec
    (.digest d) s = .next t ∧ t.pair.drives = d.drives % 2 ^ 12 ∧ t.pair.stations = d.stations % 32 ∧ t.pair.axes = d.axes) ∧
  (∀ (s : State) (block o : List Byte), s.up = true → s.pair.role = .shadow → s.linked = true → decodeBlock block = .ok o →
    exec (.snapshotMsg block) s = .next (snapRecords o.length o
    { s.shadowInit with pairWork := { s.pairWork with blockFails := 0 } }).applied) ∧
  (∀ (s : State) (block : List Byte), s.up = true → s.pair.role = .shadow → s.linked = true → ∀ o, decodeBlock block ≠ .ok o
    → ∃ t, exec (.snapshotMsg block) s = .next t ∧ t.pair.msgErrors = satAdd 0xFFFF s.pair.msgErrors 1 ∧
    t.pairWork.blockFails = (if s.pairWork.blockFails + 1 = 3 then 0 else s.pairWork.blockFails + 1)) ∧
  (∀ (s : State) (raw : List Byte) (isPacket : Bool) (args : Option (List Byte)) (tick : Nat), s.up = true → s.linked = true
    → s.pair.role = .lead → isPacket = true → exec (.relayMsg raw isPacket args tick) s = .next ((s.at tick).intake 2 0 0 raw
    args tick)) ∧
  (∀ (s : State) (raw : List Byte) (isPacket : Bool) (args : Option (List Byte)) (tick : Nat), s.up = true → s.linked = true
    → s.pair.role = .shadow → isPacket = false → exec (.relayMsg raw isPacket args tick) s = .next ((s.at tick).relayBack
    raw)) ∧
  (∀ (s : State) (msg : Nat), s.up = true → s.linked = true → s.pair.role = .lead → s.pairWork.switching = false → exec (.ack
    msg) s = .next (State.pickConfirmed (if s.pair.fenceFrom = none then (setPair s fun p =>
    { p with unacked := p.unacked.filter (fun u => msg < u.1), ackLag := min 0xFFFF (s.lagOf msg), acked := true }).releaseWhere
    fun w => w.msg ≤ msg else (setPair s fun p =>
    { p with unacked := p.unacked.filter (fun u => msg < u.1), ackLag := min 0xFFFF (s.lagOf msg), acked := true })))) ∧
  (∀ (s : State) (u : Nat × Nat) (us_ : List (Nat × Nat)), s.up = true → s.pair.role = .lead → s.pair.unacked = u :: us_ →
    s.pair.synced = true → exec .ackTimeout s = .next ((setPair (s.at (u.2 + us (s.imm Fld.ACK_TIMEOUT))) fun p =>
    { p with acked := false }).loseShadow Unsync.ACK_TIMEOUT))

/-- While the device is up: a heartbeat on a linked chip is taken, and its own is sent; a mirroring LEAD sends its digest. On a
  paired chip that does not suppress it and knows a peer, the loss of the lock or of enough heartbeats forgets the peer, and
  a SYNCED LEAD loses its shadow. FENCE_WAIT after the fence began ends it, and without the Deadbolt lets go of all that
  waited. A synchronisation ends SYNCED on the LEAD whose peer is SHADOW and on a converged SHADOW whose peer is LEAD, and
  fails with NOT_SYNCED at SYNC_MAX. The Deadbolt fences a chip that is up; its release, whatever the state, takes the level
  back. A TCK edge with the supply on clocks the TAP, whatever the state. -/
def Obligations.PairRowsRun : Prop :=
  (∀ (s : State) (b : Beat) (tick : Nat), s.up = true → s.linked = true → exec (.heartbeat b tick) s = .next ((s.at
    tick).beat b)) ∧
  (∀ (s : State) (tick : Nat), s.up = true → s.linked = true → exec (.heartbeatSend tick) s = .next ((s.at tick).mirror
    (.heartbeat ((s.at tick).ownBeat false)))) ∧
  (∀ (s : State) (lockLost : Bool) (tick : Nat), s.up = true → s.pair.paired = true → (s.pairWork.quiet.any fun t => (s.at
    tick).now < t) = false → s.pair.peerRole ≠ 0 → (lockLost = true ∨ (s.at tick).beatsMissed = true) → s.pair.role = .lead →
    exec (.peerLost lockLost tick) s = .next (if s.pair.synced = true then (setPair (s.at tick) fun p =>
    { p with lanes := 0, peerRole := 0, beats := 0 }).loseShadow Unsync.LINK_DOWN else (setPair (s.at tick) fun p =>
    { p with lanes := 0, peerRole := 0, beats := 0 }))) ∧
  (∀ (s : State) (t : Nat), s.up = true → s.pair.fenceFrom = some t → exec .fenceWaitExpiry s = .next
    (let u := setPair (s.at (t + us (s.imm Fld.FENCE_WAIT))) fun p => { p with fenceFrom := none }; if s.pair.dboltIn = true
       then u else (u.releaseWhere fun _ => true).pickConfirmed)) ∧
  (∀ (s : State), s.up = true → s.mirrors = true → exec (.digestSend) s = .next (s.mirror (.digest (allStations.map fun n =>
    (s.scan n).sweeps)))) ∧
  (∀ (s : State), s.up = true → s.pair.synced = false → s.pair.role = .lead → s.pair.syncing = true → s.pair.peerRole = 2 →
    exec (.pairSynced) s = .next (s.leadSynced)) ∧
  (∀ (s : State), s.up = true → s.pair.synced = false → s.pair.role = .shadow → s.pair.peerRole = 1 → s.converged = true →
    exec (.pairSynced) s = .next (s.shadowSynced)) ∧
  (∀ (s : State), s.up = true → s.pair.syncing = true → exec (.syncMaxExpiry) s = .next ((s.at (s.pair.syncStart + ms (s.imm
    Fld.SYNC_MAX))).failSync St.NOT_SYNCED)) ∧
  (∀ (s : State) (tick : Nat), s.up = true → s.pair.dboltIn = false → exec (.deadboltAssert tick) s = .next ((s.at
    tick).fence)) ∧
  (∀ (s : State), exec (.deadboltRelease) s = .next ({ s with pair := { s.pair with dboltIn := false } })) ∧
  (∀ (s : State) (tms tdi : Bool), s.supply.on = true → exec (.tckEdge tms tdi) s = .next
    ({ s with pins := s.pins.clock (s.pins.tap.next tms) tdi }))

/-- In every state with a command at the front of the queue, a step is the effect of that command on the state with the rest of
  the queue (the model's own queue: log entry 1). -/
def Obligations.StepRunsFront : Prop :=
  (∀ (c : Instr) (cs : List Instr) (s : State), s.pending = c :: cs → step s = exec c { s with pending := cs })

/-- On an empty queue a step changes nothing. This is the model's choice (log entry 1): the manual has no such queue. -/
def Obligations.EmptyQueueIdles : Prop :=
  (∀ (s : State), s.pending = [] → step s = .next s)

/-- Right after RESETn no master holds the key and the epoch is 0, the arbiter and the events start at their first numbers, every
  mask bit is set, no halt cause is latched, the mode is STANDBY, memory is not initialised, no slot holds a sheet, every
  register reads its table value in its live and its shadow copy, the queues have their default types, every drive, loop,
  high-voltage channel and heater zone is off, and nothing is held, running or outstanding. -/
def Obligations.ResetLeaves : Prop :=
  (State.reset.key.holder = 3 ∧ State.reset.key.epoch = 0 ∧ State.reset.key.service = false) ∧
  (State.reset.arbSeq = 0 ∧ (State.reset.newEvent 0 0 0 [] 0).seq = 1) ∧
  (∀ (i : Nat), i < 128 → State.reset.hostTakes i = true ∧ State.reset.hostTakes (i + 128) = true ∧ State.reset.mgmtTakes i =
    true) ∧
  (State.reset.mode = .standby ∧ State.reset.modes.haltMask = 0 ∧ State.reset.modes.memReady = false) ∧
  (∀ (i : Nat), State.reset.sheet? i = none) ∧
  (∀ (a : Nat), State.reset.reg a = resetWord a ∧ State.reset.liveReg a = resetWord a) ∧
  (∀ (q : Nat), q < 32 → State.reset.queueOn q = false ∧ State.reset.queueType q = (if q < 8 then Ty.SUBMISSION else if q <
    16 then Ty.COMPLETION else if q < 21 then Ty.DATA_REQUEST else if q = 21 then Ty.EVENT else if q = 22 then
    Ty.SHEET_RECORD else if q = 23 then Ty.AUDIT else Ty.UNUSED)) ∧
  (∀ (n : Nat), (State.reset.drive n).state = .off ∧ (State.reset.drive n).bridge = false ∧ (State.reset.loop n).state = .off
    ∧ (State.reset.hvCh n).en = false ∧ (State.reset.zone n).enabled = false ∧ (State.reset.axis n).homed = false) ∧
  (State.reset.running = [] ∧ State.reset.tags = [] ∧ State.reset.arrived = [] ∧ State.reset.pending = [])

/-- While the chip is in reset, without its supply, or in DORMANT, every command but those of reset, wake, supply, the interlock
  and overtemperature inputs, the test port and the Deadbolt leaves the state as it is. -/
def Obligations.DownIgnores : Prop :=
  (∀ (i : Instr) (s : State), s.up = false → actsAlways i = false → exec i s = .next s)

/-- A direct BAR0 write from a master that does not hold the key changes nothing but the time of its arrival and the count of
  SYS_WRITE_REFUSED, which grows by one up to its limit; nothing leaves the chip for it. The same holds for a 32-bit write by
  its alias in BAR2 and for each row that writes a single register. -/
def Obligations.ForeignWriteDiscarded : Prop :=
  (∀ (s : State) (master addr size tick : Nat) (value : Word), s.up = true → addr < 0x100000 → s.key.holder ≠ master → exec
    (.registerWrite master addr size value tick) s = .next
    { s.at tick with refused := if s.refused + 1 ≤ 0xFFFFFFFF then s.refused + 1 else 0xFFFFFFFF }) ∧
  (∀ (s : State) (master offset tick q a : Nat) (value : Word), s.up = true → offset % 4 = 0 → bar2Of offset = some (q, some
    a) → s.key.holder ≠ master → exec (.registerWrite master (0x100000 + offset) 4 value tick) s = .next
    { s.at tick with refused := if s.refused + 1 ≤ 0xFFFFFFFF then s.refused + 1 else 0xFFFFFFFF }) ∧
  (∀ (s : State) (master station : Nat) (value : Word), s.up = true → s.key.holder ≠ master → exec (.segSwap master station
    value) s = .next { s with refused := if s.refused + 1 ≤ 0xFFFFFFFF then s.refused + 1 else 0xFFFFFFFF }) ∧
  (∀ (s : State) (master station : Nat) (value : Word), s.up = true → s.key.holder ≠ master → exec (.segPhaseWrite master
    station value) s = .next { s with refused := if s.refused + 1 ≤ 0xFFFFFFFF then s.refused + 1 else 0xFFFFFFFF }) ∧
  (∀ (s : State) (master station : Nat) (value : Word), s.up = true → s.key.holder ≠ master → exec (.dctDataWrite master
    station value) s = .next { s with refused := if s.refused + 1 ≤ 0xFFFFFFFF then s.refused + 1 else 0xFFFFFFFF }) ∧
  (∀ (s : State) (master station : Nat) (value : Word), s.up = true → s.key.holder ≠ master → exec (.emitMark master station
    value) s = .next { s with refused := if s.refused + 1 ≤ 0xFFFFFFFF then s.refused + 1 else 0xFFFFFFFF }) ∧
  (∀ (s : State) (master station : Nat) (value : Word), s.up = true → s.key.holder ≠ master → exec (.magWrite master station
    value) s = .next { s with refused := if s.refused + 1 ≤ 0xFFFFFFFF then s.refused + 1 else 0xFFFFFFFF }) ∧
  (∀ (s : State) (master station : Nat) (value : Word), s.up = true → s.key.holder ≠ master → exec (.stnStatClr master
    station value) s = .next { s with refused := if s.refused + 1 ≤ 0xFFFFFFFF then s.refused + 1 else 0xFFFFFFFF }) ∧
  (∀ (s : State) (master slot : Nat) (value : Word), s.up = true → s.key.holder ≠ master → exec (.coefDataWrite master slot
    value) s = .next { s with refused := if s.refused + 1 ≤ 0xFFFFFFFF then s.refused + 1 else 0xFFFFFFFF }) ∧
  (∀ (s : State) (master drive : Nat) (value : Word), s.up = true → s.key.holder ≠ master → exec (.drvStatClr master drive
    value) s = .next { s with refused := if s.refused + 1 ≤ 0xFFFFFFFF then s.refused + 1 else 0xFFFFFFFF }) ∧
  (∀ (s : State) (master drive : Nat) (value : Word), s.up = true → s.key.holder ≠ master → exec (.capArm master drive value)
    s = .next { s with refused := if s.refused + 1 ≤ 0xFFFFFFFF then s.refused + 1 else 0xFFFFFFFF }) ∧
  (∀ (s : State) (master q : Nat) (value : Word), s.up = true → s.key.holder ≠ master → exec (.queueEnable master q value) s
    = .next { s with refused := if s.refused + 1 ≤ 0xFFFFFFFF then s.refused + 1 else 0xFFFFFFFF }) ∧
  (∀ (s : State) (master q : Nat) (value : Word), s.up = true → s.key.holder ≠ master → exec (.queueDisable master q value) s
    = .next { s with refused := if s.refused + 1 ≤ 0xFFFFFFFF then s.refused + 1 else 0xFFFFFFFF }) ∧
  (∀ (s : State) (master station : Nat) (high : Bool) (value : Word), s.up = true → s.key.holder ≠ master → exec
    (.emitFailClear master station high value) s = .next
    { s with refused := if s.refused + 1 ≤ 0xFFFFFFFF then s.refused + 1 else 0xFFFFFFFF }) ∧
  (∀ (s : State) (master pulseI : Nat) (value : Word), s.up = true → s.key.holder ≠ master → exec (.chopperClear master value
    pulseI) s = .next { s with refused := if s.refused + 1 ≤ 0xFFFFFFFF then s.refused + 1 else 0xFFFFFFFF }) ∧
  (∀ (s : State) (master : Nat) (value : Word), s.up = true → s.key.holder ≠ master → exec (.afeChDataWrite master value) s =
    .next { s with refused := if s.refused + 1 ≤ 0xFFFFFFFF then s.refused + 1 else 0xFFFFFFFF }) ∧
  (∀ (s : State) (master : Nat) (value : Word), s.up = true → s.key.holder ≠ master → exec (.masterStnWrite master value) s =
    .next { s with refused := if s.refused + 1 ≤ 0xFFFFFFFF then s.refused + 1 else 0xFFFFFFFF }) ∧
  (∀ (s : State) (master : Nat) (value : Word), s.up = true → s.key.holder ≠ master → exec (.keyCfgWrite master value) s =
    .next { s with refused := if s.refused + 1 ≤ 0xFFFFFFFF then s.refused + 1 else 0xFFFFFFFF }) ∧
  (∀ (s : State) (master : Nat) (value : Word), s.up = true → s.key.holder ≠ master → exec (.busCfgWrite master value) s =
    .next { s with refused := if s.refused + 1 ≤ 0xFFFFFFFF then s.refused + 1 else 0xFFFFFFFF }) ∧
  (∀ (s : State) (master : Nat) (value : Word), s.up = true → s.key.holder ≠ master → exec (.pairCfgWrite master value) s =
    .next { s with refused := if s.refused + 1 ≤ 0xFFFFFFFF then s.refused + 1 else 0xFFFFFFFF }) ∧
  (∀ (s : State) (master : Nat) (value : Word), s.up = true → s.key.holder ≠ master → exec (.afeStatClr master value) s =
    .next { s with refused := if s.refused + 1 ≤ 0xFFFFFFFF then s.refused + 1 else 0xFFFFFFFF }) ∧
  (∀ (s : State) (master : Nat) (value : Word) (tick : Nat), s.up = true → s.key.holder ≠ master → exec (.tumblerApply master
    value tick) s = .next { s.at tick with refused := if s.refused + 1 ≤ 0xFFFFFFFF then s.refused + 1 else 0xFFFFFFFF }) ∧
  (∀ (s : State) (master : Nat) (value : Word) (tick : Nat), s.up = true → s.key.holder ≠ master → exec (.stnPowerDown master
    value tick) s = .next { s.at tick with refused := if s.refused + 1 ≤ 0xFFFFFFFF then s.refused + 1 else 0xFFFFFFFF }) ∧
  (∀ (s : State) (master : Nat) (value : Word) (tick : Nat), s.up = true → s.key.holder ≠ master → exec (.stnPowerUp master
    value tick) s = .next { s.at tick with refused := if s.refused + 1 ≤ 0xFFFFFFFF then s.refused + 1 else 0xFFFFFFFF })

/-- An OWNER or SERVICE packet that the arbiter judges, with no grant or lapse of the key due before its cycle, on a chip that is
  no SHADOW, completes with NOT_OWNER where its master does not hold the key, else with STALE_KEY where its epoch is not the
  current one, else, for a SERVICE command, with NEED_SERVICE where service access is not held, and nothing else happens; it
  passes exactly where all of them hold, and an OBSERVER packet passes always, whatever its epoch. -/
def Obligations.AccessCheck : Prop :=
  (∀ (s : State) (i : Instr) (op : Nat) (cls : Machine.Class) (p : Packet), packetOf i = some (op, cls, p) → s.judges op p →
    s.keyQuiet p → s.pair.role ≠ .shadow → cls ≠ .observer → s.key.holder ≠ p.master → exec i s = .next (complete (s.asCmd op
    p) St.NOT_OWNER 0 ((s.taken op p).arbStep op p St.NOT_OWNER))) ∧
  (∀ (s : State) (i : Instr) (op : Nat) (cls : Machine.Class) (p : Packet), packetOf i = some (op, cls, p) → s.judges op p →
    s.keyQuiet p → s.pair.role ≠ .shadow → cls ≠ .observer → s.key.holder = p.master → p.epoch ≠ s.key.epoch → exec i s =
    .next (complete (s.asCmd op p) St.STALE_KEY 0 ((s.taken op p).arbStep op p St.STALE_KEY))) ∧
  (∀ (s : State) (i : Instr) (op : Nat) (cls : Machine.Class) (p : Packet), packetOf i = some (op, cls, p) → s.judges op p →
    s.keyQuiet p → s.pair.role ≠ .shadow → cls ≠ .observer → s.key.holder = p.master → p.epoch = s.key.epoch → cls = .service
    → s.key.service = false → exec i s = .next (complete (s.asCmd op p) St.NEED_SERVICE 0 ((s.taken op p).arbStep op p
    St.NEED_SERVICE))) ∧
  (∀ (s : State) (cls : Machine.Class) (p : Packet), (s.access cls p = none ↔ cls = .observer ∨ s.key.holder = p.master ∧
    p.epoch = s.key.epoch ∧ (cls = .service → s.key.service = true)))

/-- A packet with FENCE set waits in its place while an earlier packet of its queue is not completed: it is accepted and runs, it
  waits for the arbiter, it is relayed to the LEAD, or it is a cancel that waits for its record. A packet of a queue in which
  an earlier one with FENCE is not completed, in any of these four ways, waits likewise. With FENCE set neither on it nor on
  any earlier packet of its queue that is not completed, FENCE does not hold a packet back. -/
def Obligations.FenceHolds : Prop :=
  (∀ (s : State) (i : Instr) (op : Nat) (cls : Machine.Class) (p x : Packet), packetOf i = some (op, cls, p) → s.up = true →
    s.pairWork.mirroring = false → ((x ∈ s.running.map (·.p) ∨ x ∈ (s.earlier op p).map (·.2) ∨ x ∈ s.pairWork.relayed ∨ x ∈
    s.hold.cancels.map (·.2.2.p))) → x.master = p.master → x.sq = p.sq → p.fence = true → exec i s = .next (s.keepWaiting op
    p)) ∧
  (∀ (s : State) (i : Instr) (op : Nat) (cls : Machine.Class) (p x : Packet), packetOf i = some (op, cls, p) → s.up = true →
    s.pairWork.mirroring = false → ((x ∈ s.running.map (·.p) ∨ x ∈ (s.earlier op p).map (·.2) ∨ x ∈ s.pairWork.relayed ∨ x ∈
    s.hold.cancels.map (·.2.2.p))) → x.master = p.master → x.sq = p.sq → x.fence = true → exec i s = .next (s.keepWaiting op
    p)) ∧
  (∀ (s : State) (op : Nat) (p : Packet), p.fence = false → (∀ x, (x ∈ s.running.map (·.p) ∨ x ∈ (s.earlier op p).map (·.2) ∨
    x ∈ s.pairWork.relayed ∨ x ∈ s.hold.cancels.map (·.2.2.p)) → x.master = p.master → x.sq = p.sq → x.fence = false) →
    s.fenced op p = false)

/-- A HEAD in the span from HEAD to TAIL of a device-written queue becomes its HEAD, one outside it only sets DOORBELL_ERR; a
  doorbell of an enabled queue of TYPE UNUSED only sets DOORBELL_ERR, one of a disabled queue only DOORBELL_OFF; a queue of
  TYPE UNUSED fetches nothing and no entry is posted to one. -/
def Obligations.DoorbellSpan : Prop :=
  (∀ (s : State) (q tick : Nat) (value : Word), s.up = true → s.queueOn q = true → s.queueType q ≠ Ty.SUBMISSION →
    s.queueType q ≠ Ty.UNUSED → s.inSpan q value.toNat = true → exec (.doorbellHead q value tick) s = .next (((s.at
    tick).setQueue q fun Q => { Q with head := value.toNat }).rung q).flush) ∧
  (∀ (s : State) (q tick : Nat) (value : Word), s.up = true → s.queueOn q = true → s.queueType q ≠ Ty.SUBMISSION →
    s.queueType q ≠ Ty.UNUSED → s.inSpan q value.toNat = false → exec (.doorbellHead q value tick) s = .next ((s.at
    tick).setQueue q fun Q => { Q with stat := setBit Q.stat 0 })) ∧
  (∀ (s : State) (q tick : Nat) (value : Word), s.up = true → s.queueOn q = true → s.queueType q = Ty.UNUSED → exec
    (.doorbellHead q value tick) s = .next ((s.at tick).setQueue q fun Q => { Q with stat := setBit Q.stat 0 })) ∧
  (∀ (s : State) (q tick : Nat) (value : Word), s.up = true → s.queueOn q = false → exec (.doorbellHead q value tick) s =
    .next ((s.at tick).setQueue q fun Q => { Q with stat := setBit Q.stat 1 })) ∧
  (∀ (s : State) (q tick : Nat) (value : Word), s.up = true → s.queueOn q = true → s.queueType q ≠ Ty.SUBMISSION →
    s.queueType q ≠ Ty.UNUSED → s.inSpan q value.toNat = true → exec (.doorbellTail q value tick) s = .next (((s.at
    tick).setQueue q fun Q => { Q with head := value.toNat }).rung q).flush) ∧
  (∀ (s : State) (q tick : Nat) (value : Word), s.up = true → s.queueOn q = true → s.queueType q ≠ Ty.SUBMISSION →
    s.queueType q ≠ Ty.UNUSED → s.inSpan q value.toNat = false → exec (.doorbellTail q value tick) s = .next ((s.at
    tick).setQueue q fun Q => { Q with stat := setBit Q.stat 0 })) ∧
  (∀ (s : State) (q tick : Nat) (value : Word), s.up = true → s.queueOn q = true → s.queueType q = Ty.UNUSED → exec
    (.doorbellTail q value tick) s = .next ((s.at tick).setQueue q fun Q => { Q with stat := setBit Q.stat 0 })) ∧
  (∀ (s : State) (q tick : Nat) (value : Word), s.up = true → s.queueOn q = false → exec (.doorbellTail q value tick) s =
    .next ((s.at tick).setQueue q fun Q => { Q with stat := setBit Q.stat 1 })) ∧
  (∀ (s : State) (q tick : Nat) (raws : List (List Byte × Option (List Byte))), s.queueType q = Ty.UNUSED → exec
    (.packetFetch q raws tick) s = .next s) ∧
  (∀ (s : State) (e : Entry) (q : Nat), s.queueFor e = some q → s.queueType q ≠ Ty.UNUSED)

/-- EVENT_MASK takes its two bitmaps from PARAMS; an event of severity FAULT or HALT passes both, any other passes each exactly
  where bit k of its bitmap is set for the event of index k, and on a chip that is no SHADOW one that passes neither takes
  its number in SEQ and goes to no queue and to no management port (a LEAD tells its SHADOW the number, and the tag that an
  ORPHAN_COMPLETION reports is free again: log entry 22); after RESETn every bit is set. -/
def Obligations.EventMasksAct : Prop :=
  (∀ (s : State) (p : Packet), s.admits Op.EVENT_MASK .owner p → p.target = 0xFFFF → exec (.eventMask p) s = .next (complete
    (s.asCmd Op.EVENT_MASK p) St.OK 0
    { (s.accept Op.EVENT_MASK .owner p) with hostMask := slice p.params 0 32, mgmtMask := slice p.params 32 16 })) ∧
  (∀ (s : State) (i : Nat), 2 ≤ eventSeverity i → s.hostTakes i = true ∧ s.mgmtTakes i = true) ∧
  (∀ (s : State) (i : Nat), eventSeverity i < 2 → s.hostTakes i = bit (s.hostMask.getD (i / 8) 0).toNat (i % 8) ∧ s.mgmtTakes
    i = bit (s.mgmtMask.getD (i / 8) 0).toNat (i % 8)) ∧
  (∀ (s : State) (i inst slot : Nat) (data : List Byte), s.pair.role ≠ .shadow → s.hostTakes i = false → s.mgmtTakes i =
    false → s.raise i inst slot data = State.unheard { s with eventSeq := (s.eventSeq + 1) % 2 ^ 32 } (s.newEvent i inst slot
    data s.now)) ∧
  (State.reset.hostMask = List.replicate 32 0xFF ∧ State.reset.mgmtMask = List.replicate 16 0xFF)

/-- When the claim window closes, the claim with the highest priority, and between equals the one with the lower arbiter sequence
  number, gets the key with the next epoch and completes OK, and every other completes KEY_HELD; with KEY_CLAIM_WINDOW at 0
  the first claim of a free key is granted at once, in the arbiter step after its own. -/
def Obligations.ClaimsSettle : Prop :=
  (∀ (s : State) (k : Claim), s.up = true → s.key.windowOpen = true → s.key.claims.Pairwise (fun a b => a.cmd.seq <
    b.cmd.seq) → k ∈ s.key.claims → (∀ x ∈ s.key.claims, x.prio < k.prio ∨ x.prio = k.prio ∧ k.cmd.seq ≤ x.cmd.seq) → ∃ u t,
    exec .claimWindowClose s = .next t ∧ u.key.holder = k.master ∧ u.key.epoch = nextEpoch s.key.epoch ∧ t = refuseClaims
    (s.key.claims.filter fun x => x.cmd.seq ≠ k.cmd.seq) (complete k.cmd St.OK (nextEpoch s.key.epoch).toNat u) ∧ t.key =
    u.key) ∧
  (∀ (s : State) (p : Packet), s.admits Op.CLAIM_KEY .observer p → p.target = 0xFFFF → onlyParams p [(0, 1)] = true → par p 0
    1 ≤ 7 → s.key.holder = 3 → p.master < 3 → s.key.windowOpen = false → s.key.claims = [] → s.imm Fld.KEY_CLAIM_WINDOW = 0 →
    ∃ t, exec (.claimKey p) s = .next t ∧ t.key.holder = p.master ∧ t.key.epoch = nextEpoch s.key.epoch ∧ t.arbSeq =
    ((s.arbSeq + 1) % 2 ^ 32 + 1) % 2 ^ 32)

/-- While any cause is latched, SET_MODE to READY or SERVICE, DRIVE_START, DRIVE_SPEED, MOVE, GROUP_MOVE, HOME, HV_ENABLE and
  FUSER_ENABLE with enable set, and LOOP_CLOSE complete with HALT_LATCHED and do nothing else, in the modes that would take
  them; entering DORMANT keeps the mask, waking too where no safety input is asserted, and RESETn clears it. -/
def Obligations.HaltRefuses : Prop :=
  (∀ (s : State) (p : Packet), s.admits Op.SET_MODE .owner p → s.modes.haltMask ≠ 0 → par p 0 1 = 3 → exec (.setMode p) s =
    .next (complete (s.asCmd Op.SET_MODE p) St.HALT_LATCHED 0 ((s.seen Op.SET_MODE .owner p).arbStep Op.SET_MODE p
    St.HALT_LATCHED))) ∧
  (∀ (s : State) (p : Packet), s.admits Op.SET_MODE .service p → s.modes.haltMask ≠ 0 → par p 0 1 = 5 → (s.mode = .standby ∨
    s.mode = .ready ∨ s.mode = .service) → s.modes.draining = false → s.modes.stopping = .none → exec (.setMode p) s = .next
    (complete (s.asCmd Op.SET_MODE p) St.HALT_LATCHED 0 ((s.seen Op.SET_MODE .service p).arbStep Op.SET_MODE p
    St.HALT_LATCHED))) ∧
  (∀ (s : State) (p : Packet), s.admits Op.DRIVE_START .owner p → s.modes.haltMask ≠ 0 → s.mode = .service → exec
    (.driveStart p) s = .next (complete (s.asCmd Op.DRIVE_START p) St.HALT_LATCHED 0 ((s.seen Op.DRIVE_START .owner
    p).arbStep Op.DRIVE_START p St.HALT_LATCHED))) ∧
  (∀ (s : State) (p : Packet), s.admits Op.DRIVE_SPEED .owner p → s.modes.haltMask ≠ 0 → s.mode = .service → exec
    (.driveSpeed p) s = .next (complete (s.asCmd Op.DRIVE_SPEED p) St.HALT_LATCHED 0 ((s.seen Op.DRIVE_SPEED .owner
    p).arbStep Op.DRIVE_SPEED p St.HALT_LATCHED))) ∧
  (∀ (s : State) (p : Packet), s.admits Op.MOVE .owner p → s.modes.haltMask ≠ 0 → s.mode ≠ .standby → exec (.move p) s =
    .next (complete (s.asCmd Op.MOVE p) St.HALT_LATCHED 0 ((s.seen Op.MOVE .owner p).arbStep Op.MOVE p St.HALT_LATCHED))) ∧
  (∀ (s : State) (p : Packet), s.admits Op.HOME .owner p → s.modes.haltMask ≠ 0 → s.mode ≠ .standby → exec (.home p) s =
    .next (complete (s.asCmd Op.HOME p) St.HALT_LATCHED 0 ((s.seen Op.HOME .owner p).arbStep Op.HOME p St.HALT_LATCHED))) ∧
  (∀ (s : State) (p : Packet), s.admits Op.GROUP_MOVE .owner p → s.modes.haltMask ≠ 0 → s.mode ≠ .standby → exec (.groupMove
    p) s = .next (complete (s.asCmd Op.GROUP_MOVE p) St.HALT_LATCHED 0 ((s.seen Op.GROUP_MOVE .owner p).arbStep Op.GROUP_MOVE
    p St.HALT_LATCHED))) ∧
  (∀ (s : State) (p : Packet), s.admits Op.HV_ENABLE .owner p → s.modes.haltMask ≠ 0 → s.mode ≠ .standby → bit (par p 3 1) 0
    = true → exec (.hvEnable p) s = .next (complete (s.asCmd Op.HV_ENABLE p) St.HALT_LATCHED 0 ((s.seen Op.HV_ENABLE .owner
    p).arbStep Op.HV_ENABLE p St.HALT_LATCHED))) ∧
  (∀ (s : State) (p : Packet), s.admits Op.FUSER_ENABLE .owner p → s.modes.haltMask ≠ 0 → bit (par p 1 1) 0 = true → exec
    (.fuserEnable p) s = .next (complete (s.asCmd Op.FUSER_ENABLE p) St.HALT_LATCHED 0 ((s.seen Op.FUSER_ENABLE .owner
    p).arbStep Op.FUSER_ENABLE p St.HALT_LATCHED))) ∧
  (∀ (s : State) (p : Packet), s.admits Op.LOOP_CLOSE .owner p → s.modes.haltMask ≠ 0 → s.mode ≠ .standby → exec (.loopClose
    p) s = .next (complete (s.asCmd Op.LOOP_CLOSE p) St.HALT_LATCHED 0 ((s.seen Op.LOOP_CLOSE .owner p).arbStep Op.LOOP_CLOSE
    p St.HALT_LATCHED))) ∧
  (∀ (s : State) (lowTicks : Nat), us 10 ≤ lowTicks → ∃ t, exec (.resetnAssert lowTicks) s = .next t ∧ t.modes.haltMask = 0) ∧
  (∀ (s : State) (p : Packet), s.admits Op.SET_MODE .owner p → par p 0 1 = 0 → s.pair.role ≠ .shadow → p.target = 0xFFFF →
    onlyParams p [(0, 1)] = true → firstFail s.dormantBad = none → ∃ t, exec (.setMode p) s = .next t ∧ t.mode = .dormant ∧
    t.modes.haltMask = s.modes.haltMask) ∧
  (∀ (s : State), s.safety.interlock = false → s.safety.overtemp = false → s.pair.dboltIn = false → ∃ t, exec .wakeDone s =
    .next t ∧ t.modes.haltMask = s.modes.haltMask)

/-- Completing a command, raising an event, delivering an entry, and everything that goes out as the rings take it leave every
  register, every mode, every unit and the accepted commands as they are; only the device's side of the rings, what is held
  for them, the entries that wait, the tags in use, SEQ and what left the chip may change. -/
def Obligations.PostingFrame : Prop :=
  (∀ (s : State) (c : Cmd) (status result : Nat), (complete c status result s).unposted = s.unposted) ∧
  (∀ (s : State) (i inst slot : Nat) (data : List Byte), (s.raise i inst slot data).unposted = s.unposted) ∧
  (∀ (s : State) (e : Entry) (host mgmt : Bool), (s.deliver e host mgmt).unposted = s.unposted) ∧
  (∀ (s : State), s.flush.unposted = s.unposted)

/-- Where no grant and no lapse of the key is due before the cycle of the packet, NOP, the commands that only report and
  KEY_TOUCH leave every register, every mode, every unit, the holder and the epoch of the key as they are, whatever becomes
  of the command: only the time, the arbiter's number and the trace of its step, the packets and commands that wait, the
  lease with the claims that wait on it, and what posting writes may change. -/
def Obligations.ReportsFrame : Prop :=
  (∀ (s t : State) (p : Packet), s.keyQuiet p → exec (.nop p) s = .next t → t.unjudged = s.unjudged) ∧
  (∀ (s t : State) (p : Packet), s.keyQuiet p → exec (.getInfo p) s = .next t → t.unjudged = s.unjudged) ∧
  (∀ (s t : State) (p : Packet), s.keyQuiet p → exec (.getMode p) s = .next t → t.unjudged = s.unjudged) ∧
  (∀ (s t : State) (p : Packet), s.keyQuiet p → exec (.getKey p) s = .next t → t.unjudged = s.unjudged) ∧
  (∀ (s t : State) (p : Packet), s.keyQuiet p → exec (.keyTouch p) s = .next t → t.unjudged = s.unjudged) ∧
  (∀ (s t : State) (p : Packet), s.keyQuiet p → exec (.sheetQuery p) s = .next t → t.unjudged = s.unjudged) ∧
  (∀ (s t : State) (p : Packet), s.keyQuiet p → exec (.dmaStatus p) s = .next t → t.unjudged = s.unjudged) ∧
  (∀ (s t : State) (p : Packet), s.keyQuiet p → exec (.motionStatus p) s = .next t → t.unjudged = s.unjudged) ∧
  (∀ (s t : State) (p : Packet), s.keyQuiet p → exec (.loopStatus p) s = .next t → t.unjudged = s.unjudged) ∧
  (∀ (s t : State) (p : Packet), s.keyQuiet p → exec (.supplyStatus p) s = .next t → t.unjudged = s.unjudged) ∧
  (∀ (s t : State) (p : Packet), s.keyQuiet p → exec (.calStatus p) s = .next t → t.unjudged = s.unjudged) ∧
  (∀ (s t : State) (p : Packet), s.keyQuiet p → exec (.memStatus p) s = .next t → t.unjudged = s.unjudged) ∧
  (∀ (s t : State) (p : Packet), s.keyQuiet p → exec (.pairStatus p) s = .next t → t.unjudged = s.unjudged) ∧
  (∀ (s t : State) (p : Packet), s.keyQuiet p → exec (.fuseRead p) s = .next t → t.unjudged = s.unjudged) ∧
  (∀ (s t : State) (p : Packet), s.keyQuiet p → exec (.auditRead p) s = .next t → t.unjudged = s.unjudged)

/-- The bytes of a completion, an event, a completion record and a data request, each with its fields in their ranges, read back
  as the entry, and have the length of their ring's entry. -/
def Obligations.EntriesReadBack : Prop :=
  (∀ (c : Completion), c.tag < 2 ^ 16 → c.status < 2 ^ 16 → c.op < 2 ^ 16 → c.sq < 2 ^ 8 → c.flags < 2 ^ 8 → c.result < 2 ^
    32 → c.sqHead < 2 ^ 16 → c.arbSeq < 2 ^ 16 → c.master = sqMaster c.sq → readCompletion c.cq c.bytes = c ∧ c.bytes.length
    = entrySize Ty.COMPLETION) ∧
  (∀ (e : Event), e.code < 2 ^ 16 → e.severity < 2 ^ 8 → e.inst < 2 ^ 8 → e.seq < 2 ^ 32 → e.time < 2 ^ 64 → e.slot < 2 ^ 8 →
    e.data.length = 8 → readEvent e.bytes = e ∧ e.bytes.length = entrySize Ty.EVENT) ∧
  (∀ (r : Record), r.state < 2 ^ 8 → r.slot < 2 ^ 8 → r.location < 2 ^ 8 → r.sheetId < 2 ^ 32 → r.jobId < 2 ^ 32 → r.seq < 2
    ^ 32 → r.tPick < 2 ^ 64 → r.tHinge < 2 ^ 64 → r.tClose < 2 ^ 64 → r.flags < 2 ^ 32 → r.gap < 2 ^ 32 → r.retries < 2 ^ 16
    → r.lost < 2 ^ 16 → -2 ^ 15 ≤ r.speedErr → r.speedErr < 2 ^ 15 → r.stations < 2 ^ 8 → readRecord r.bytes = r ∧
    r.bytes.length = entrySize Ty.SHEET_RECORD) ∧
  (∀ (d : DataRequest), d.kind < 2 ^ 8 → d.station < 2 ^ 8 → d.slot < 2 ^ 8 → d.sheetId < 2 ^ 32 → d.band < 2 ^ 16 → d.first
    < 2 ^ 16 → d.length < 2 ^ 32 → d.ofs < 2 ^ 32 → d.seq < 2 ^ 32 → d.status < 2 ^ 16 → readRequest d.bytes = d ∧
    d.bytes.length = entrySize Ty.DATA_REQUEST)

/-- A host-to-device descriptor of the scratch region that finishes stores its bytes, each at its offset plus its place in the
  data, and every other byte of the scratch region reads as before. -/
def Obligations.ScratchFrame : Prop :=
  (∀ (s : State) (channel tick a : Nat) (data : List Byte) (d : Desc), s.up = true → s.dmaRuns = true → (s.channel
    channel).cur = some d → d.region ≠ 0 → d.dir = 0 → Store.wf zeroByte s.dma.scratch = true → (a < d.ofs ∨ d.ofs + d.length
    ≤ a) → ∃ t, exec (.descriptorDone channel data tick) s = .next t ∧ Store.get zeroByte t.dma.scratch a = Store.get
    zeroByte s.dma.scratch a) ∧
  (∀ (s : State) (channel tick i : Nat) (data : List Byte) (d : Desc), s.up = true → s.dmaRuns = true → (s.channel
    channel).cur = some d → d.region ≠ 0 → d.dir = 0 → Store.wf zeroByte s.dma.scratch = true → i < d.length → data.length =
    d.length → ∃ t, exec (.descriptorDone channel data tick) s = .next t ∧ Store.get zeroByte t.dma.scratch (d.ofs + i) =
    data.getD i 0)

/-- Every command packet with its fields in their ranges, laid out in its 64 bytes with its CRC, reads back as the same opcode
  and packet and passes the checks of CRC and must-be-0 bits, so two packets that differ in a field differ in their bytes;
  and fetched from an enabled SUBMISSION queue with a tag that is free, an opcode of the table and a live COMPLETION queue,
  it waits for the arbiter as that packet, its tag outstanding and HEAD moved past it. -/
def Obligations.PacketRoundTrip : Prop :=
  (∀ (op : Nat) (p : Packet), op < 2 ^ 16 → p.tag < 1024 → p.cq < 2 ^ 8 → p.target < 2 ^ 16 → p.params.length = 48 →
    readPacket p.master p.sq p.index (encodePacket op p) p.args p.tick = (op, p) ∧ (encodePacket op p).length = 64 ∧ crcGood
    (encodePacket op p) = true ∧ mustBeZero (encodePacket op p) = true) ∧
  (∀ (s : State) (op : Nat) (p : Packet), s.up = true → s.mayFetch p.sq = true → 0 < s.fetchRoom p.sq → op < 2 ^ 16 → p.tag <
    1024 → p.cq < 2 ^ 8 → p.target < 2 ^ 16 → p.params.length = 48 → p.master = 0 → p.index = (s.queue p.sq).head →
    s.tags.contains (0, p.tag) = false → Op.all.contains op = true → p.cq < 32 → s.queueType p.cq = Ty.COMPLETION → (exec
    (.packetFetch p.sq [(encodePacket op p, p.args)] p.tick) s = .next
    (let t := ((s.at p.tick).fetched p.sq 1).holdTag p; { t with arrived := t.arrived ++ [(op, p)] })))
end

