-- ==== Sys2Proof/Laws/State.lean ====
section
/-! SUPPORT. Small lemmas about the state: for each named update what every field holds after it, and what an instance holds
after an update of one. -/

namespace Sys2Proof.Machine

section
variable (s : State) (t : Nat)
@[simp] theorem State.at_pending : (s.at t).pending = s.pending := rfl
@[simp] theorem State.at_freeCount : (s.at t).freeCount = s.freeCount := rfl
@[simp] theorem State.at_now : (s.at t).now = max s.now t := rfl
@[simp] theorem State.at_regs : (s.at t).regs = s.regs := rfl
@[simp] theorem State.at_live : (s.at t).live = s.live := rfl
@[simp] theorem State.at_snaps : (s.at t).snaps = s.snaps := rfl
@[simp] theorem State.at_refused : (s.at t).refused = s.refused := rfl
@[simp] theorem State.at_tumbler : (s.at t).tumbler = s.tumbler := rfl
@[simp] theorem State.at_queues : (s.at t).queues = s.queues := rfl
@[simp] theorem State.at_hold : (s.at t).hold = s.hold := rfl
@[simp] theorem State.at_arrived : (s.at t).arrived = s.arrived := rfl
@[simp] theorem State.at_running : (s.at t).running = s.running := rfl
@[simp] theorem State.at_tags : (s.at t).tags = s.tags := rfl
@[simp] theorem State.at_arbSeq : (s.at t).arbSeq = s.arbSeq := rfl
@[simp] theorem State.at_arb : (s.at t).arb = s.arb := rfl
@[simp] theorem State.at_eventSeq : (s.at t).eventSeq = s.eventSeq := rfl
@[simp] theorem State.at_hostMask : (s.at t).hostMask = s.hostMask := rfl
@[simp] theorem State.at_mgmtMask : (s.at t).mgmtMask = s.mgmtMask := rfl
@[simp] theorem State.at_mgmt : (s.at t).mgmt = s.mgmt := rfl
@[simp] theorem State.at_key : (s.at t).key = s.key := rfl
@[simp] theorem State.at_cred : (s.at t).cred = s.cred := rfl
@[simp] theorem State.at_modes : (s.at t).modes = s.modes := rfl
@[simp] theorem State.at_resets : (s.at t).resets = s.resets := rfl
@[simp] theorem State.at_boot : (s.at t).boot = s.boot := rfl
@[simp] theorem State.at_sheets : (s.at t).sheets = s.sheets := rfl
@[simp] theorem State.at_dma : (s.at t).dma = s.dma := rfl
@[simp] theorem State.at_feed : (s.at t).feed = s.feed := rfl
@[simp] theorem State.at_stations : (s.at t).stations = s.stations := rfl
@[simp] theorem State.at_run : (s.at t).run = s.run := rfl
@[simp] theorem State.at_drives : (s.at t).drives = s.drives := rfl
@[simp] theorem State.at_bus : (s.at t).bus = s.bus := rfl
@[simp] theorem State.at_loops : (s.at t).loops = s.loops := rfl
@[simp] theorem State.at_loopWorst : (s.at t).loopWorst = s.loopWorst := rfl
@[simp] theorem State.at_axes : (s.at t).axes = s.axes := rfl
@[simp] theorem State.at_groups : (s.at t).groups = s.groups := rfl
@[simp] theorem State.at_encoders : (s.at t).encoders = s.encoders := rfl
@[simp] theorem State.at_path : (s.at t).path = s.path := rfl
@[simp] theorem State.at_hv : (s.at t).hv = s.hv := rfl
@[simp] theorem State.at_zones : (s.at t).zones = s.zones := rfl
@[simp] theorem State.at_therms : (s.at t).therms = s.therms := rfl
@[simp] theorem State.at_safety : (s.at t).safety = s.safety := rfl
@[simp] theorem State.at_mem : (s.at t).mem = s.mem := rfl
@[simp] theorem State.at_afe : (s.at t).afe = s.afe := rfl
@[simp] theorem State.at_pair : (s.at t).pair = s.pair := rfl
@[simp] theorem State.at_pairWork : (s.at t).pairWork = s.pairWork := rfl
@[simp] theorem State.at_supply : (s.at t).supply = s.supply := rfl
@[simp] theorem State.at_nv : (s.at t).nv = s.nv := rfl
@[simp] theorem State.at_pins : (s.at t).pins = s.pins := rfl
@[simp] theorem State.at_trace : (s.at t).trace = s.trace := rfl
@[simp] theorem State.at_captures : (s.at t).captures = s.captures := rfl
@[simp] theorem State.at_outbox : (s.at t).outbox = s.outbox := rfl
end

section
variable (s : State) (o : Output)
@[simp] theorem State.out_pending : (s.out o).pending = s.pending := rfl
@[simp] theorem State.out_freeCount : (s.out o).freeCount = s.freeCount := rfl
@[simp] theorem State.out_now : (s.out o).now = s.now := rfl
@[simp] theorem State.out_regs : (s.out o).regs = s.regs := rfl
@[simp] theorem State.out_live : (s.out o).live = s.live := rfl
@[simp] theorem State.out_snaps : (s.out o).snaps = s.snaps := rfl
@[simp] theorem State.out_refused : (s.out o).refused = s.refused := rfl
@[simp] theorem State.out_tumbler : (s.out o).tumbler = s.tumbler := rfl
@[simp] theorem State.out_queues : (s.out o).queues = s.queues := rfl
@[simp] theorem State.out_hold : (s.out o).hold = s.hold := rfl
@[simp] theorem State.out_arrived : (s.out o).arrived = s.arrived := rfl
@[simp] theorem State.out_running : (s.out o).running = s.running := rfl
@[simp] theorem State.out_tags : (s.out o).tags = s.tags := rfl
@[simp] theorem State.out_arbSeq : (s.out o).arbSeq = s.arbSeq := rfl
@[simp] theorem State.out_arb : (s.out o).arb = s.arb := rfl
@[simp] theorem State.out_eventSeq : (s.out o).eventSeq = s.eventSeq := rfl
@[simp] theorem State.out_hostMask : (s.out o).hostMask = s.hostMask := rfl
@[simp] theorem State.out_mgmtMask : (s.out o).mgmtMask = s.mgmtMask := rfl
@[simp] theorem State.out_mgmt : (s.out o).mgmt = s.mgmt := rfl
@[simp] theorem State.out_key : (s.out o).key = s.key := rfl
@[simp] theorem State.out_cred : (s.out o).cred = s.cred := rfl
@[simp] theorem State.out_modes : (s.out o).modes = s.modes := rfl
@[simp] theorem State.out_resets : (s.out o).resets = s.resets := rfl
@[simp] theorem State.out_boot : (s.out o).boot = s.boot := rfl
@[simp] theorem State.out_sheets : (s.out o).sheets = s.sheets := rfl
@[simp] theorem State.out_dma : (s.out o).dma = s.dma := rfl
@[simp] theorem State.out_feed : (s.out o).feed = s.feed := rfl
@[simp] theorem State.out_stations : (s.out o).stations = s.stations := rfl
@[simp] theorem State.out_run : (s.out o).run = s.run := rfl
@[simp] theorem State.out_drives : (s.out o).drives = s.drives := rfl
@[simp] theorem State.out_bus : (s.out o).bus = s.bus := rfl
@[simp] theorem State.out_loops : (s.out o).loops = s.loops := rfl
@[simp] theorem State.out_loopWorst : (s.out o).loopWorst = s.loopWorst := rfl
@[simp] theorem State.out_axes : (s.out o).axes = s.axes := rfl
@[simp] theorem State.out_groups : (s.out o).groups = s.groups := rfl
@[simp] theorem State.out_encoders : (s.out o).encoders = s.encoders := rfl
@[simp] theorem State.out_path : (s.out o).path = s.path := rfl
@[simp] theorem State.out_hv : (s.out o).hv = s.hv := rfl
@[simp] theorem State.out_zones : (s.out o).zones = s.zones := rfl
@[simp] theorem State.out_therms : (s.out o).therms = s.therms := rfl
@[simp] theorem State.out_safety : (s.out o).safety = s.safety := rfl
@[simp] theorem State.out_mem : (s.out o).mem = s.mem := rfl
@[simp] theorem State.out_afe : (s.out o).afe = s.afe := rfl
@[simp] theorem State.out_pair : (s.out o).pair = s.pair := rfl
@[simp] theorem State.out_pairWork : (s.out o).pairWork = s.pairWork := rfl
@[simp] theorem State.out_supply : (s.out o).supply = s.supply := rfl
@[simp] theorem State.out_nv : (s.out o).nv = s.nv := rfl
@[simp] theorem State.out_pins : (s.out o).pins = s.pins := rfl
@[simp] theorem State.out_trace : (s.out o).trace = s.trace := rfl
@[simp] theorem State.out_captures : (s.out o).captures = s.captures := rfl
@[simp] theorem State.out_outbox : (s.out o).outbox = s.outbox ++ [o] := rfl
end

section
variable (s : State) (a : Nat) (w : Word)
@[simp] theorem State.setReg_pending : (s.setReg a w).pending = s.pending := rfl
@[simp] theorem State.setReg_freeCount : (s.setReg a w).freeCount = s.freeCount := rfl
@[simp] theorem State.setReg_now : (s.setReg a w).now = s.now := rfl
@[simp] theorem State.setReg_regs : (s.setReg a w).regs = Store.put resetWord s.regs a w := rfl
@[simp] theorem State.setReg_live : (s.setReg a w).live = s.live := rfl
@[simp] theorem State.setReg_snaps : (s.setReg a w).snaps = s.snaps := rfl
@[simp] theorem State.setReg_refused : (s.setReg a w).refused = s.refused := rfl
@[simp] theorem State.setReg_tumbler : (s.setReg a w).tumbler = s.tumbler := rfl
@[simp] theorem State.setReg_queues : (s.setReg a w).queues = s.queues := rfl
@[simp] theorem State.setReg_hold : (s.setReg a w).hold = s.hold := rfl
@[simp] theorem State.setReg_arrived : (s.setReg a w).arrived = s.arrived := rfl
@[simp] theorem State.setReg_running : (s.setReg a w).running = s.running := rfl
@[simp] theorem State.setReg_tags : (s.setReg a w).tags = s.tags := rfl
@[simp] theorem State.setReg_arbSeq : (s.setReg a w).arbSeq = s.arbSeq := rfl
@[simp] theorem State.setReg_arb : (s.setReg a w).arb = s.arb := rfl
@[simp] theorem State.setReg_eventSeq : (s.setReg a w).eventSeq = s.eventSeq := rfl
@[simp] theorem State.setReg_hostMask : (s.setReg a w).hostMask = s.hostMask := rfl
@[simp] theorem State.setReg_mgmtMask : (s.setReg a w).mgmtMask = s.mgmtMask := rfl
@[simp] theorem State.setReg_mgmt : (s.setReg a w).mgmt = s.mgmt := rfl
@[simp] theorem State.setReg_key : (s.setReg a w).key = s.key := rfl
@[simp] theorem State.setReg_cred : (s.setReg a w).cred = s.cred := rfl
@[simp] theorem State.setReg_modes : (s.setReg a w).modes = s.modes := rfl
@[simp] theorem State.setReg_resets : (s.setReg a w).resets = s.resets := rfl
@[simp] theorem State.setReg_boot : (s.setReg a w).boot = s.boot := rfl
@[simp] theorem State.setReg_sheets : (s.setReg a w).sheets = s.sheets := rfl
@[simp] theorem State.setReg_dma : (s.setReg a w).dma = s.dma := rfl
@[simp] theorem State.setReg_feed : (s.setReg a w).feed = s.feed := rfl
@[simp] theorem State.setReg_stations : (s.setReg a w).stations = s.stations := rfl
@[simp] theorem State.setReg_run : (s.setReg a w).run = s.run := rfl
@[simp] theorem State.setReg_drives : (s.setReg a w).drives = s.drives := rfl
@[simp] theorem State.setReg_bus : (s.setReg a w).bus = s.bus := rfl
@[simp] theorem State.setReg_loops : (s.setReg a w).loops = s.loops := rfl
@[simp] theorem State.setReg_loopWorst : (s.setReg a w).loopWorst = s.loopWorst := rfl
@[simp] theorem State.setReg_axes : (s.setReg a w).axes = s.axes := rfl
@[simp] theorem State.setReg_groups : (s.setReg a w).groups = s.groups := rfl
@[simp] theorem State.setReg_encoders : (s.setReg a w).encoders = s.encoders := rfl
@[simp] theorem State.setReg_path : (s.setReg a w).path = s.path := rfl
@[simp] theorem State.setReg_hv : (s.setReg a w).hv = s.hv := rfl
@[simp] theorem State.setReg_zones : (s.setReg a w).zones = s.zones := rfl
@[simp] theorem State.setReg_therms : (s.setReg a w).therms = s.therms := rfl
@[simp] theorem State.setReg_safety : (s.setReg a w).safety = s.safety := rfl
@[simp] theorem State.setReg_mem : (s.setReg a w).mem = s.mem := rfl
@[simp] theorem State.setReg_afe : (s.setReg a w).afe = s.afe := rfl
@[simp] theorem State.setReg_pair : (s.setReg a w).pair = s.pair := rfl
@[simp] theorem State.setReg_pairWork : (s.setReg a w).pairWork = s.pairWork := rfl
@[simp] theorem State.setReg_supply : (s.setReg a w).supply = s.supply := rfl
@[simp] theorem State.setReg_nv : (s.setReg a w).nv = s.nv := rfl
@[simp] theorem State.setReg_pins : (s.setReg a w).pins = s.pins := rfl
@[simp] theorem State.setReg_trace : (s.setReg a w).trace = s.trace := rfl
@[simp] theorem State.setReg_captures : (s.setReg a w).captures = s.captures := rfl
@[simp] theorem State.setReg_outbox : (s.setReg a w).outbox = s.outbox := rfl
end

section
variable (s : State) (a : Nat) (w : Word)
@[simp] theorem State.setLiveReg_pending : (s.setLiveReg a w).pending = s.pending := rfl
@[simp] theorem State.setLiveReg_freeCount : (s.setLiveReg a w).freeCount = s.freeCount := rfl
@[simp] theorem State.setLiveReg_now : (s.setLiveReg a w).now = s.now := rfl
@[simp] theorem State.setLiveReg_regs : (s.setLiveReg a w).regs = s.regs := rfl
@[simp] theorem State.setLiveReg_live : (s.setLiveReg a w).live = Store.put resetWord s.live a w := rfl
@[simp] theorem State.setLiveReg_snaps : (s.setLiveReg a w).snaps = s.snaps := rfl
@[simp] theorem State.setLiveReg_refused : (s.setLiveReg a w).refused = s.refused := rfl
@[simp] theorem State.setLiveReg_tumbler : (s.setLiveReg a w).tumbler = s.tumbler := rfl
@[simp] theorem State.setLiveReg_queues : (s.setLiveReg a w).queues = s.queues := rfl
@[simp] theorem State.setLiveReg_hold : (s.setLiveReg a w).hold = s.hold := rfl
@[simp] theorem State.setLiveReg_arrived : (s.setLiveReg a w).arrived = s.arrived := rfl
@[simp] theorem State.setLiveReg_running : (s.setLiveReg a w).running = s.running := rfl
@[simp] theorem State.setLiveReg_tags : (s.setLiveReg a w).tags = s.tags := rfl
@[simp] theorem State.setLiveReg_arbSeq : (s.setLiveReg a w).arbSeq = s.arbSeq := rfl
@[simp] theorem State.setLiveReg_arb : (s.setLiveReg a w).arb = s.arb := rfl
@[simp] theorem State.setLiveReg_eventSeq : (s.setLiveReg a w).eventSeq = s.eventSeq := rfl
@[simp] theorem State.setLiveReg_hostMask : (s.setLiveReg a w).hostMask = s.hostMask := rfl
@[simp] theorem State.setLiveReg_mgmtMask : (s.setLiveReg a w).mgmtMask = s.mgmtMask := rfl
@[simp] theorem State.setLiveReg_mgmt : (s.setLiveReg a w).mgmt = s.mgmt := rfl
@[simp] theorem State.setLiveReg_key : (s.setLiveReg a w).key = s.key := rfl
@[simp] theorem State.setLiveReg_cred : (s.setLiveReg a w).cred = s.cred := rfl
@[simp] theorem State.setLiveReg_modes : (s.setLiveReg a w).modes = s.modes := rfl
@[simp] theorem State.setLiveReg_resets : (s.setLiveReg a w).resets = s.resets := rfl
@[simp] theorem State.setLiveReg_boot : (s.setLiveReg a w).boot = s.boot := rfl
@[simp] theorem State.setLiveReg_sheets : (s.setLiveReg a w).sheets = s.sheets := rfl
@[simp] theorem State.setLiveReg_dma : (s.setLiveReg a w).dma = s.dma := rfl
@[simp] theorem State.setLiveReg_feed : (s.setLiveReg a w).feed = s.feed := rfl
@[simp] theorem State.setLiveReg_stations : (s.setLiveReg a w).stations = s.stations := rfl
@[simp] theorem State.setLiveReg_run : (s.setLiveReg a w).run = s.run := rfl
@[simp] theorem State.setLiveReg_drives : (s.setLiveReg a w).drives = s.drives := rfl
@[simp] theorem State.setLiveReg_bus : (s.setLiveReg a w).bus = s.bus := rfl
@[simp] theorem State.setLiveReg_loops : (s.setLiveReg a w).loops = s.loops := rfl
@[simp] theorem State.setLiveReg_loopWorst : (s.setLiveReg a w).loopWorst = s.loopWorst := rfl
@[simp] theorem State.setLiveReg_axes : (s.setLiveReg a w).axes = s.axes := rfl
@[simp] theorem State.setLiveReg_groups : (s.setLiveReg a w).groups = s.groups := rfl
@[simp] theorem State.setLiveReg_encoders : (s.setLiveReg a w).encoders = s.encoders := rfl
@[simp] theorem State.setLiveReg_path : (s.setLiveReg a w).path = s.path := rfl
@[simp] theorem State.setLiveReg_hv : (s.setLiveReg a w).hv = s.hv := rfl
@[simp] theorem State.setLiveReg_zones : (s.setLiveReg a w).zones = s.zones := rfl
@[simp] theorem State.setLiveReg_therms : (s.setLiveReg a w).therms = s.therms := rfl
@[simp] theorem State.setLiveReg_safety : (s.setLiveReg a w).safety = s.safety := rfl
@[simp] theorem State.setLiveReg_mem : (s.setLiveReg a w).mem = s.mem := rfl
@[simp] theorem State.setLiveReg_afe : (s.setLiveReg a w).afe = s.afe := rfl
@[simp] theorem State.setLiveReg_pair : (s.setLiveReg a w).pair = s.pair := rfl
@[simp] theorem State.setLiveReg_pairWork : (s.setLiveReg a w).pairWork = s.pairWork := rfl
@[simp] theorem State.setLiveReg_supply : (s.setLiveReg a w).supply = s.supply := rfl
@[simp] theorem State.setLiveReg_nv : (s.setLiveReg a w).nv = s.nv := rfl
@[simp] theorem State.setLiveReg_pins : (s.setLiveReg a w).pins = s.pins := rfl
@[simp] theorem State.setLiveReg_trace : (s.setLiveReg a w).trace = s.trace := rfl
@[simp] theorem State.setLiveReg_captures : (s.setLiveReg a w).captures = s.captures := rfl
@[simp] theorem State.setLiveReg_outbox : (s.setLiveReg a w).outbox = s.outbox := rfl
end

section
variable (s : State) (f : FieldRef) (v : Nat)
@[simp] theorem State.setImm_pending : (s.setImm f v).pending = s.pending := rfl
@[simp] theorem State.setImm_freeCount : (s.setImm f v).freeCount = s.freeCount := rfl
@[simp] theorem State.setImm_now : (s.setImm f v).now = s.now := rfl
@[simp] theorem State.setImm_regs : (s.setImm f v).regs = Store.put resetWord s.regs f.addr (wordWith (s.reg f.addr) f v) := rfl
@[simp] theorem State.setImm_live : (s.setImm f v).live = s.live := rfl
@[simp] theorem State.setImm_snaps : (s.setImm f v).snaps = s.snaps := rfl
@[simp] theorem State.setImm_refused : (s.setImm f v).refused = s.refused := rfl
@[simp] theorem State.setImm_tumbler : (s.setImm f v).tumbler = s.tumbler := rfl
@[simp] theorem State.setImm_queues : (s.setImm f v).queues = s.queues := rfl
@[simp] theorem State.setImm_hold : (s.setImm f v).hold = s.hold := rfl
@[simp] theorem State.setImm_arrived : (s.setImm f v).arrived = s.arrived := rfl
@[simp] theorem State.setImm_running : (s.setImm f v).running = s.running := rfl
@[simp] theorem State.setImm_tags : (s.setImm f v).tags = s.tags := rfl
@[simp] theorem State.setImm_arbSeq : (s.setImm f v).arbSeq = s.arbSeq := rfl
@[simp] theorem State.setImm_arb : (s.setImm f v).arb = s.arb := rfl
@[simp] theorem State.setImm_eventSeq : (s.setImm f v).eventSeq = s.eventSeq := rfl
@[simp] theorem State.setImm_hostMask : (s.setImm f v).hostMask = s.hostMask := rfl
@[simp] theorem State.setImm_mgmtMask : (s.setImm f v).mgmtMask = s.mgmtMask := rfl
@[simp] theorem State.setImm_mgmt : (s.setImm f v).mgmt = s.mgmt := rfl
@[simp] theorem State.setImm_key : (s.setImm f v).key = s.key := rfl
@[simp] theorem State.setImm_cred : (s.setImm f v).cred = s.cred := rfl
@[simp] theorem State.setImm_modes : (s.setImm f v).modes = s.modes := rfl
@[simp] theorem State.setImm_resets : (s.setImm f v).resets = s.resets := rfl
@[simp] theorem State.setImm_boot : (s.setImm f v).boot = s.boot := rfl
@[simp] theorem State.setImm_sheets : (s.setImm f v).sheets = s.sheets := rfl
@[simp] theorem State.setImm_dma : (s.setImm f v).dma = s.dma := rfl
@[simp] theorem State.setImm_feed : (s.setImm f v).feed = s.feed := rfl
@[simp] theorem State.setImm_stations : (s.setImm f v).stations = s.stations := rfl
@[simp] theorem State.setImm_run : (s.setImm f v).run = s.run := rfl
@[simp] theorem State.setImm_drives : (s.setImm f v).drives = s.drives := rfl
@[simp] theorem State.setImm_bus : (s.setImm f v).bus = s.bus := rfl
@[simp] theorem State.setImm_loops : (s.setImm f v).loops = s.loops := rfl
@[simp] theorem State.setImm_loopWorst : (s.setImm f v).loopWorst = s.loopWorst := rfl
@[simp] theorem State.setImm_axes : (s.setImm f v).axes = s.axes := rfl
@[simp] theorem State.setImm_groups : (s.setImm f v).groups = s.groups := rfl
@[simp] theorem State.setImm_encoders : (s.setImm f v).encoders = s.encoders := rfl
@[simp] theorem State.setImm_path : (s.setImm f v).path = s.path := rfl
@[simp] theorem State.setImm_hv : (s.setImm f v).hv = s.hv := rfl
@[simp] theorem State.setImm_zones : (s.setImm f v).zones = s.zones := rfl
@[simp] theorem State.setImm_therms : (s.setImm f v).therms = s.therms := rfl
@[simp] theorem State.setImm_safety : (s.setImm f v).safety = s.safety := rfl
@[simp] theorem State.setImm_mem : (s.setImm f v).mem = s.mem := rfl
@[simp] theorem State.setImm_afe : (s.setImm f v).afe = s.afe := rfl
@[simp] theorem State.setImm_pair : (s.setImm f v).pair = s.pair := rfl
@[simp] theorem State.setImm_pairWork : (s.setImm f v).pairWork = s.pairWork := rfl
@[simp] theorem State.setImm_supply : (s.setImm f v).supply = s.supply := rfl
@[simp] theorem State.setImm_nv : (s.setImm f v).nv = s.nv := rfl
@[simp] theorem State.setImm_pins : (s.setImm f v).pins = s.pins := rfl
@[simp] theorem State.setImm_trace : (s.setImm f v).trace = s.trace := rfl
@[simp] theorem State.setImm_captures : (s.setImm f v).captures = s.captures := rfl
@[simp] theorem State.setImm_outbox : (s.setImm f v).outbox = s.outbox := rfl
end

section
variable (s : State) (c : Cmd)
@[simp] theorem State.start_pending : (s.start c).pending = s.pending := rfl
@[simp] theorem State.start_freeCount : (s.start c).freeCount = s.freeCount := rfl
@[simp] theorem State.start_now : (s.start c).now = s.now := rfl
@[simp] theorem State.start_regs : (s.start c).regs = s.regs := rfl
@[simp] theorem State.start_live : (s.start c).live = s.live := rfl
@[simp] theorem State.start_snaps : (s.start c).snaps = s.snaps := rfl
@[simp] theorem State.start_refused : (s.start c).refused = s.refused := rfl
@[simp] theorem State.start_tumbler : (s.start c).tumbler = s.tumbler := rfl
@[simp] theorem State.start_queues : (s.start c).queues = s.queues := rfl
@[simp] theorem State.start_hold : (s.start c).hold = s.hold := rfl
@[simp] theorem State.start_arrived : (s.start c).arrived = s.arrived := rfl
@[simp] theorem State.start_running : (s.start c).running = s.running ++ [c] := rfl
@[simp] theorem State.start_tags : (s.start c).tags = s.tags := rfl
@[simp] theorem State.start_arbSeq : (s.start c).arbSeq = s.arbSeq := rfl
@[simp] theorem State.start_arb : (s.start c).arb = s.arb := rfl
@[simp] theorem State.start_eventSeq : (s.start c).eventSeq = s.eventSeq := rfl
@[simp] theorem State.start_hostMask : (s.start c).hostMask = s.hostMask := rfl
@[simp] theorem State.start_mgmtMask : (s.start c).mgmtMask = s.mgmtMask := rfl
@[simp] theorem State.start_mgmt : (s.start c).mgmt = s.mgmt := rfl
@[simp] theorem State.start_key : (s.start c).key = s.key := rfl
@[simp] theorem State.start_cred : (s.start c).cred = s.cred := rfl
@[simp] theorem State.start_modes : (s.start c).modes = s.modes := rfl
@[simp] theorem State.start_resets : (s.start c).resets = s.resets := rfl
@[simp] theorem State.start_boot : (s.start c).boot = s.boot := rfl
@[simp] theorem State.start_sheets : (s.start c).sheets = s.sheets := rfl
@[simp] theorem State.start_dma : (s.start c).dma = s.dma := rfl
@[simp] theorem State.start_feed : (s.start c).feed = s.feed := rfl
@[simp] theorem State.start_stations : (s.start c).stations = s.stations := rfl
@[simp] theorem State.start_run : (s.start c).run = s.run := rfl
@[simp] theorem State.start_drives : (s.start c).drives = s.drives := rfl
@[simp] theorem State.start_bus : (s.start c).bus = s.bus := rfl
@[simp] theorem State.start_loops : (s.start c).loops = s.loops := rfl
@[simp] theorem State.start_loopWorst : (s.start c).loopWorst = s.loopWorst := rfl
@[simp] theorem State.start_axes : (s.start c).axes = s.axes := rfl
@[simp] theorem State.start_groups : (s.start c).groups = s.groups := rfl
@[simp] theorem State.start_encoders : (s.start c).encoders = s.encoders := rfl
@[simp] theorem State.start_path : (s.start c).path = s.path := rfl
@[simp] theorem State.start_hv : (s.start c).hv = s.hv := rfl
@[simp] theorem State.start_zones : (s.start c).zones = s.zones := rfl
@[simp] theorem State.start_therms : (s.start c).therms = s.therms := rfl
@[simp] theorem State.start_safety : (s.start c).safety = s.safety := rfl
@[simp] theorem State.start_mem : (s.start c).mem = s.mem := rfl
@[simp] theorem State.start_afe : (s.start c).afe = s.afe := rfl
@[simp] theorem State.start_pair : (s.start c).pair = s.pair := rfl
@[simp] theorem State.start_pairWork : (s.start c).pairWork = s.pairWork := rfl
@[simp] theorem State.start_supply : (s.start c).supply = s.supply := rfl
@[simp] theorem State.start_nv : (s.start c).nv = s.nv := rfl
@[simp] theorem State.start_pins : (s.start c).pins = s.pins := rfl
@[simp] theorem State.start_trace : (s.start c).trace = s.trace := rfl
@[simp] theorem State.start_captures : (s.start c).captures = s.captures := rfl
@[simp] theorem State.start_outbox : (s.start c).outbox = s.outbox := rfl
end

section
variable (s : State) (p : Cmd → Bool)
@[simp] theorem State.drop_pending : (s.drop p).pending = s.pending := rfl
@[simp] theorem State.drop_freeCount : (s.drop p).freeCount = s.freeCount := rfl
@[simp] theorem State.drop_now : (s.drop p).now = s.now := rfl
@[simp] theorem State.drop_regs : (s.drop p).regs = s.regs := rfl
@[simp] theorem State.drop_live : (s.drop p).live = s.live := rfl
@[simp] theorem State.drop_snaps : (s.drop p).snaps = s.snaps := rfl
@[simp] theorem State.drop_refused : (s.drop p).refused = s.refused := rfl
@[simp] theorem State.drop_tumbler : (s.drop p).tumbler = s.tumbler := rfl
@[simp] theorem State.drop_queues : (s.drop p).queues = s.queues := rfl
@[simp] theorem State.drop_hold : (s.drop p).hold = s.hold := rfl
@[simp] theorem State.drop_arrived : (s.drop p).arrived = s.arrived := rfl
@[simp] theorem State.drop_running : (s.drop p).running = s.running.filter fun c => !p c := rfl
@[simp] theorem State.drop_tags : (s.drop p).tags = s.tags := rfl
@[simp] theorem State.drop_arbSeq : (s.drop p).arbSeq = s.arbSeq := rfl
@[simp] theorem State.drop_arb : (s.drop p).arb = s.arb := rfl
@[simp] theorem State.drop_eventSeq : (s.drop p).eventSeq = s.eventSeq := rfl
@[simp] theorem State.drop_hostMask : (s.drop p).hostMask = s.hostMask := rfl
@[simp] theorem State.drop_mgmtMask : (s.drop p).mgmtMask = s.mgmtMask := rfl
@[simp] theorem State.drop_mgmt : (s.drop p).mgmt = s.mgmt := rfl
@[simp] theorem State.drop_key : (s.drop p).key = s.key := rfl
@[simp] theorem State.drop_cred : (s.drop p).cred = s.cred := rfl
@[simp] theorem State.drop_modes : (s.drop p).modes = s.modes := rfl
@[simp] theorem State.drop_resets : (s.drop p).resets = s.resets := rfl
@[simp] theorem State.drop_boot : (s.drop p).boot = s.boot := rfl
@[simp] theorem State.drop_sheets : (s.drop p).sheets = s.sheets := rfl
@[simp] theorem State.drop_dma : (s.drop p).dma = s.dma := rfl
@[simp] theorem State.drop_feed : (s.drop p).feed = s.feed := rfl
@[simp] theorem State.drop_stations : (s.drop p).stations = s.stations := rfl
@[simp] theorem State.drop_run : (s.drop p).run = s.run := rfl
@[simp] theorem State.drop_drives : (s.drop p).drives = s.drives := rfl
@[simp] theorem State.drop_bus : (s.drop p).bus = s.bus := rfl
@[simp] theorem State.drop_loops : (s.drop p).loops = s.loops := rfl
@[simp] theorem State.drop_loopWorst : (s.drop p).loopWorst = s.loopWorst := rfl
@[simp] theorem State.drop_axes : (s.drop p).axes = s.axes := rfl
@[simp] theorem State.drop_groups : (s.drop p).groups = s.groups := rfl
@[simp] theorem State.drop_encoders : (s.drop p).encoders = s.encoders := rfl
@[simp] theorem State.drop_path : (s.drop p).path = s.path := rfl
@[simp] theorem State.drop_hv : (s.drop p).hv = s.hv := rfl
@[simp] theorem State.drop_zones : (s.drop p).zones = s.zones := rfl
@[simp] theorem State.drop_therms : (s.drop p).therms = s.therms := rfl
@[simp] theorem State.drop_safety : (s.drop p).safety = s.safety := rfl
@[simp] theorem State.drop_mem : (s.drop p).mem = s.mem := rfl
@[simp] theorem State.drop_afe : (s.drop p).afe = s.afe := rfl
@[simp] theorem State.drop_pair : (s.drop p).pair = s.pair := rfl
@[simp] theorem State.drop_pairWork : (s.drop p).pairWork = s.pairWork := rfl
@[simp] theorem State.drop_supply : (s.drop p).supply = s.supply := rfl
@[simp] theorem State.drop_nv : (s.drop p).nv = s.nv := rfl
@[simp] theorem State.drop_pins : (s.drop p).pins = s.pins := rfl
@[simp] theorem State.drop_trace : (s.drop p).trace = s.trace := rfl
@[simp] theorem State.drop_captures : (s.drop p).captures = s.captures := rfl
@[simp] theorem State.drop_outbox : (s.drop p).outbox = s.outbox := rfl
end

section
variable (s : State) (op : Nat) (p : Packet)
@[simp] theorem State.take_pending : (s.take op p).pending = s.pending := rfl
@[simp] theorem State.take_freeCount : (s.take op p).freeCount = s.freeCount := rfl
@[simp] theorem State.take_now : (s.take op p).now = s.now := rfl
@[simp] theorem State.take_regs : (s.take op p).regs = s.regs := rfl
@[simp] theorem State.take_live : (s.take op p).live = s.live := rfl
@[simp] theorem State.take_snaps : (s.take op p).snaps = s.snaps := rfl
@[simp] theorem State.take_refused : (s.take op p).refused = s.refused := rfl
@[simp] theorem State.take_tumbler : (s.take op p).tumbler = s.tumbler := rfl
@[simp] theorem State.take_queues : (s.take op p).queues = s.queues := rfl
@[simp] theorem State.take_hold : (s.take op p).hold = s.hold := rfl
@[simp] theorem State.take_arrived : (s.take op p).arrived = s.arrived.eraseP fun x => samePacket x (op, p) := rfl
@[simp] theorem State.take_running : (s.take op p).running = s.running := rfl
@[simp] theorem State.take_tags : (s.take op p).tags = s.tags := rfl
@[simp] theorem State.take_arbSeq : (s.take op p).arbSeq = s.arbSeq := rfl
@[simp] theorem State.take_eventSeq : (s.take op p).eventSeq = s.eventSeq := rfl
@[simp] theorem State.take_hostMask : (s.take op p).hostMask = s.hostMask := rfl
@[simp] theorem State.take_mgmtMask : (s.take op p).mgmtMask = s.mgmtMask := rfl
@[simp] theorem State.take_mgmt : (s.take op p).mgmt = s.mgmt := rfl
@[simp] theorem State.take_key : (s.take op p).key = s.key := rfl
@[simp] theorem State.take_cred : (s.take op p).cred = s.cred := rfl
@[simp] theorem State.take_modes : (s.take op p).modes = s.modes := rfl
@[simp] theorem State.take_resets : (s.take op p).resets = s.resets := rfl
@[simp] theorem State.take_boot : (s.take op p).boot = s.boot := rfl
@[simp] theorem State.take_sheets : (s.take op p).sheets = s.sheets := rfl
@[simp] theorem State.take_dma : (s.take op p).dma = s.dma := rfl
@[simp] theorem State.take_feed : (s.take op p).feed = s.feed := rfl
@[simp] theorem State.take_stations : (s.take op p).stations = s.stations := rfl
@[simp] theorem State.take_run : (s.take op p).run = s.run := rfl
@[simp] theorem State.take_drives : (s.take op p).drives = s.drives := rfl
@[simp] theorem State.take_bus : (s.take op p).bus = s.bus := rfl
@[simp] theorem State.take_loops : (s.take op p).loops = s.loops := rfl
@[simp] theorem State.take_loopWorst : (s.take op p).loopWorst = s.loopWorst := rfl
@[simp] theorem State.take_axes : (s.take op p).axes = s.axes := rfl
@[simp] theorem State.take_groups : (s.take op p).groups = s.groups := rfl
@[simp] theorem State.take_encoders : (s.take op p).encoders = s.encoders := rfl
@[simp] theorem State.take_path : (s.take op p).path = s.path := rfl
@[simp] theorem State.take_hv : (s.take op p).hv = s.hv := rfl
@[simp] theorem State.take_zones : (s.take op p).zones = s.zones := rfl
@[simp] theorem State.take_therms : (s.take op p).therms = s.therms := rfl
@[simp] theorem State.take_safety : (s.take op p).safety = s.safety := rfl
@[simp] theorem State.take_mem : (s.take op p).mem = s.mem := rfl
@[simp] theorem State.take_afe : (s.take op p).afe = s.afe := rfl
@[simp] theorem State.take_pair : (s.take op p).pair = s.pair := rfl
@[simp] theorem State.take_pairWork : (s.take op p).pairWork = s.pairWork := rfl
@[simp] theorem State.take_supply : (s.take op p).supply = s.supply := rfl
@[simp] theorem State.take_nv : (s.take op p).nv = s.nv := rfl
@[simp] theorem State.take_pins : (s.take op p).pins = s.pins := rfl
@[simp] theorem State.take_trace : (s.take op p).trace = s.trace := rfl
@[simp] theorem State.take_captures : (s.take op p).captures = s.captures := rfl
@[simp] theorem State.take_outbox : (s.take op p).outbox = s.outbox := rfl
end

section
variable (s : State) (n : Nat) (f : Queue → Queue)
@[simp] theorem State.setQueue_pending : (s.setQueue n f).pending = s.pending := rfl
@[simp] theorem State.setQueue_freeCount : (s.setQueue n f).freeCount = s.freeCount := rfl
@[simp] theorem State.setQueue_now : (s.setQueue n f).now = s.now := rfl
@[simp] theorem State.setQueue_regs : (s.setQueue n f).regs = s.regs := rfl
@[simp] theorem State.setQueue_live : (s.setQueue n f).live = s.live := rfl
@[simp] theorem State.setQueue_snaps : (s.setQueue n f).snaps = s.snaps := rfl
@[simp] theorem State.setQueue_refused : (s.setQueue n f).refused = s.refused := rfl
@[simp] theorem State.setQueue_tumbler : (s.setQueue n f).tumbler = s.tumbler := rfl
@[simp] theorem State.setQueue_queues : (s.setQueue n f).queues = s.queues.modify n f := rfl
@[simp] theorem State.setQueue_hold : (s.setQueue n f).hold = s.hold := rfl
@[simp] theorem State.setQueue_arrived : (s.setQueue n f).arrived = s.arrived := rfl
@[simp] theorem State.setQueue_running : (s.setQueue n f).running = s.running := rfl
@[simp] theorem State.setQueue_tags : (s.setQueue n f).tags = s.tags := rfl
@[simp] theorem State.setQueue_arbSeq : (s.setQueue n f).arbSeq = s.arbSeq := rfl
@[simp] theorem State.setQueue_arb : (s.setQueue n f).arb = s.arb := rfl
@[simp] theorem State.setQueue_eventSeq : (s.setQueue n f).eventSeq = s.eventSeq := rfl
@[simp] theorem State.setQueue_hostMask : (s.setQueue n f).hostMask = s.hostMask := rfl
@[simp] theorem State.setQueue_mgmtMask : (s.setQueue n f).mgmtMask = s.mgmtMask := rfl
@[simp] theorem State.setQueue_mgmt : (s.setQueue n f).mgmt = s.mgmt := rfl
@[simp] theorem State.setQueue_key : (s.setQueue n f).key = s.key := rfl
@[simp] theorem State.setQueue_cred : (s.setQueue n f).cred = s.cred := rfl
@[simp] theorem State.setQueue_modes : (s.setQueue n f).modes = s.modes := rfl
@[simp] theorem State.setQueue_resets : (s.setQueue n f).resets = s.resets := rfl
@[simp] theorem State.setQueue_boot : (s.setQueue n f).boot = s.boot := rfl
@[simp] theorem State.setQueue_sheets : (s.setQueue n f).sheets = s.sheets := rfl
@[simp] theorem State.setQueue_dma : (s.setQueue n f).dma = s.dma := rfl
@[simp] theorem State.setQueue_feed : (s.setQueue n f).feed = s.feed := rfl
@[simp] theorem State.setQueue_stations : (s.setQueue n f).stations = s.stations := rfl
@[simp] theorem State.setQueue_run : (s.setQueue n f).run = s.run := rfl
@[simp] theorem State.setQueue_drives : (s.setQueue n f).drives = s.drives := rfl
@[simp] theorem State.setQueue_bus : (s.setQueue n f).bus = s.bus := rfl
@[simp] theorem State.setQueue_loops : (s.setQueue n f).loops = s.loops := rfl
@[simp] theorem State.setQueue_loopWorst : (s.setQueue n f).loopWorst = s.loopWorst := rfl
@[simp] theorem State.setQueue_axes : (s.setQueue n f).axes = s.axes := rfl
@[simp] theorem State.setQueue_groups : (s.setQueue n f).groups = s.groups := rfl
@[simp] theorem State.setQueue_encoders : (s.setQueue n f).encoders = s.encoders := rfl
@[simp] theorem State.setQueue_path : (s.setQueue n f).path = s.path := rfl
@[simp] theorem State.setQueue_hv : (s.setQueue n f).hv = s.hv := rfl
@[simp] theorem State.setQueue_zones : (s.setQueue n f).zones = s.zones := rfl
@[simp] theorem State.setQueue_therms : (s.setQueue n f).therms = s.therms := rfl
@[simp] theorem State.setQueue_safety : (s.setQueue n f).safety = s.safety := rfl
@[simp] theorem State.setQueue_mem : (s.setQueue n f).mem = s.mem := rfl
@[simp] theorem State.setQueue_afe : (s.setQueue n f).afe = s.afe := rfl
@[simp] theorem State.setQueue_pair : (s.setQueue n f).pair = s.pair := rfl
@[simp] theorem State.setQueue_pairWork : (s.setQueue n f).pairWork = s.pairWork := rfl
@[simp] theorem State.setQueue_supply : (s.setQueue n f).supply = s.supply := rfl
@[simp] theorem State.setQueue_nv : (s.setQueue n f).nv = s.nv := rfl
@[simp] theorem State.setQueue_pins : (s.setQueue n f).pins = s.pins := rfl
@[simp] theorem State.setQueue_trace : (s.setQueue n f).trace = s.trace := rfl
@[simp] theorem State.setQueue_captures : (s.setQueue n f).captures = s.captures := rfl
@[simp] theorem State.setQueue_outbox : (s.setQueue n f).outbox = s.outbox := rfl
end

section
variable (s : State) (n : Nat) (f : Station → Station)
@[simp] theorem State.setStation_pending : (s.setStation n f).pending = s.pending := rfl
@[simp] theorem State.setStation_freeCount : (s.setStation n f).freeCount = s.freeCount := rfl
@[simp] theorem State.setStation_now : (s.setStation n f).now = s.now := rfl
@[simp] theorem State.setStation_regs : (s.setStation n f).regs = s.regs := rfl
@[simp] theorem State.setStation_live : (s.setStation n f).live = s.live := rfl
@[simp] theorem State.setStation_snaps : (s.setStation n f).snaps = s.snaps := rfl
@[simp] theorem State.setStation_refused : (s.setStation n f).refused = s.refused := rfl
@[simp] theorem State.setStation_tumbler : (s.setStation n f).tumbler = s.tumbler := rfl
@[simp] theorem State.setStation_queues : (s.setStation n f).queues = s.queues := rfl
@[simp] theorem State.setStation_hold : (s.setStation n f).hold = s.hold := rfl
@[simp] theorem State.setStation_arrived : (s.setStation n f).arrived = s.arrived := rfl
@[simp] theorem State.setStation_running : (s.setStation n f).running = s.running := rfl
@[simp] theorem State.setStation_tags : (s.setStation n f).tags = s.tags := rfl
@[simp] theorem State.setStation_arbSeq : (s.setStation n f).arbSeq = s.arbSeq := rfl
@[simp] theorem State.setStation_arb : (s.setStation n f).arb = s.arb := rfl
@[simp] theorem State.setStation_eventSeq : (s.setStation n f).eventSeq = s.eventSeq := rfl
@[simp] theorem State.setStation_hostMask : (s.setStation n f).hostMask = s.hostMask := rfl
@[simp] theorem State.setStation_mgmtMask : (s.setStation n f).mgmtMask = s.mgmtMask := rfl
@[simp] theorem State.setStation_mgmt : (s.setStation n f).mgmt = s.mgmt := rfl
@[simp] theorem State.setStation_key : (s.setStation n f).key = s.key := rfl
@[simp] theorem State.setStation_cred : (s.setStation n f).cred = s.cred := rfl
@[simp] theorem State.setStation_modes : (s.setStation n f).modes = s.modes := rfl
@[simp] theorem State.setStation_resets : (s.setStation n f).resets = s.resets := rfl
@[simp] theorem State.setStation_boot : (s.setStation n f).boot = s.boot := rfl
@[simp] theorem State.setStation_sheets : (s.setStation n f).sheets = s.sheets := rfl
@[simp] theorem State.setStation_dma : (s.setStation n f).dma = s.dma := rfl
@[simp] theorem State.setStation_feed : (s.setStation n f).feed = s.feed := rfl
@[simp] theorem State.setStation_stations : (s.setStation n f).stations = s.stations.modify n f := rfl
@[simp] theorem State.setStation_run : (s.setStation n f).run = s.run := rfl
@[simp] theorem State.setStation_drives : (s.setStation n f).drives = s.drives := rfl
@[simp] theorem State.setStation_bus : (s.setStation n f).bus = s.bus := rfl
@[simp] theorem State.setStation_loops : (s.setStation n f).loops = s.loops := rfl
@[simp] theorem State.setStation_loopWorst : (s.setStation n f).loopWorst = s.loopWorst := rfl
@[simp] theorem State.setStation_axes : (s.setStation n f).axes = s.axes := rfl
@[simp] theorem State.setStation_groups : (s.setStation n f).groups = s.groups := rfl
@[simp] theorem State.setStation_encoders : (s.setStation n f).encoders = s.encoders := rfl
@[simp] theorem State.setStation_path : (s.setStation n f).path = s.path := rfl
@[simp] theorem State.setStation_hv : (s.setStation n f).hv = s.hv := rfl
@[simp] theorem State.setStation_zones : (s.setStation n f).zones = s.zones := rfl
@[simp] theorem State.setStation_therms : (s.setStation n f).therms = s.therms := rfl
@[simp] theorem State.setStation_safety : (s.setStation n f).safety = s.safety := rfl
@[simp] theorem State.setStation_mem : (s.setStation n f).mem = s.mem := rfl
@[simp] theorem State.setStation_afe : (s.setStation n f).afe = s.afe := rfl
@[simp] theorem State.setStation_pair : (s.setStation n f).pair = s.pair := rfl
@[simp] theorem State.setStation_pairWork : (s.setStation n f).pairWork = s.pairWork := rfl
@[simp] theorem State.setStation_supply : (s.setStation n f).supply = s.supply := rfl
@[simp] theorem State.setStation_nv : (s.setStation n f).nv = s.nv := rfl
@[simp] theorem State.setStation_pins : (s.setStation n f).pins = s.pins := rfl
@[simp] theorem State.setStation_trace : (s.setStation n f).trace = s.trace := rfl
@[simp] theorem State.setStation_captures : (s.setStation n f).captures = s.captures := rfl
@[simp] theorem State.setStation_outbox : (s.setStation n f).outbox = s.outbox := rfl
end

section
variable (s : State) (n : Nat) (f : Drive → Drive)
@[simp] theorem State.setDrive_pending : (s.setDrive n f).pending = s.pending := rfl
@[simp] theorem State.setDrive_freeCount : (s.setDrive n f).freeCount = s.freeCount := rfl
@[simp] theorem State.setDrive_now : (s.setDrive n f).now = s.now := rfl
@[simp] theorem State.setDrive_regs : (s.setDrive n f).regs = s.regs := rfl
@[simp] theorem State.setDrive_live : (s.setDrive n f).live = s.live := rfl
@[simp] theorem State.setDrive_snaps : (s.setDrive n f).snaps = s.snaps := rfl
@[simp] theorem State.setDrive_refused : (s.setDrive n f).refused = s.refused := rfl
@[simp] theorem State.setDrive_tumbler : (s.setDrive n f).tumbler = s.tumbler := rfl
@[simp] theorem State.setDrive_queues : (s.setDrive n f).queues = s.queues := rfl
@[simp] theorem State.setDrive_hold : (s.setDrive n f).hold = s.hold := rfl
@[simp] theorem State.setDrive_arrived : (s.setDrive n f).arrived = s.arrived := rfl
@[simp] theorem State.setDrive_running : (s.setDrive n f).running = s.running := rfl
@[simp] theorem State.setDrive_tags : (s.setDrive n f).tags = s.tags := rfl
@[simp] theorem State.setDrive_arbSeq : (s.setDrive n f).arbSeq = s.arbSeq := rfl
@[simp] theorem State.setDrive_arb : (s.setDrive n f).arb = s.arb := rfl
@[simp] theorem State.setDrive_eventSeq : (s.setDrive n f).eventSeq = s.eventSeq := rfl
@[simp] theorem State.setDrive_hostMask : (s.setDrive n f).hostMask = s.hostMask := rfl
@[simp] theorem State.setDrive_mgmtMask : (s.setDrive n f).mgmtMask = s.mgmtMask := rfl
@[simp] theorem State.setDrive_mgmt : (s.setDrive n f).mgmt = s.mgmt := rfl
@[simp] theorem State.setDrive_key : (s.setDrive n f).key = s.key := rfl
@[simp] theorem State.setDrive_cred : (s.setDrive n f).cred = s.cred := rfl
@[simp] theorem State.setDrive_modes : (s.setDrive n f).modes = s.modes := rfl
@[simp] theorem State.setDrive_resets : (s.setDrive n f).resets = s.resets := rfl
@[simp] theorem State.setDrive_boot : (s.setDrive n f).boot = s.boot := rfl
@[simp] theorem State.setDrive_sheets : (s.setDrive n f).sheets = s.sheets := rfl
@[simp] theorem State.setDrive_dma : (s.setDrive n f).dma = s.dma := rfl
@[simp] theorem State.setDrive_feed : (s.setDrive n f).feed = s.feed := rfl
@[simp] theorem State.setDrive_stations : (s.setDrive n f).stations = s.stations := rfl
@[simp] theorem State.setDrive_run : (s.setDrive n f).run = s.run := rfl
@[simp] theorem State.setDrive_drives : (s.setDrive n f).drives = s.drives.modify n f := rfl
@[simp] theorem State.setDrive_bus : (s.setDrive n f).bus = s.bus := rfl
@[simp] theorem State.setDrive_loops : (s.setDrive n f).loops = s.loops := rfl
@[simp] theorem State.setDrive_loopWorst : (s.setDrive n f).loopWorst = s.loopWorst := rfl
@[simp] theorem State.setDrive_axes : (s.setDrive n f).axes = s.axes := rfl
@[simp] theorem State.setDrive_groups : (s.setDrive n f).groups = s.groups := rfl
@[simp] theorem State.setDrive_encoders : (s.setDrive n f).encoders = s.encoders := rfl
@[simp] theorem State.setDrive_path : (s.setDrive n f).path = s.path := rfl
@[simp] theorem State.setDrive_hv : (s.setDrive n f).hv = s.hv := rfl
@[simp] theorem State.setDrive_zones : (s.setDrive n f).zones = s.zones := rfl
@[simp] theorem State.setDrive_therms : (s.setDrive n f).therms = s.therms := rfl
@[simp] theorem State.setDrive_safety : (s.setDrive n f).safety = s.safety := rfl
@[simp] theorem State.setDrive_mem : (s.setDrive n f).mem = s.mem := rfl
@[simp] theorem State.setDrive_afe : (s.setDrive n f).afe = s.afe := rfl
@[simp] theorem State.setDrive_pair : (s.setDrive n f).pair = s.pair := rfl
@[simp] theorem State.setDrive_pairWork : (s.setDrive n f).pairWork = s.pairWork := rfl
@[simp] theorem State.setDrive_supply : (s.setDrive n f).supply = s.supply := rfl
@[simp] theorem State.setDrive_nv : (s.setDrive n f).nv = s.nv := rfl
@[simp] theorem State.setDrive_pins : (s.setDrive n f).pins = s.pins := rfl
@[simp] theorem State.setDrive_trace : (s.setDrive n f).trace = s.trace := rfl
@[simp] theorem State.setDrive_captures : (s.setDrive n f).captures = s.captures := rfl
@[simp] theorem State.setDrive_outbox : (s.setDrive n f).outbox = s.outbox := rfl
end

section
variable (s : State) (n : Nat) (f : Loop → Loop)
@[simp] theorem State.setLoop_pending : (s.setLoop n f).pending = s.pending := rfl
@[simp] theorem State.setLoop_freeCount : (s.setLoop n f).freeCount = s.freeCount := rfl
@[simp] theorem State.setLoop_now : (s.setLoop n f).now = s.now := rfl
@[simp] theorem State.setLoop_regs : (s.setLoop n f).regs = s.regs := rfl
@[simp] theorem State.setLoop_live : (s.setLoop n f).live = s.live := rfl
@[simp] theorem State.setLoop_snaps : (s.setLoop n f).snaps = s.snaps := rfl
@[simp] theorem State.setLoop_refused : (s.setLoop n f).refused = s.refused := rfl
@[simp] theorem State.setLoop_tumbler : (s.setLoop n f).tumbler = s.tumbler := rfl
@[simp] theorem State.setLoop_queues : (s.setLoop n f).queues = s.queues := rfl
@[simp] theorem State.setLoop_hold : (s.setLoop n f).hold = s.hold := rfl
@[simp] theorem State.setLoop_arrived : (s.setLoop n f).arrived = s.arrived := rfl
@[simp] theorem State.setLoop_running : (s.setLoop n f).running = s.running := rfl
@[simp] theorem State.setLoop_tags : (s.setLoop n f).tags = s.tags := rfl
@[simp] theorem State.setLoop_arbSeq : (s.setLoop n f).arbSeq = s.arbSeq := rfl
@[simp] theorem State.setLoop_arb : (s.setLoop n f).arb = s.arb := rfl
@[simp] theorem State.setLoop_eventSeq : (s.setLoop n f).eventSeq = s.eventSeq := rfl
@[simp] theorem State.setLoop_hostMask : (s.setLoop n f).hostMask = s.hostMask := rfl
@[simp] theorem State.setLoop_mgmtMask : (s.setLoop n f).mgmtMask = s.mgmtMask := rfl
@[simp] theorem State.setLoop_mgmt : (s.setLoop n f).mgmt = s.mgmt := rfl
@[simp] theorem State.setLoop_key : (s.setLoop n f).key = s.key := rfl
@[simp] theorem State.setLoop_cred : (s.setLoop n f).cred = s.cred := rfl
@[simp] theorem State.setLoop_modes : (s.setLoop n f).modes = s.modes := rfl
@[simp] theorem State.setLoop_resets : (s.setLoop n f).resets = s.resets := rfl
@[simp] theorem State.setLoop_boot : (s.setLoop n f).boot = s.boot := rfl
@[simp] theorem State.setLoop_sheets : (s.setLoop n f).sheets = s.sheets := rfl
@[simp] theorem State.setLoop_dma : (s.setLoop n f).dma = s.dma := rfl
@[simp] theorem State.setLoop_feed : (s.setLoop n f).feed = s.feed := rfl
@[simp] theorem State.setLoop_stations : (s.setLoop n f).stations = s.stations := rfl
@[simp] theorem State.setLoop_run : (s.setLoop n f).run = s.run := rfl
@[simp] theorem State.setLoop_drives : (s.setLoop n f).drives = s.drives := rfl
@[simp] theorem State.setLoop_bus : (s.setLoop n f).bus = s.bus := rfl
@[simp] theorem State.setLoop_loops : (s.setLoop n f).loops = s.loops.modify n f := rfl
@[simp] theorem State.setLoop_loopWorst : (s.setLoop n f).loopWorst = s.loopWorst := rfl
@[simp] theorem State.setLoop_axes : (s.setLoop n f).axes = s.axes := rfl
@[simp] theorem State.setLoop_groups : (s.setLoop n f).groups = s.groups := rfl
@[simp] theorem State.setLoop_encoders : (s.setLoop n f).encoders = s.encoders := rfl
@[simp] theorem State.setLoop_path : (s.setLoop n f).path = s.path := rfl
@[simp] theorem State.setLoop_hv : (s.setLoop n f).hv = s.hv := rfl
@[simp] theorem State.setLoop_zones : (s.setLoop n f).zones = s.zones := rfl
@[simp] theorem State.setLoop_therms : (s.setLoop n f).therms = s.therms := rfl
@[simp] theorem State.setLoop_safety : (s.setLoop n f).safety = s.safety := rfl
@[simp] theorem State.setLoop_mem : (s.setLoop n f).mem = s.mem := rfl
@[simp] theorem State.setLoop_afe : (s.setLoop n f).afe = s.afe := rfl
@[simp] theorem State.setLoop_pair : (s.setLoop n f).pair = s.pair := rfl
@[simp] theorem State.setLoop_pairWork : (s.setLoop n f).pairWork = s.pairWork := rfl
@[simp] theorem State.setLoop_supply : (s.setLoop n f).supply = s.supply := rfl
@[simp] theorem State.setLoop_nv : (s.setLoop n f).nv = s.nv := rfl
@[simp] theorem State.setLoop_pins : (s.setLoop n f).pins = s.pins := rfl
@[simp] theorem State.setLoop_trace : (s.setLoop n f).trace = s.trace := rfl
@[simp] theorem State.setLoop_captures : (s.setLoop n f).captures = s.captures := rfl
@[simp] theorem State.setLoop_outbox : (s.setLoop n f).outbox = s.outbox := rfl
end

section
variable (s : State) (n : Nat) (f : Axis → Axis)
@[simp] theorem State.setAxis_pending : (s.setAxis n f).pending = s.pending := rfl
@[simp] theorem State.setAxis_freeCount : (s.setAxis n f).freeCount = s.freeCount := rfl
@[simp] theorem State.setAxis_now : (s.setAxis n f).now = s.now := rfl
@[simp] theorem State.setAxis_regs : (s.setAxis n f).regs = s.regs := rfl
@[simp] theorem State.setAxis_live : (s.setAxis n f).live = s.live := rfl
@[simp] theorem State.setAxis_snaps : (s.setAxis n f).snaps = s.snaps := rfl
@[simp] theorem State.setAxis_refused : (s.setAxis n f).refused = s.refused := rfl
@[simp] theorem State.setAxis_tumbler : (s.setAxis n f).tumbler = s.tumbler := rfl
@[simp] theorem State.setAxis_queues : (s.setAxis n f).queues = s.queues := rfl
@[simp] theorem State.setAxis_hold : (s.setAxis n f).hold = s.hold := rfl
@[simp] theorem State.setAxis_arrived : (s.setAxis n f).arrived = s.arrived := rfl
@[simp] theorem State.setAxis_running : (s.setAxis n f).running = s.running := rfl
@[simp] theorem State.setAxis_tags : (s.setAxis n f).tags = s.tags := rfl
@[simp] theorem State.setAxis_arbSeq : (s.setAxis n f).arbSeq = s.arbSeq := rfl
@[simp] theorem State.setAxis_arb : (s.setAxis n f).arb = s.arb := rfl
@[simp] theorem State.setAxis_eventSeq : (s.setAxis n f).eventSeq = s.eventSeq := rfl
@[simp] theorem State.setAxis_hostMask : (s.setAxis n f).hostMask = s.hostMask := rfl
@[simp] theorem State.setAxis_mgmtMask : (s.setAxis n f).mgmtMask = s.mgmtMask := rfl
@[simp] theorem State.setAxis_mgmt : (s.setAxis n f).mgmt = s.mgmt := rfl
@[simp] theorem State.setAxis_key : (s.setAxis n f).key = s.key := rfl
@[simp] theorem State.setAxis_cred : (s.setAxis n f).cred = s.cred := rfl
@[simp] theorem State.setAxis_modes : (s.setAxis n f).modes = s.modes := rfl
@[simp] theorem State.setAxis_resets : (s.setAxis n f).resets = s.resets := rfl
@[simp] theorem State.setAxis_boot : (s.setAxis n f).boot = s.boot := rfl
@[simp] theorem State.setAxis_sheets : (s.setAxis n f).sheets = s.sheets := rfl
@[simp] theorem State.setAxis_dma : (s.setAxis n f).dma = s.dma := rfl
@[simp] theorem State.setAxis_feed : (s.setAxis n f).feed = s.feed := rfl
@[simp] theorem State.setAxis_stations : (s.setAxis n f).stations = s.stations := rfl
@[simp] theorem State.setAxis_run : (s.setAxis n f).run = s.run := rfl
@[simp] theorem State.setAxis_drives : (s.setAxis n f).drives = s.drives := rfl
@[simp] theorem State.setAxis_bus : (s.setAxis n f).bus = s.bus := rfl
@[simp] theorem State.setAxis_loops : (s.setAxis n f).loops = s.loops := rfl
@[simp] theorem State.setAxis_loopWorst : (s.setAxis n f).loopWorst = s.loopWorst := rfl
@[simp] theorem State.setAxis_axes : (s.setAxis n f).axes = s.axes.modify n f := rfl
@[simp] theorem State.setAxis_groups : (s.setAxis n f).groups = s.groups := rfl
@[simp] theorem State.setAxis_encoders : (s.setAxis n f).encoders = s.encoders := rfl
@[simp] theorem State.setAxis_path : (s.setAxis n f).path = s.path := rfl
@[simp] theorem State.setAxis_hv : (s.setAxis n f).hv = s.hv := rfl
@[simp] theorem State.setAxis_zones : (s.setAxis n f).zones = s.zones := rfl
@[simp] theorem State.setAxis_therms : (s.setAxis n f).therms = s.therms := rfl
@[simp] theorem State.setAxis_safety : (s.setAxis n f).safety = s.safety := rfl
@[simp] theorem State.setAxis_mem : (s.setAxis n f).mem = s.mem := rfl
@[simp] theorem State.setAxis_afe : (s.setAxis n f).afe = s.afe := rfl
@[simp] theorem State.setAxis_pair : (s.setAxis n f).pair = s.pair := rfl
@[simp] theorem State.setAxis_pairWork : (s.setAxis n f).pairWork = s.pairWork := rfl
@[simp] theorem State.setAxis_supply : (s.setAxis n f).supply = s.supply := rfl
@[simp] theorem State.setAxis_nv : (s.setAxis n f).nv = s.nv := rfl
@[simp] theorem State.setAxis_pins : (s.setAxis n f).pins = s.pins := rfl
@[simp] theorem State.setAxis_trace : (s.setAxis n f).trace = s.trace := rfl
@[simp] theorem State.setAxis_captures : (s.setAxis n f).captures = s.captures := rfl
@[simp] theorem State.setAxis_outbox : (s.setAxis n f).outbox = s.outbox := rfl
end

section
variable (s : State) (n : Nat) (f : Group → Group)
@[simp] theorem State.setGroup_pending : (s.setGroup n f).pending = s.pending := rfl
@[simp] theorem State.setGroup_freeCount : (s.setGroup n f).freeCount = s.freeCount := rfl
@[simp] theorem State.setGroup_now : (s.setGroup n f).now = s.now := rfl
@[simp] theorem State.setGroup_regs : (s.setGroup n f).regs = s.regs := rfl
@[simp] theorem State.setGroup_live : (s.setGroup n f).live = s.live := rfl
@[simp] theorem State.setGroup_snaps : (s.setGroup n f).snaps = s.snaps := rfl
@[simp] theorem State.setGroup_refused : (s.setGroup n f).refused = s.refused := rfl
@[simp] theorem State.setGroup_tumbler : (s.setGroup n f).tumbler = s.tumbler := rfl
@[simp] theorem State.setGroup_queues : (s.setGroup n f).queues = s.queues := rfl
@[simp] theorem State.setGroup_hold : (s.setGroup n f).hold = s.hold := rfl
@[simp] theorem State.setGroup_arrived : (s.setGroup n f).arrived = s.arrived := rfl
@[simp] theorem State.setGroup_running : (s.setGroup n f).running = s.running := rfl
@[simp] theorem State.setGroup_tags : (s.setGroup n f).tags = s.tags := rfl
@[simp] theorem State.setGroup_arbSeq : (s.setGroup n f).arbSeq = s.arbSeq := rfl
@[simp] theorem State.setGroup_arb : (s.setGroup n f).arb = s.arb := rfl
@[simp] theorem State.setGroup_eventSeq : (s.setGroup n f).eventSeq = s.eventSeq := rfl
@[simp] theorem State.setGroup_hostMask : (s.setGroup n f).hostMask = s.hostMask := rfl
@[simp] theorem State.setGroup_mgmtMask : (s.setGroup n f).mgmtMask = s.mgmtMask := rfl
@[simp] theorem State.setGroup_mgmt : (s.setGroup n f).mgmt = s.mgmt := rfl
@[simp] theorem State.setGroup_key : (s.setGroup n f).key = s.key := rfl
@[simp] theorem State.setGroup_cred : (s.setGroup n f).cred = s.cred := rfl
@[simp] theorem State.setGroup_modes : (s.setGroup n f).modes = s.modes := rfl
@[simp] theorem State.setGroup_resets : (s.setGroup n f).resets = s.resets := rfl
@[simp] theorem State.setGroup_boot : (s.setGroup n f).boot = s.boot := rfl
@[simp] theorem State.setGroup_sheets : (s.setGroup n f).sheets = s.sheets := rfl
@[simp] theorem State.setGroup_dma : (s.setGroup n f).dma = s.dma := rfl
@[simp] theorem State.setGroup_feed : (s.setGroup n f).feed = s.feed := rfl
@[simp] theorem State.setGroup_stations : (s.setGroup n f).stations = s.stations := rfl
@[simp] theorem State.setGroup_run : (s.setGroup n f).run = s.run := rfl
@[simp] theorem State.setGroup_drives : (s.setGroup n f).drives = s.drives := rfl
@[simp] theorem State.setGroup_bus : (s.setGroup n f).bus = s.bus := rfl
@[simp] theorem State.setGroup_loops : (s.setGroup n f).loops = s.loops := rfl
@[simp] theorem State.setGroup_loopWorst : (s.setGroup n f).loopWorst = s.loopWorst := rfl
@[simp] theorem State.setGroup_axes : (s.setGroup n f).axes = s.axes := rfl
@[simp] theorem State.setGroup_groups : (s.setGroup n f).groups = s.groups.modify n f := rfl
@[simp] theorem State.setGroup_encoders : (s.setGroup n f).encoders = s.encoders := rfl
@[simp] theorem State.setGroup_path : (s.setGroup n f).path = s.path := rfl
@[simp] theorem State.setGroup_hv : (s.setGroup n f).hv = s.hv := rfl
@[simp] theorem State.setGroup_zones : (s.setGroup n f).zones = s.zones := rfl
@[simp] theorem State.setGroup_therms : (s.setGroup n f).therms = s.therms := rfl
@[simp] theorem State.setGroup_safety : (s.setGroup n f).safety = s.safety := rfl
@[simp] theorem State.setGroup_mem : (s.setGroup n f).mem = s.mem := rfl
@[simp] theorem State.setGroup_afe : (s.setGroup n f).afe = s.afe := rfl
@[simp] theorem State.setGroup_pair : (s.setGroup n f).pair = s.pair := rfl
@[simp] theorem State.setGroup_pairWork : (s.setGroup n f).pairWork = s.pairWork := rfl
@[simp] theorem State.setGroup_supply : (s.setGroup n f).supply = s.supply := rfl
@[simp] theorem State.setGroup_nv : (s.setGroup n f).nv = s.nv := rfl
@[simp] theorem State.setGroup_pins : (s.setGroup n f).pins = s.pins := rfl
@[simp] theorem State.setGroup_trace : (s.setGroup n f).trace = s.trace := rfl
@[simp] theorem State.setGroup_captures : (s.setGroup n f).captures = s.captures := rfl
@[simp] theorem State.setGroup_outbox : (s.setGroup n f).outbox = s.outbox := rfl
end

section
variable (s : State) (n : Nat) (f : Encoder → Encoder)
@[simp] theorem State.setEncoder_pending : (s.setEncoder n f).pending = s.pending := rfl
@[simp] theorem State.setEncoder_freeCount : (s.setEncoder n f).freeCount = s.freeCount := rfl
@[simp] theorem State.setEncoder_now : (s.setEncoder n f).now = s.now := rfl
@[simp] theorem State.setEncoder_regs : (s.setEncoder n f).regs = s.regs := rfl
@[simp] theorem State.setEncoder_live : (s.setEncoder n f).live = s.live := rfl
@[simp] theorem State.setEncoder_snaps : (s.setEncoder n f).snaps = s.snaps := rfl
@[simp] theorem State.setEncoder_refused : (s.setEncoder n f).refused = s.refused := rfl
@[simp] theorem State.setEncoder_tumbler : (s.setEncoder n f).tumbler = s.tumbler := rfl
@[simp] theorem State.setEncoder_queues : (s.setEncoder n f).queues = s.queues := rfl
@[simp] theorem State.setEncoder_hold : (s.setEncoder n f).hold = s.hold := rfl
@[simp] theorem State.setEncoder_arrived : (s.setEncoder n f).arrived = s.arrived := rfl
@[simp] theorem State.setEncoder_running : (s.setEncoder n f).running = s.running := rfl
@[simp] theorem State.setEncoder_tags : (s.setEncoder n f).tags = s.tags := rfl
@[simp] theorem State.setEncoder_arbSeq : (s.setEncoder n f).arbSeq = s.arbSeq := rfl
@[simp] theorem State.setEncoder_arb : (s.setEncoder n f).arb = s.arb := rfl
@[simp] theorem State.setEncoder_eventSeq : (s.setEncoder n f).eventSeq = s.eventSeq := rfl
@[simp] theorem State.setEncoder_hostMask : (s.setEncoder n f).hostMask = s.hostMask := rfl
@[simp] theorem State.setEncoder_mgmtMask : (s.setEncoder n f).mgmtMask = s.mgmtMask := rfl
@[simp] theorem State.setEncoder_mgmt : (s.setEncoder n f).mgmt = s.mgmt := rfl
@[simp] theorem State.setEncoder_key : (s.setEncoder n f).key = s.key := rfl
@[simp] theorem State.setEncoder_cred : (s.setEncoder n f).cred = s.cred := rfl
@[simp] theorem State.setEncoder_modes : (s.setEncoder n f).modes = s.modes := rfl
@[simp] theorem State.setEncoder_resets : (s.setEncoder n f).resets = s.resets := rfl
@[simp] theorem State.setEncoder_boot : (s.setEncoder n f).boot = s.boot := rfl
@[simp] theorem State.setEncoder_sheets : (s.setEncoder n f).sheets = s.sheets := rfl
@[simp] theorem State.setEncoder_dma : (s.setEncoder n f).dma = s.dma := rfl
@[simp] theorem State.setEncoder_feed : (s.setEncoder n f).feed = s.feed := rfl
@[simp] theorem State.setEncoder_stations : (s.setEncoder n f).stations = s.stations := rfl
@[simp] theorem State.setEncoder_run : (s.setEncoder n f).run = s.run := rfl
@[simp] theorem State.setEncoder_drives : (s.setEncoder n f).drives = s.drives := rfl
@[simp] theorem State.setEncoder_bus : (s.setEncoder n f).bus = s.bus := rfl
@[simp] theorem State.setEncoder_loops : (s.setEncoder n f).loops = s.loops := rfl
@[simp] theorem State.setEncoder_loopWorst : (s.setEncoder n f).loopWorst = s.loopWorst := rfl
@[simp] theorem State.setEncoder_axes : (s.setEncoder n f).axes = s.axes := rfl
@[simp] theorem State.setEncoder_groups : (s.setEncoder n f).groups = s.groups := rfl
@[simp] theorem State.setEncoder_encoders : (s.setEncoder n f).encoders = s.encoders.modify n f := rfl
@[simp] theorem State.setEncoder_path : (s.setEncoder n f).path = s.path := rfl
@[simp] theorem State.setEncoder_hv : (s.setEncoder n f).hv = s.hv := rfl
@[simp] theorem State.setEncoder_zones : (s.setEncoder n f).zones = s.zones := rfl
@[simp] theorem State.setEncoder_therms : (s.setEncoder n f).therms = s.therms := rfl
@[simp] theorem State.setEncoder_safety : (s.setEncoder n f).safety = s.safety := rfl
@[simp] theorem State.setEncoder_mem : (s.setEncoder n f).mem = s.mem := rfl
@[simp] theorem State.setEncoder_afe : (s.setEncoder n f).afe = s.afe := rfl
@[simp] theorem State.setEncoder_pair : (s.setEncoder n f).pair = s.pair := rfl
@[simp] theorem State.setEncoder_pairWork : (s.setEncoder n f).pairWork = s.pairWork := rfl
@[simp] theorem State.setEncoder_supply : (s.setEncoder n f).supply = s.supply := rfl
@[simp] theorem State.setEncoder_nv : (s.setEncoder n f).nv = s.nv := rfl
@[simp] theorem State.setEncoder_pins : (s.setEncoder n f).pins = s.pins := rfl
@[simp] theorem State.setEncoder_trace : (s.setEncoder n f).trace = s.trace := rfl
@[simp] theorem State.setEncoder_captures : (s.setEncoder n f).captures = s.captures := rfl
@[simp] theorem State.setEncoder_outbox : (s.setEncoder n f).outbox = s.outbox := rfl
end

section
variable (s : State) (n : Nat) (f : Hv → Hv)
@[simp] theorem State.setHv_pending : (s.setHv n f).pending = s.pending := rfl
@[simp] theorem State.setHv_freeCount : (s.setHv n f).freeCount = s.freeCount := rfl
@[simp] theorem State.setHv_now : (s.setHv n f).now = s.now := rfl
@[simp] theorem State.setHv_regs : (s.setHv n f).regs = s.regs := rfl
@[simp] theorem State.setHv_live : (s.setHv n f).live = s.live := rfl
@[simp] theorem State.setHv_snaps : (s.setHv n f).snaps = s.snaps := rfl
@[simp] theorem State.setHv_refused : (s.setHv n f).refused = s.refused := rfl
@[simp] theorem State.setHv_tumbler : (s.setHv n f).tumbler = s.tumbler := rfl
@[simp] theorem State.setHv_queues : (s.setHv n f).queues = s.queues := rfl
@[simp] theorem State.setHv_hold : (s.setHv n f).hold = s.hold := rfl
@[simp] theorem State.setHv_arrived : (s.setHv n f).arrived = s.arrived := rfl
@[simp] theorem State.setHv_running : (s.setHv n f).running = s.running := rfl
@[simp] theorem State.setHv_tags : (s.setHv n f).tags = s.tags := rfl
@[simp] theorem State.setHv_arbSeq : (s.setHv n f).arbSeq = s.arbSeq := rfl
@[simp] theorem State.setHv_arb : (s.setHv n f).arb = s.arb := rfl
@[simp] theorem State.setHv_eventSeq : (s.setHv n f).eventSeq = s.eventSeq := rfl
@[simp] theorem State.setHv_hostMask : (s.setHv n f).hostMask = s.hostMask := rfl
@[simp] theorem State.setHv_mgmtMask : (s.setHv n f).mgmtMask = s.mgmtMask := rfl
@[simp] theorem State.setHv_mgmt : (s.setHv n f).mgmt = s.mgmt := rfl
@[simp] theorem State.setHv_key : (s.setHv n f).key = s.key := rfl
@[simp] theorem State.setHv_cred : (s.setHv n f).cred = s.cred := rfl
@[simp] theorem State.setHv_modes : (s.setHv n f).modes = s.modes := rfl
@[simp] theorem State.setHv_resets : (s.setHv n f).resets = s.resets := rfl
@[simp] theorem State.setHv_boot : (s.setHv n f).boot = s.boot := rfl
@[simp] theorem State.setHv_sheets : (s.setHv n f).sheets = s.sheets := rfl
@[simp] theorem State.setHv_dma : (s.setHv n f).dma = s.dma := rfl
@[simp] theorem State.setHv_feed : (s.setHv n f).feed = s.feed := rfl
@[simp] theorem State.setHv_stations : (s.setHv n f).stations = s.stations := rfl
@[simp] theorem State.setHv_run : (s.setHv n f).run = s.run := rfl
@[simp] theorem State.setHv_drives : (s.setHv n f).drives = s.drives := rfl
@[simp] theorem State.setHv_bus : (s.setHv n f).bus = s.bus := rfl
@[simp] theorem State.setHv_loops : (s.setHv n f).loops = s.loops := rfl
@[simp] theorem State.setHv_loopWorst : (s.setHv n f).loopWorst = s.loopWorst := rfl
@[simp] theorem State.setHv_axes : (s.setHv n f).axes = s.axes := rfl
@[simp] theorem State.setHv_groups : (s.setHv n f).groups = s.groups := rfl
@[simp] theorem State.setHv_encoders : (s.setHv n f).encoders = s.encoders := rfl
@[simp] theorem State.setHv_path : (s.setHv n f).path = s.path := rfl
@[simp] theorem State.setHv_hv : (s.setHv n f).hv = s.hv.modify n f := rfl
@[simp] theorem State.setHv_zones : (s.setHv n f).zones = s.zones := rfl
@[simp] theorem State.setHv_therms : (s.setHv n f).therms = s.therms := rfl
@[simp] theorem State.setHv_safety : (s.setHv n f).safety = s.safety := rfl
@[simp] theorem State.setHv_mem : (s.setHv n f).mem = s.mem := rfl
@[simp] theorem State.setHv_afe : (s.setHv n f).afe = s.afe := rfl
@[simp] theorem State.setHv_pair : (s.setHv n f).pair = s.pair := rfl
@[simp] theorem State.setHv_pairWork : (s.setHv n f).pairWork = s.pairWork := rfl
@[simp] theorem State.setHv_supply : (s.setHv n f).supply = s.supply := rfl
@[simp] theorem State.setHv_nv : (s.setHv n f).nv = s.nv := rfl
@[simp] theorem State.setHv_pins : (s.setHv n f).pins = s.pins := rfl
@[simp] theorem State.setHv_trace : (s.setHv n f).trace = s.trace := rfl
@[simp] theorem State.setHv_captures : (s.setHv n f).captures = s.captures := rfl
@[simp] theorem State.setHv_outbox : (s.setHv n f).outbox = s.outbox := rfl
end

section
variable (s : State) (n : Nat) (f : Zone → Zone)
@[simp] theorem State.setZone_pending : (s.setZone n f).pending = s.pending := rfl
@[simp] theorem State.setZone_freeCount : (s.setZone n f).freeCount = s.freeCount := rfl
@[simp] theorem State.setZone_now : (s.setZone n f).now = s.now := rfl
@[simp] theorem State.setZone_regs : (s.setZone n f).regs = s.regs := rfl
@[simp] theorem State.setZone_live : (s.setZone n f).live = s.live := rfl
@[simp] theorem State.setZone_snaps : (s.setZone n f).snaps = s.snaps := rfl
@[simp] theorem State.setZone_refused : (s.setZone n f).refused = s.refused := rfl
@[simp] theorem State.setZone_tumbler : (s.setZone n f).tumbler = s.tumbler := rfl
@[simp] theorem State.setZone_queues : (s.setZone n f).queues = s.queues := rfl
@[simp] theorem State.setZone_hold : (s.setZone n f).hold = s.hold := rfl
@[simp] theorem State.setZone_arrived : (s.setZone n f).arrived = s.arrived := rfl
@[simp] theorem State.setZone_running : (s.setZone n f).running = s.running := rfl
@[simp] theorem State.setZone_tags : (s.setZone n f).tags = s.tags := rfl
@[simp] theorem State.setZone_arbSeq : (s.setZone n f).arbSeq = s.arbSeq := rfl
@[simp] theorem State.setZone_arb : (s.setZone n f).arb = s.arb := rfl
@[simp] theorem State.setZone_eventSeq : (s.setZone n f).eventSeq = s.eventSeq := rfl
@[simp] theorem State.setZone_hostMask : (s.setZone n f).hostMask = s.hostMask := rfl
@[simp] theorem State.setZone_mgmtMask : (s.setZone n f).mgmtMask = s.mgmtMask := rfl
@[simp] theorem State.setZone_mgmt : (s.setZone n f).mgmt = s.mgmt := rfl
@[simp] theorem State.setZone_key : (s.setZone n f).key = s.key := rfl
@[simp] theorem State.setZone_cred : (s.setZone n f).cred = s.cred := rfl
@[simp] theorem State.setZone_modes : (s.setZone n f).modes = s.modes := rfl
@[simp] theorem State.setZone_resets : (s.setZone n f).resets = s.resets := rfl
@[simp] theorem State.setZone_boot : (s.setZone n f).boot = s.boot := rfl
@[simp] theorem State.setZone_sheets : (s.setZone n f).sheets = s.sheets := rfl
@[simp] theorem State.setZone_dma : (s.setZone n f).dma = s.dma := rfl
@[simp] theorem State.setZone_feed : (s.setZone n f).feed = s.feed := rfl
@[simp] theorem State.setZone_stations : (s.setZone n f).stations = s.stations := rfl
@[simp] theorem State.setZone_run : (s.setZone n f).run = s.run := rfl
@[simp] theorem State.setZone_drives : (s.setZone n f).drives = s.drives := rfl
@[simp] theorem State.setZone_bus : (s.setZone n f).bus = s.bus := rfl
@[simp] theorem State.setZone_loops : (s.setZone n f).loops = s.loops := rfl
@[simp] theorem State.setZone_loopWorst : (s.setZone n f).loopWorst = s.loopWorst := rfl
@[simp] theorem State.setZone_axes : (s.setZone n f).axes = s.axes := rfl
@[simp] theorem State.setZone_groups : (s.setZone n f).groups = s.groups := rfl
@[simp] theorem State.setZone_encoders : (s.setZone n f).encoders = s.encoders := rfl
@[simp] theorem State.setZone_path : (s.setZone n f).path = s.path := rfl
@[simp] theorem State.setZone_hv : (s.setZone n f).hv = s.hv := rfl
@[simp] theorem State.setZone_zones : (s.setZone n f).zones = s.zones.modify n f := rfl
@[simp] theorem State.setZone_therms : (s.setZone n f).therms = s.therms := rfl
@[simp] theorem State.setZone_safety : (s.setZone n f).safety = s.safety := rfl
@[simp] theorem State.setZone_mem : (s.setZone n f).mem = s.mem := rfl
@[simp] theorem State.setZone_afe : (s.setZone n f).afe = s.afe := rfl
@[simp] theorem State.setZone_pair : (s.setZone n f).pair = s.pair := rfl
@[simp] theorem State.setZone_pairWork : (s.setZone n f).pairWork = s.pairWork := rfl
@[simp] theorem State.setZone_supply : (s.setZone n f).supply = s.supply := rfl
@[simp] theorem State.setZone_nv : (s.setZone n f).nv = s.nv := rfl
@[simp] theorem State.setZone_pins : (s.setZone n f).pins = s.pins := rfl
@[simp] theorem State.setZone_trace : (s.setZone n f).trace = s.trace := rfl
@[simp] theorem State.setZone_captures : (s.setZone n f).captures = s.captures := rfl
@[simp] theorem State.setZone_outbox : (s.setZone n f).outbox = s.outbox := rfl
end

section
variable (s : State) (n : Nat) (f : Therm → Therm)
@[simp] theorem State.setTherm_pending : (s.setTherm n f).pending = s.pending := rfl
@[simp] theorem State.setTherm_freeCount : (s.setTherm n f).freeCount = s.freeCount := rfl
@[simp] theorem State.setTherm_now : (s.setTherm n f).now = s.now := rfl
@[simp] theorem State.setTherm_regs : (s.setTherm n f).regs = s.regs := rfl
@[simp] theorem State.setTherm_live : (s.setTherm n f).live = s.live := rfl
@[simp] theorem State.setTherm_snaps : (s.setTherm n f).snaps = s.snaps := rfl
@[simp] theorem State.setTherm_refused : (s.setTherm n f).refused = s.refused := rfl
@[simp] theorem State.setTherm_tumbler : (s.setTherm n f).tumbler = s.tumbler := rfl
@[simp] theorem State.setTherm_queues : (s.setTherm n f).queues = s.queues := rfl
@[simp] theorem State.setTherm_hold : (s.setTherm n f).hold = s.hold := rfl
@[simp] theorem State.setTherm_arrived : (s.setTherm n f).arrived = s.arrived := rfl
@[simp] theorem State.setTherm_running : (s.setTherm n f).running = s.running := rfl
@[simp] theorem State.setTherm_tags : (s.setTherm n f).tags = s.tags := rfl
@[simp] theorem State.setTherm_arbSeq : (s.setTherm n f).arbSeq = s.arbSeq := rfl
@[simp] theorem State.setTherm_arb : (s.setTherm n f).arb = s.arb := rfl
@[simp] theorem State.setTherm_eventSeq : (s.setTherm n f).eventSeq = s.eventSeq := rfl
@[simp] theorem State.setTherm_hostMask : (s.setTherm n f).hostMask = s.hostMask := rfl
@[simp] theorem State.setTherm_mgmtMask : (s.setTherm n f).mgmtMask = s.mgmtMask := rfl
@[simp] theorem State.setTherm_mgmt : (s.setTherm n f).mgmt = s.mgmt := rfl
@[simp] theorem State.setTherm_key : (s.setTherm n f).key = s.key := rfl
@[simp] theorem State.setTherm_cred : (s.setTherm n f).cred = s.cred := rfl
@[simp] theorem State.setTherm_modes : (s.setTherm n f).modes = s.modes := rfl
@[simp] theorem State.setTherm_resets : (s.setTherm n f).resets = s.resets := rfl
@[simp] theorem State.setTherm_boot : (s.setTherm n f).boot = s.boot := rfl
@[simp] theorem State.setTherm_sheets : (s.setTherm n f).sheets = s.sheets := rfl
@[simp] theorem State.setTherm_dma : (s.setTherm n f).dma = s.dma := rfl
@[simp] theorem State.setTherm_feed : (s.setTherm n f).feed = s.feed := rfl
@[simp] theorem State.setTherm_stations : (s.setTherm n f).stations = s.stations := rfl
@[simp] theorem State.setTherm_run : (s.setTherm n f).run = s.run := rfl
@[simp] theorem State.setTherm_drives : (s.setTherm n f).drives = s.drives := rfl
@[simp] theorem State.setTherm_bus : (s.setTherm n f).bus = s.bus := rfl
@[simp] theorem State.setTherm_loops : (s.setTherm n f).loops = s.loops := rfl
@[simp] theorem State.setTherm_loopWorst : (s.setTherm n f).loopWorst = s.loopWorst := rfl
@[simp] theorem State.setTherm_axes : (s.setTherm n f).axes = s.axes := rfl
@[simp] theorem State.setTherm_groups : (s.setTherm n f).groups = s.groups := rfl
@[simp] theorem State.setTherm_encoders : (s.setTherm n f).encoders = s.encoders := rfl
@[simp] theorem State.setTherm_path : (s.setTherm n f).path = s.path := rfl
@[simp] theorem State.setTherm_hv : (s.setTherm n f).hv = s.hv := rfl
@[simp] theorem State.setTherm_zones : (s.setTherm n f).zones = s.zones := rfl
@[simp] theorem State.setTherm_therms : (s.setTherm n f).therms = s.therms.modify n f := rfl
@[simp] theorem State.setTherm_safety : (s.setTherm n f).safety = s.safety := rfl
@[simp] theorem State.setTherm_mem : (s.setTherm n f).mem = s.mem := rfl
@[simp] theorem State.setTherm_afe : (s.setTherm n f).afe = s.afe := rfl
@[simp] theorem State.setTherm_pair : (s.setTherm n f).pair = s.pair := rfl
@[simp] theorem State.setTherm_pairWork : (s.setTherm n f).pairWork = s.pairWork := rfl
@[simp] theorem State.setTherm_supply : (s.setTherm n f).supply = s.supply := rfl
@[simp] theorem State.setTherm_nv : (s.setTherm n f).nv = s.nv := rfl
@[simp] theorem State.setTherm_pins : (s.setTherm n f).pins = s.pins := rfl
@[simp] theorem State.setTherm_trace : (s.setTherm n f).trace = s.trace := rfl
@[simp] theorem State.setTherm_captures : (s.setTherm n f).captures = s.captures := rfl
@[simp] theorem State.setTherm_outbox : (s.setTherm n f).outbox = s.outbox := rfl
end

section
variable (s : State) (n : Nat) (f : Channel → Channel)
@[simp] theorem State.setChannel_pending : (s.setChannel n f).pending = s.pending := rfl
@[simp] theorem State.setChannel_freeCount : (s.setChannel n f).freeCount = s.freeCount := rfl
@[simp] theorem State.setChannel_now : (s.setChannel n f).now = s.now := rfl
@[simp] theorem State.setChannel_regs : (s.setChannel n f).regs = s.regs := rfl
@[simp] theorem State.setChannel_live : (s.setChannel n f).live = s.live := rfl
@[simp] theorem State.setChannel_snaps : (s.setChannel n f).snaps = s.snaps := rfl
@[simp] theorem State.setChannel_refused : (s.setChannel n f).refused = s.refused := rfl
@[simp] theorem State.setChannel_tumbler : (s.setChannel n f).tumbler = s.tumbler := rfl
@[simp] theorem State.setChannel_queues : (s.setChannel n f).queues = s.queues := rfl
@[simp] theorem State.setChannel_hold : (s.setChannel n f).hold = s.hold := rfl
@[simp] theorem State.setChannel_arrived : (s.setChannel n f).arrived = s.arrived := rfl
@[simp] theorem State.setChannel_running : (s.setChannel n f).running = s.running := rfl
@[simp] theorem State.setChannel_tags : (s.setChannel n f).tags = s.tags := rfl
@[simp] theorem State.setChannel_arbSeq : (s.setChannel n f).arbSeq = s.arbSeq := rfl
@[simp] theorem State.setChannel_arb : (s.setChannel n f).arb = s.arb := rfl
@[simp] theorem State.setChannel_eventSeq : (s.setChannel n f).eventSeq = s.eventSeq := rfl
@[simp] theorem State.setChannel_hostMask : (s.setChannel n f).hostMask = s.hostMask := rfl
@[simp] theorem State.setChannel_mgmtMask : (s.setChannel n f).mgmtMask = s.mgmtMask := rfl
@[simp] theorem State.setChannel_mgmt : (s.setChannel n f).mgmt = s.mgmt := rfl
@[simp] theorem State.setChannel_key : (s.setChannel n f).key = s.key := rfl
@[simp] theorem State.setChannel_cred : (s.setChannel n f).cred = s.cred := rfl
@[simp] theorem State.setChannel_modes : (s.setChannel n f).modes = s.modes := rfl
@[simp] theorem State.setChannel_resets : (s.setChannel n f).resets = s.resets := rfl
@[simp] theorem State.setChannel_boot : (s.setChannel n f).boot = s.boot := rfl
@[simp] theorem State.setChannel_sheets : (s.setChannel n f).sheets = s.sheets := rfl
@[simp] theorem State.setChannel_dma : (s.setChannel n f).dma = { s.dma with channels := s.dma.channels.modify n f } := rfl
@[simp] theorem State.setChannel_feed : (s.setChannel n f).feed = s.feed := rfl
@[simp] theorem State.setChannel_stations : (s.setChannel n f).stations = s.stations := rfl
@[simp] theorem State.setChannel_run : (s.setChannel n f).run = s.run := rfl
@[simp] theorem State.setChannel_drives : (s.setChannel n f).drives = s.drives := rfl
@[simp] theorem State.setChannel_bus : (s.setChannel n f).bus = s.bus := rfl
@[simp] theorem State.setChannel_loops : (s.setChannel n f).loops = s.loops := rfl
@[simp] theorem State.setChannel_loopWorst : (s.setChannel n f).loopWorst = s.loopWorst := rfl
@[simp] theorem State.setChannel_axes : (s.setChannel n f).axes = s.axes := rfl
@[simp] theorem State.setChannel_groups : (s.setChannel n f).groups = s.groups := rfl
@[simp] theorem State.setChannel_encoders : (s.setChannel n f).encoders = s.encoders := rfl
@[simp] theorem State.setChannel_path : (s.setChannel n f).path = s.path := rfl
@[simp] theorem State.setChannel_hv : (s.setChannel n f).hv = s.hv := rfl
@[simp] theorem State.setChannel_zones : (s.setChannel n f).zones = s.zones := rfl
@[simp] theorem State.setChannel_therms : (s.setChannel n f).therms = s.therms := rfl
@[simp] theorem State.setChannel_safety : (s.setChannel n f).safety = s.safety := rfl
@[simp] theorem State.setChannel_mem : (s.setChannel n f).mem = s.mem := rfl
@[simp] theorem State.setChannel_afe : (s.setChannel n f).afe = s.afe := rfl
@[simp] theorem State.setChannel_pair : (s.setChannel n f).pair = s.pair := rfl
@[simp] theorem State.setChannel_pairWork : (s.setChannel n f).pairWork = s.pairWork := rfl
@[simp] theorem State.setChannel_supply : (s.setChannel n f).supply = s.supply := rfl
@[simp] theorem State.setChannel_nv : (s.setChannel n f).nv = s.nv := rfl
@[simp] theorem State.setChannel_pins : (s.setChannel n f).pins = s.pins := rfl
@[simp] theorem State.setChannel_trace : (s.setChannel n f).trace = s.trace := rfl
@[simp] theorem State.setChannel_captures : (s.setChannel n f).captures = s.captures := rfl
@[simp] theorem State.setChannel_outbox : (s.setChannel n f).outbox = s.outbox := rfl
end

section
variable (s : State) (n : Nat) (f : Engine → Engine)
@[simp] theorem State.setEngine_pending : (s.setEngine n f).pending = s.pending := rfl
@[simp] theorem State.setEngine_freeCount : (s.setEngine n f).freeCount = s.freeCount := rfl
@[simp] theorem State.setEngine_now : (s.setEngine n f).now = s.now := rfl
@[simp] theorem State.setEngine_regs : (s.setEngine n f).regs = s.regs := rfl
@[simp] theorem State.setEngine_live : (s.setEngine n f).live = s.live := rfl
@[simp] theorem State.setEngine_snaps : (s.setEngine n f).snaps = s.snaps := rfl
@[simp] theorem State.setEngine_refused : (s.setEngine n f).refused = s.refused := rfl
@[simp] theorem State.setEngine_tumbler : (s.setEngine n f).tumbler = s.tumbler := rfl
@[simp] theorem State.setEngine_queues : (s.setEngine n f).queues = s.queues := rfl
@[simp] theorem State.setEngine_hold : (s.setEngine n f).hold = s.hold := rfl
@[simp] theorem State.setEngine_arrived : (s.setEngine n f).arrived = s.arrived := rfl
@[simp] theorem State.setEngine_running : (s.setEngine n f).running = s.running := rfl
@[simp] theorem State.setEngine_tags : (s.setEngine n f).tags = s.tags := rfl
@[simp] theorem State.setEngine_arbSeq : (s.setEngine n f).arbSeq = s.arbSeq := rfl
@[simp] theorem State.setEngine_arb : (s.setEngine n f).arb = s.arb := rfl
@[simp] theorem State.setEngine_eventSeq : (s.setEngine n f).eventSeq = s.eventSeq := rfl
@[simp] theorem State.setEngine_hostMask : (s.setEngine n f).hostMask = s.hostMask := rfl
@[simp] theorem State.setEngine_mgmtMask : (s.setEngine n f).mgmtMask = s.mgmtMask := rfl
@[simp] theorem State.setEngine_mgmt : (s.setEngine n f).mgmt = s.mgmt := rfl
@[simp] theorem State.setEngine_key : (s.setEngine n f).key = s.key := rfl
@[simp] theorem State.setEngine_cred : (s.setEngine n f).cred = s.cred := rfl
@[simp] theorem State.setEngine_modes : (s.setEngine n f).modes = s.modes := rfl
@[simp] theorem State.setEngine_resets : (s.setEngine n f).resets = s.resets := rfl
@[simp] theorem State.setEngine_boot : (s.setEngine n f).boot = s.boot := rfl
@[simp] theorem State.setEngine_sheets : (s.setEngine n f).sheets = s.sheets := rfl
@[simp] theorem State.setEngine_dma : (s.setEngine n f).dma = s.dma := rfl
@[simp] theorem State.setEngine_feed : (s.setEngine n f).feed = { s.feed with engines := s.feed.engines.modify n f } := rfl
@[simp] theorem State.setEngine_stations : (s.setEngine n f).stations = s.stations := rfl
@[simp] theorem State.setEngine_run : (s.setEngine n f).run = s.run := rfl
@[simp] theorem State.setEngine_drives : (s.setEngine n f).drives = s.drives := rfl
@[simp] theorem State.setEngine_bus : (s.setEngine n f).bus = s.bus := rfl
@[simp] theorem State.setEngine_loops : (s.setEngine n f).loops = s.loops := rfl
@[simp] theorem State.setEngine_loopWorst : (s.setEngine n f).loopWorst = s.loopWorst := rfl
@[simp] theorem State.setEngine_axes : (s.setEngine n f).axes = s.axes := rfl
@[simp] theorem State.setEngine_groups : (s.setEngine n f).groups = s.groups := rfl
@[simp] theorem State.setEngine_encoders : (s.setEngine n f).encoders = s.encoders := rfl
@[simp] theorem State.setEngine_path : (s.setEngine n f).path = s.path := rfl
@[simp] theorem State.setEngine_hv : (s.setEngine n f).hv = s.hv := rfl
@[simp] theorem State.setEngine_zones : (s.setEngine n f).zones = s.zones := rfl
@[simp] theorem State.setEngine_therms : (s.setEngine n f).therms = s.therms := rfl
@[simp] theorem State.setEngine_safety : (s.setEngine n f).safety = s.safety := rfl
@[simp] theorem State.setEngine_mem : (s.setEngine n f).mem = s.mem := rfl
@[simp] theorem State.setEngine_afe : (s.setEngine n f).afe = s.afe := rfl
@[simp] theorem State.setEngine_pair : (s.setEngine n f).pair = s.pair := rfl
@[simp] theorem State.setEngine_pairWork : (s.setEngine n f).pairWork = s.pairWork := rfl
@[simp] theorem State.setEngine_supply : (s.setEngine n f).supply = s.supply := rfl
@[simp] theorem State.setEngine_nv : (s.setEngine n f).nv = s.nv := rfl
@[simp] theorem State.setEngine_pins : (s.setEngine n f).pins = s.pins := rfl
@[simp] theorem State.setEngine_trace : (s.setEngine n f).trace = s.trace := rfl
@[simp] theorem State.setEngine_captures : (s.setEngine n f).captures = s.captures := rfl
@[simp] theorem State.setEngine_outbox : (s.setEngine n f).outbox = s.outbox := rfl
end

section
variable (s : State) (n : Nat) (f : Bank → Bank)
@[simp] theorem State.setBank_pending : (s.setBank n f).pending = s.pending := rfl
@[simp] theorem State.setBank_freeCount : (s.setBank n f).freeCount = s.freeCount := rfl
@[simp] theorem State.setBank_now : (s.setBank n f).now = s.now := rfl
@[simp] theorem State.setBank_regs : (s.setBank n f).regs = s.regs := rfl
@[simp] theorem State.setBank_live : (s.setBank n f).live = s.live := rfl
@[simp] theorem State.setBank_snaps : (s.setBank n f).snaps = s.snaps := rfl
@[simp] theorem State.setBank_refused : (s.setBank n f).refused = s.refused := rfl
@[simp] theorem State.setBank_tumbler : (s.setBank n f).tumbler = s.tumbler := rfl
@[simp] theorem State.setBank_queues : (s.setBank n f).queues = s.queues := rfl
@[simp] theorem State.setBank_hold : (s.setBank n f).hold = s.hold := rfl
@[simp] theorem State.setBank_arrived : (s.setBank n f).arrived = s.arrived := rfl
@[simp] theorem State.setBank_running : (s.setBank n f).running = s.running := rfl
@[simp] theorem State.setBank_tags : (s.setBank n f).tags = s.tags := rfl
@[simp] theorem State.setBank_arbSeq : (s.setBank n f).arbSeq = s.arbSeq := rfl
@[simp] theorem State.setBank_arb : (s.setBank n f).arb = s.arb := rfl
@[simp] theorem State.setBank_eventSeq : (s.setBank n f).eventSeq = s.eventSeq := rfl
@[simp] theorem State.setBank_hostMask : (s.setBank n f).hostMask = s.hostMask := rfl
@[simp] theorem State.setBank_mgmtMask : (s.setBank n f).mgmtMask = s.mgmtMask := rfl
@[simp] theorem State.setBank_mgmt : (s.setBank n f).mgmt = s.mgmt := rfl
@[simp] theorem State.setBank_key : (s.setBank n f).key = s.key := rfl
@[simp] theorem State.setBank_cred : (s.setBank n f).cred = s.cred := rfl
@[simp] theorem State.setBank_modes : (s.setBank n f).modes = s.modes := rfl
@[simp] theorem State.setBank_resets : (s.setBank n f).resets = s.resets := rfl
@[simp] theorem State.setBank_boot : (s.setBank n f).boot = s.boot := rfl
@[simp] theorem State.setBank_sheets : (s.setBank n f).sheets = s.sheets := rfl
@[simp] theorem State.setBank_dma : (s.setBank n f).dma = s.dma := rfl
@[simp] theorem State.setBank_feed : (s.setBank n f).feed = s.feed := rfl
@[simp] theorem State.setBank_stations : (s.setBank n f).stations = s.stations := rfl
@[simp] theorem State.setBank_run : (s.setBank n f).run = s.run := rfl
@[simp] theorem State.setBank_drives : (s.setBank n f).drives = s.drives := rfl
@[simp] theorem State.setBank_bus : (s.setBank n f).bus = s.bus := rfl
@[simp] theorem State.setBank_loops : (s.setBank n f).loops = s.loops := rfl
@[simp] theorem State.setBank_loopWorst : (s.setBank n f).loopWorst = s.loopWorst := rfl
@[simp] theorem State.setBank_axes : (s.setBank n f).axes = s.axes := rfl
@[simp] theorem State.setBank_groups : (s.setBank n f).groups = s.groups := rfl
@[simp] theorem State.setBank_encoders : (s.setBank n f).encoders = s.encoders := rfl
@[simp] theorem State.setBank_path : (s.setBank n f).path = s.path := rfl
@[simp] theorem State.setBank_hv : (s.setBank n f).hv = s.hv := rfl
@[simp] theorem State.setBank_zones : (s.setBank n f).zones = s.zones := rfl
@[simp] theorem State.setBank_therms : (s.setBank n f).therms = s.therms := rfl
@[simp] theorem State.setBank_safety : (s.setBank n f).safety = s.safety := rfl
@[simp] theorem State.setBank_mem : (s.setBank n f).mem = s.mem := rfl
@[simp] theorem State.setBank_afe : (s.setBank n f).afe = { s.afe with banks := s.afe.banks.modify n f } := rfl
@[simp] theorem State.setBank_pair : (s.setBank n f).pair = s.pair := rfl
@[simp] theorem State.setBank_pairWork : (s.setBank n f).pairWork = s.pairWork := rfl
@[simp] theorem State.setBank_supply : (s.setBank n f).supply = s.supply := rfl
@[simp] theorem State.setBank_nv : (s.setBank n f).nv = s.nv := rfl
@[simp] theorem State.setBank_pins : (s.setBank n f).pins = s.pins := rfl
@[simp] theorem State.setBank_trace : (s.setBank n f).trace = s.trace := rfl
@[simp] theorem State.setBank_captures : (s.setBank n f).captures = s.captures := rfl
@[simp] theorem State.setBank_outbox : (s.setBank n f).outbox = s.outbox := rfl
end

section
variable (s : State) (n : Nat) (f : AfeChannel → AfeChannel)
@[simp] theorem State.setAfeChan_pending : (s.setAfeChan n f).pending = s.pending := rfl
@[simp] theorem State.setAfeChan_freeCount : (s.setAfeChan n f).freeCount = s.freeCount := rfl
@[simp] theorem State.setAfeChan_now : (s.setAfeChan n f).now = s.now := rfl
@[simp] theorem State.setAfeChan_regs : (s.setAfeChan n f).regs = s.regs := rfl
@[simp] theorem State.setAfeChan_live : (s.setAfeChan n f).live = s.live := rfl
@[simp] theorem State.setAfeChan_snaps : (s.setAfeChan n f).snaps = s.snaps := rfl
@[simp] theorem State.setAfeChan_refused : (s.setAfeChan n f).refused = s.refused := rfl
@[simp] theorem State.setAfeChan_tumbler : (s.setAfeChan n f).tumbler = s.tumbler := rfl
@[simp] theorem State.setAfeChan_queues : (s.setAfeChan n f).queues = s.queues := rfl
@[simp] theorem State.setAfeChan_hold : (s.setAfeChan n f).hold = s.hold := rfl
@[simp] theorem State.setAfeChan_arrived : (s.setAfeChan n f).arrived = s.arrived := rfl
@[simp] theorem State.setAfeChan_running : (s.setAfeChan n f).running = s.running := rfl
@[simp] theorem State.setAfeChan_tags : (s.setAfeChan n f).tags = s.tags := rfl
@[simp] theorem State.setAfeChan_arbSeq : (s.setAfeChan n f).arbSeq = s.arbSeq := rfl
@[simp] theorem State.setAfeChan_arb : (s.setAfeChan n f).arb = s.arb := rfl
@[simp] theorem State.setAfeChan_eventSeq : (s.setAfeChan n f).eventSeq = s.eventSeq := rfl
@[simp] theorem State.setAfeChan_hostMask : (s.setAfeChan n f).hostMask = s.hostMask := rfl
@[simp] theorem State.setAfeChan_mgmtMask : (s.setAfeChan n f).mgmtMask = s.mgmtMask := rfl
@[simp] theorem State.setAfeChan_mgmt : (s.setAfeChan n f).mgmt = s.mgmt := rfl
@[simp] theorem State.setAfeChan_key : (s.setAfeChan n f).key = s.key := rfl
@[simp] theorem State.setAfeChan_cred : (s.setAfeChan n f).cred = s.cred := rfl
@[simp] theorem State.setAfeChan_modes : (s.setAfeChan n f).modes = s.modes := rfl
@[simp] theorem State.setAfeChan_resets : (s.setAfeChan n f).resets = s.resets := rfl
@[simp] theorem State.setAfeChan_boot : (s.setAfeChan n f).boot = s.boot := rfl
@[simp] theorem State.setAfeChan_sheets : (s.setAfeChan n f).sheets = s.sheets := rfl
@[simp] theorem State.setAfeChan_dma : (s.setAfeChan n f).dma = s.dma := rfl
@[simp] theorem State.setAfeChan_feed : (s.setAfeChan n f).feed = s.feed := rfl
@[simp] theorem State.setAfeChan_stations : (s.setAfeChan n f).stations = s.stations := rfl
@[simp] theorem State.setAfeChan_run : (s.setAfeChan n f).run = s.run := rfl
@[simp] theorem State.setAfeChan_drives : (s.setAfeChan n f).drives = s.drives := rfl
@[simp] theorem State.setAfeChan_bus : (s.setAfeChan n f).bus = s.bus := rfl
@[simp] theorem State.setAfeChan_loops : (s.setAfeChan n f).loops = s.loops := rfl
@[simp] theorem State.setAfeChan_loopWorst : (s.setAfeChan n f).loopWorst = s.loopWorst := rfl
@[simp] theorem State.setAfeChan_axes : (s.setAfeChan n f).axes = s.axes := rfl
@[simp] theorem State.setAfeChan_groups : (s.setAfeChan n f).groups = s.groups := rfl
@[simp] theorem State.setAfeChan_encoders : (s.setAfeChan n f).encoders = s.encoders := rfl
@[simp] theorem State.setAfeChan_path : (s.setAfeChan n f).path = s.path := rfl
@[simp] theorem State.setAfeChan_hv : (s.setAfeChan n f).hv = s.hv := rfl
@[simp] theorem State.setAfeChan_zones : (s.setAfeChan n f).zones = s.zones := rfl
@[simp] theorem State.setAfeChan_therms : (s.setAfeChan n f).therms = s.therms := rfl
@[simp] theorem State.setAfeChan_safety : (s.setAfeChan n f).safety = s.safety := rfl
@[simp] theorem State.setAfeChan_mem : (s.setAfeChan n f).mem = s.mem := rfl
@[simp] theorem State.setAfeChan_afe : (s.setAfeChan n f).afe = { s.afe with channels := s.afe.channels.modify n f } := rfl
@[simp] theorem State.setAfeChan_pair : (s.setAfeChan n f).pair = s.pair := rfl
@[simp] theorem State.setAfeChan_pairWork : (s.setAfeChan n f).pairWork = s.pairWork := rfl
@[simp] theorem State.setAfeChan_supply : (s.setAfeChan n f).supply = s.supply := rfl
@[simp] theorem State.setAfeChan_nv : (s.setAfeChan n f).nv = s.nv := rfl
@[simp] theorem State.setAfeChan_pins : (s.setAfeChan n f).pins = s.pins := rfl
@[simp] theorem State.setAfeChan_trace : (s.setAfeChan n f).trace = s.trace := rfl
@[simp] theorem State.setAfeChan_captures : (s.setAfeChan n f).captures = s.captures := rfl
@[simp] theorem State.setAfeChan_outbox : (s.setAfeChan n f).outbox = s.outbox := rfl
end

section
variable (s : State) (n : Nat) (f : Sheet → Sheet)
@[simp] theorem State.setSheet_pending : (s.setSheet n f).pending = s.pending := rfl
@[simp] theorem State.setSheet_freeCount : (s.setSheet n f).freeCount = s.freeCount := rfl
@[simp] theorem State.setSheet_now : (s.setSheet n f).now = s.now := rfl
@[simp] theorem State.setSheet_regs : (s.setSheet n f).regs = s.regs := rfl
@[simp] theorem State.setSheet_live : (s.setSheet n f).live = s.live := rfl
@[simp] theorem State.setSheet_snaps : (s.setSheet n f).snaps = s.snaps := rfl
@[simp] theorem State.setSheet_refused : (s.setSheet n f).refused = s.refused := rfl
@[simp] theorem State.setSheet_tumbler : (s.setSheet n f).tumbler = s.tumbler := rfl
@[simp] theorem State.setSheet_queues : (s.setSheet n f).queues = s.queues := rfl
@[simp] theorem State.setSheet_hold : (s.setSheet n f).hold = s.hold := rfl
@[simp] theorem State.setSheet_arrived : (s.setSheet n f).arrived = s.arrived := rfl
@[simp] theorem State.setSheet_running : (s.setSheet n f).running = s.running := rfl
@[simp] theorem State.setSheet_tags : (s.setSheet n f).tags = s.tags := rfl
@[simp] theorem State.setSheet_arbSeq : (s.setSheet n f).arbSeq = s.arbSeq := rfl
@[simp] theorem State.setSheet_arb : (s.setSheet n f).arb = s.arb := rfl
@[simp] theorem State.setSheet_eventSeq : (s.setSheet n f).eventSeq = s.eventSeq := rfl
@[simp] theorem State.setSheet_hostMask : (s.setSheet n f).hostMask = s.hostMask := rfl
@[simp] theorem State.setSheet_mgmtMask : (s.setSheet n f).mgmtMask = s.mgmtMask := rfl
@[simp] theorem State.setSheet_mgmt : (s.setSheet n f).mgmt = s.mgmt := rfl
@[simp] theorem State.setSheet_key : (s.setSheet n f).key = s.key := rfl
@[simp] theorem State.setSheet_cred : (s.setSheet n f).cred = s.cred := rfl
@[simp] theorem State.setSheet_modes : (s.setSheet n f).modes = s.modes := rfl
@[simp] theorem State.setSheet_resets : (s.setSheet n f).resets = s.resets := rfl
@[simp] theorem State.setSheet_boot : (s.setSheet n f).boot = s.boot := rfl
@[simp] theorem State.setSheet_sheets : (s.setSheet n f).sheets = { s.sheets with slots := s.sheets.slots.modify n (Option.map f) } := rfl
@[simp] theorem State.setSheet_dma : (s.setSheet n f).dma = s.dma := rfl
@[simp] theorem State.setSheet_feed : (s.setSheet n f).feed = s.feed := rfl
@[simp] theorem State.setSheet_stations : (s.setSheet n f).stations = s.stations := rfl
@[simp] theorem State.setSheet_run : (s.setSheet n f).run = s.run := rfl
@[simp] theorem State.setSheet_drives : (s.setSheet n f).drives = s.drives := rfl
@[simp] theorem State.setSheet_bus : (s.setSheet n f).bus = s.bus := rfl
@[simp] theorem State.setSheet_loops : (s.setSheet n f).loops = s.loops := rfl
@[simp] theorem State.setSheet_loopWorst : (s.setSheet n f).loopWorst = s.loopWorst := rfl
@[simp] theorem State.setSheet_axes : (s.setSheet n f).axes = s.axes := rfl
@[simp] theorem State.setSheet_groups : (s.setSheet n f).groups = s.groups := rfl
@[simp] theorem State.setSheet_encoders : (s.setSheet n f).encoders = s.encoders := rfl
@[simp] theorem State.setSheet_path : (s.setSheet n f).path = s.path := rfl
@[simp] theorem State.setSheet_hv : (s.setSheet n f).hv = s.hv := rfl
@[simp] theorem State.setSheet_zones : (s.setSheet n f).zones = s.zones := rfl
@[simp] theorem State.setSheet_therms : (s.setSheet n f).therms = s.therms := rfl
@[simp] theorem State.setSheet_safety : (s.setSheet n f).safety = s.safety := rfl
@[simp] theorem State.setSheet_mem : (s.setSheet n f).mem = s.mem := rfl
@[simp] theorem State.setSheet_afe : (s.setSheet n f).afe = s.afe := rfl
@[simp] theorem State.setSheet_pair : (s.setSheet n f).pair = s.pair := rfl
@[simp] theorem State.setSheet_pairWork : (s.setSheet n f).pairWork = s.pairWork := rfl
@[simp] theorem State.setSheet_supply : (s.setSheet n f).supply = s.supply := rfl
@[simp] theorem State.setSheet_nv : (s.setSheet n f).nv = s.nv := rfl
@[simp] theorem State.setSheet_pins : (s.setSheet n f).pins = s.pins := rfl
@[simp] theorem State.setSheet_trace : (s.setSheet n f).trace = s.trace := rfl
@[simp] theorem State.setSheet_captures : (s.setSheet n f).captures = s.captures := rfl
@[simp] theorem State.setSheet_outbox : (s.setSheet n f).outbox = s.outbox := rfl
end

section
variable (s : State) (t : Nat)
@[simp] theorem State.at_reg (b : Nat) : (s.at t).reg b = s.reg b := rfl
@[simp] theorem State.at_imm (g : FieldRef) : (s.at t).imm g = s.imm g := rfl
@[simp] theorem State.at_on (g : FieldRef) : (s.at t).on g = s.on g := rfl
@[simp] theorem State.at_immInt (g : FieldRef) : (s.at t).immInt g = s.immInt g := rfl
@[simp] theorem State.at_liveReg (b : Nat) : (s.at t).liveReg b = s.liveReg b := rfl
@[simp] theorem State.at_liv (g : FieldRef) : (s.at t).liv g = s.liv g := rfl
@[simp] theorem State.at_livOn (g : FieldRef) : (s.at t).livOn g = s.livOn g := rfl
@[simp] theorem State.at_livInt (g : FieldRef) : (s.at t).livInt g = s.livInt g := rfl
@[simp] theorem State.at_queueType (m : Nat) : (s.at t).queueType m = s.queueType m := rfl
@[simp] theorem State.at_queueSize (m : Nat) : (s.at t).queueSize m = s.queueSize m := rfl
@[simp] theorem State.at_queueOn (m : Nat) : (s.at t).queueOn m = s.queueOn m := rfl
@[simp] theorem State.at_mode : (s.at t).mode = s.mode := rfl
@[simp] theorem State.at_up : (s.at t).up = s.up := rfl
end

section
variable (s : State) (o : Output)
@[simp] theorem State.out_reg (b : Nat) : (s.out o).reg b = s.reg b := rfl
@[simp] theorem State.out_imm (g : FieldRef) : (s.out o).imm g = s.imm g := rfl
@[simp] theorem State.out_on (g : FieldRef) : (s.out o).on g = s.on g := rfl
@[simp] theorem State.out_immInt (g : FieldRef) : (s.out o).immInt g = s.immInt g := rfl
@[simp] theorem State.out_liveReg (b : Nat) : (s.out o).liveReg b = s.liveReg b := rfl
@[simp] theorem State.out_liv (g : FieldRef) : (s.out o).liv g = s.liv g := rfl
@[simp] theorem State.out_livOn (g : FieldRef) : (s.out o).livOn g = s.livOn g := rfl
@[simp] theorem State.out_livInt (g : FieldRef) : (s.out o).livInt g = s.livInt g := rfl
@[simp] theorem State.out_queueType (m : Nat) : (s.out o).queueType m = s.queueType m := rfl
@[simp] theorem State.out_queueSize (m : Nat) : (s.out o).queueSize m = s.queueSize m := rfl
@[simp] theorem State.out_queueOn (m : Nat) : (s.out o).queueOn m = s.queueOn m := rfl
@[simp] theorem State.out_mode : (s.out o).mode = s.mode := rfl
@[simp] theorem State.out_up : (s.out o).up = s.up := rfl
end

section
variable (s : State) (a : Nat) (w : Word)
@[simp] theorem State.setReg_liveReg (b : Nat) : (s.setReg a w).liveReg b = s.liveReg b := rfl
@[simp] theorem State.setReg_liv (g : FieldRef) : (s.setReg a w).liv g = s.liv g := rfl
@[simp] theorem State.setReg_livOn (g : FieldRef) : (s.setReg a w).livOn g = s.livOn g := rfl
@[simp] theorem State.setReg_livInt (g : FieldRef) : (s.setReg a w).livInt g = s.livInt g := rfl
@[simp] theorem State.setReg_queueType (m : Nat) : (s.setReg a w).queueType m = s.queueType m := rfl
@[simp] theorem State.setReg_queueSize (m : Nat) : (s.setReg a w).queueSize m = s.queueSize m := rfl
@[simp] theorem State.setReg_mode : (s.setReg a w).mode = s.mode := rfl
@[simp] theorem State.setReg_up : (s.setReg a w).up = s.up := rfl
end

section
variable (s : State) (a : Nat) (w : Word)
@[simp] theorem State.setLiveReg_reg (b : Nat) : (s.setLiveReg a w).reg b = s.reg b := rfl
@[simp] theorem State.setLiveReg_imm (g : FieldRef) : (s.setLiveReg a w).imm g = s.imm g := rfl
@[simp] theorem State.setLiveReg_on (g : FieldRef) : (s.setLiveReg a w).on g = s.on g := rfl
@[simp] theorem State.setLiveReg_immInt (g : FieldRef) : (s.setLiveReg a w).immInt g = s.immInt g := rfl
@[simp] theorem State.setLiveReg_queueOn (m : Nat) : (s.setLiveReg a w).queueOn m = s.queueOn m := rfl
@[simp] theorem State.setLiveReg_mode : (s.setLiveReg a w).mode = s.mode := rfl
@[simp] theorem State.setLiveReg_up : (s.setLiveReg a w).up = s.up := rfl
end

section
variable (s : State) (f : FieldRef) (v : Nat)
@[simp] theorem State.setImm_liveReg (b : Nat) : (s.setImm f v).liveReg b = s.liveReg b := rfl
@[simp] theorem State.setImm_liv (g : FieldRef) : (s.setImm f v).liv g = s.liv g := rfl
@[simp] theorem State.setImm_livOn (g : FieldRef) : (s.setImm f v).livOn g = s.livOn g := rfl
@[simp] theorem State.setImm_livInt (g : FieldRef) : (s.setImm f v).livInt g = s.livInt g := rfl
@[simp] theorem State.setImm_queueType (m : Nat) : (s.setImm f v).queueType m = s.queueType m := rfl
@[simp] theorem State.setImm_queueSize (m : Nat) : (s.setImm f v).queueSize m = s.queueSize m := rfl
@[simp] theorem State.setImm_mode : (s.setImm f v).mode = s.mode := rfl
@[simp] theorem State.setImm_up : (s.setImm f v).up = s.up := rfl
end

section
variable (s : State) (c : Cmd)
@[simp] theorem State.start_reg (b : Nat) : (s.start c).reg b = s.reg b := rfl
@[simp] theorem State.start_imm (g : FieldRef) : (s.start c).imm g = s.imm g := rfl
@[simp] theorem State.start_on (g : FieldRef) : (s.start c).on g = s.on g := rfl
@[simp] theorem State.start_immInt (g : FieldRef) : (s.start c).immInt g = s.immInt g := rfl
@[simp] theorem State.start_liveReg (b : Nat) : (s.start c).liveReg b = s.liveReg b := rfl
@[simp] theorem State.start_liv (g : FieldRef) : (s.start c).liv g = s.liv g := rfl
@[simp] theorem State.start_livOn (g : FieldRef) : (s.start c).livOn g = s.livOn g := rfl
@[simp] theorem State.start_livInt (g : FieldRef) : (s.start c).livInt g = s.livInt g := rfl
@[simp] theorem State.start_queueType (m : Nat) : (s.start c).queueType m = s.queueType m := rfl
@[simp] theorem State.start_queueSize (m : Nat) : (s.start c).queueSize m = s.queueSize m := rfl
@[simp] theorem State.start_queueOn (m : Nat) : (s.start c).queueOn m = s.queueOn m := rfl
@[simp] theorem State.start_mode : (s.start c).mode = s.mode := rfl
@[simp] theorem State.start_up : (s.start c).up = s.up := rfl
end

section
variable (s : State) (p : Cmd → Bool)
@[simp] theorem State.drop_reg (b : Nat) : (s.drop p).reg b = s.reg b := rfl
@[simp] theorem State.drop_imm (g : FieldRef) : (s.drop p).imm g = s.imm g := rfl
@[simp] theorem State.drop_on (g : FieldRef) : (s.drop p).on g = s.on g := rfl
@[simp] theorem State.drop_immInt (g : FieldRef) : (s.drop p).immInt g = s.immInt g := rfl
@[simp] theorem State.drop_liveReg (b : Nat) : (s.drop p).liveReg b = s.liveReg b := rfl
@[simp] theorem State.drop_liv (g : FieldRef) : (s.drop p).liv g = s.liv g := rfl
@[simp] theorem State.drop_livOn (g : FieldRef) : (s.drop p).livOn g = s.livOn g := rfl
@[simp] theorem State.drop_livInt (g : FieldRef) : (s.drop p).livInt g = s.livInt g := rfl
@[simp] theorem State.drop_queueType (m : Nat) : (s.drop p).queueType m = s.queueType m := rfl
@[simp] theorem State.drop_queueSize (m : Nat) : (s.drop p).queueSize m = s.queueSize m := rfl
@[simp] theorem State.drop_queueOn (m : Nat) : (s.drop p).queueOn m = s.queueOn m := rfl
@[simp] theorem State.drop_mode : (s.drop p).mode = s.mode := rfl
@[simp] theorem State.drop_up : (s.drop p).up = s.up := rfl
end

section
variable (s : State) (op : Nat) (p : Packet)
@[simp] theorem State.take_reg (b : Nat) : (s.take op p).reg b = s.reg b := rfl
@[simp] theorem State.take_imm (g : FieldRef) : (s.take op p).imm g = s.imm g := rfl
@[simp] theorem State.take_on (g : FieldRef) : (s.take op p).on g = s.on g := rfl
@[simp] theorem State.take_immInt (g : FieldRef) : (s.take op p).immInt g = s.immInt g := rfl
@[simp] theorem State.take_liveReg (b : Nat) : (s.take op p).liveReg b = s.liveReg b := rfl
@[simp] theorem State.take_liv (g : FieldRef) : (s.take op p).liv g = s.liv g := rfl
@[simp] theorem State.take_livOn (g : FieldRef) : (s.take op p).livOn g = s.livOn g := rfl
@[simp] theorem State.take_livInt (g : FieldRef) : (s.take op p).livInt g = s.livInt g := rfl
@[simp] theorem State.take_queueType (m : Nat) : (s.take op p).queueType m = s.queueType m := rfl
@[simp] theorem State.take_queueSize (m : Nat) : (s.take op p).queueSize m = s.queueSize m := rfl
@[simp] theorem State.take_queueOn (m : Nat) : (s.take op p).queueOn m = s.queueOn m := rfl
@[simp] theorem State.take_mode : (s.take op p).mode = s.mode := rfl
@[simp] theorem State.take_up : (s.take op p).up = s.up := rfl
end

section
variable (s : State) (n : Nat) (f : Queue → Queue)
@[simp] theorem State.setQueue_reg (b : Nat) : (s.setQueue n f).reg b = s.reg b := rfl
@[simp] theorem State.setQueue_imm (g : FieldRef) : (s.setQueue n f).imm g = s.imm g := rfl
@[simp] theorem State.setQueue_on (g : FieldRef) : (s.setQueue n f).on g = s.on g := rfl
@[simp] theorem State.setQueue_immInt (g : FieldRef) : (s.setQueue n f).immInt g = s.immInt g := rfl
@[simp] theorem State.setQueue_liveReg (b : Nat) : (s.setQueue n f).liveReg b = s.liveReg b := rfl
@[simp] theorem State.setQueue_liv (g : FieldRef) : (s.setQueue n f).liv g = s.liv g := rfl
@[simp] theorem State.setQueue_livOn (g : FieldRef) : (s.setQueue n f).livOn g = s.livOn g := rfl
@[simp] theorem State.setQueue_livInt (g : FieldRef) : (s.setQueue n f).livInt g = s.livInt g := rfl
@[simp] theorem State.setQueue_queueType (m : Nat) : (s.setQueue n f).queueType m = s.queueType m := rfl
@[simp] theorem State.setQueue_queueSize (m : Nat) : (s.setQueue n f).queueSize m = s.queueSize m := rfl
@[simp] theorem State.setQueue_queueOn (m : Nat) : (s.setQueue n f).queueOn m = s.queueOn m := rfl
@[simp] theorem State.setQueue_mode : (s.setQueue n f).mode = s.mode := rfl
@[simp] theorem State.setQueue_up : (s.setQueue n f).up = s.up := rfl
end

section
variable (s : State) (n : Nat) (f : Station → Station)
@[simp] theorem State.setStation_reg (b : Nat) : (s.setStation n f).reg b = s.reg b := rfl
@[simp] theorem State.setStation_imm (g : FieldRef) : (s.setStation n f).imm g = s.imm g := rfl
@[simp] theorem State.setStation_on (g : FieldRef) : (s.setStation n f).on g = s.on g := rfl
@[simp] theorem State.setStation_immInt (g : FieldRef) : (s.setStation n f).immInt g = s.immInt g := rfl
@[simp] theorem State.setStation_liveReg (b : Nat) : (s.setStation n f).liveReg b = s.liveReg b := rfl
@[simp] theorem State.setStation_liv (g : FieldRef) : (s.setStation n f).liv g = s.liv g := rfl
@[simp] theorem State.setStation_livOn (g : FieldRef) : (s.setStation n f).livOn g = s.livOn g := rfl
@[simp] theorem State.setStation_livInt (g : FieldRef) : (s.setStation n f).livInt g = s.livInt g := rfl
@[simp] theorem State.setStation_queueType (m : Nat) : (s.setStation n f).queueType m = s.queueType m := rfl
@[simp] theorem State.setStation_queueSize (m : Nat) : (s.setStation n f).queueSize m = s.queueSize m := rfl
@[simp] theorem State.setStation_queueOn (m : Nat) : (s.setStation n f).queueOn m = s.queueOn m := rfl
@[simp] theorem State.setStation_mode : (s.setStation n f).mode = s.mode := rfl
@[simp] theorem State.setStation_up : (s.setStation n f).up = s.up := rfl
end

section
variable (s : State) (n : Nat) (f : Drive → Drive)
@[simp] theorem State.setDrive_reg (b : Nat) : (s.setDrive n f).reg b = s.reg b := rfl
@[simp] theorem State.setDrive_imm (g : FieldRef) : (s.setDrive n f).imm g = s.imm g := rfl
@[simp] theorem State.setDrive_on (g : FieldRef) : (s.setDrive n f).on g = s.on g := rfl
@[simp] theorem State.setDrive_immInt (g : FieldRef) : (s.setDrive n f).immInt g = s.immInt g := rfl
@[simp] theorem State.setDrive_liveReg (b : Nat) : (s.setDrive n f).liveReg b = s.liveReg b := rfl
@[simp] theorem State.setDrive_liv (g : FieldRef) : (s.setDrive n f).liv g = s.liv g := rfl
@[simp] theorem State.setDrive_livOn (g : FieldRef) : (s.setDrive n f).livOn g = s.livOn g := rfl
@[simp] theorem State.setDrive_livInt (g : FieldRef) : (s.setDrive n f).livInt g = s.livInt g := rfl
@[simp] theorem State.setDrive_queueType (m : Nat) : (s.setDrive n f).queueType m = s.queueType m := rfl
@[simp] theorem State.setDrive_queueSize (m : Nat) : (s.setDrive n f).queueSize m = s.queueSize m := rfl
@[simp] theorem State.setDrive_queueOn (m : Nat) : (s.setDrive n f).queueOn m = s.queueOn m := rfl
@[simp] theorem State.setDrive_mode : (s.setDrive n f).mode = s.mode := rfl
@[simp] theorem State.setDrive_up : (s.setDrive n f).up = s.up := rfl
end

section
variable (s : State) (n : Nat) (f : Loop → Loop)
@[simp] theorem State.setLoop_reg (b : Nat) : (s.setLoop n f).reg b = s.reg b := rfl
@[simp] theorem State.setLoop_imm (g : FieldRef) : (s.setLoop n f).imm g = s.imm g := rfl
@[simp] theorem State.setLoop_on (g : FieldRef) : (s.setLoop n f).on g = s.on g := rfl
@[simp] theorem State.setLoop_immInt (g : FieldRef) : (s.setLoop n f).immInt g = s.immInt g := rfl
@[simp] theorem State.setLoop_liveReg (b : Nat) : (s.setLoop n f).liveReg b = s.liveReg b := rfl
@[simp] theorem State.setLoop_liv (g : FieldRef) : (s.setLoop n f).liv g = s.liv g := rfl
@[simp] theorem State.setLoop_livOn (g : FieldRef) : (s.setLoop n f).livOn g = s.livOn g := rfl
@[simp] theorem State.setLoop_livInt (g : FieldRef) : (s.setLoop n f).livInt g = s.livInt g := rfl
@[simp] theorem State.setLoop_queueType (m : Nat) : (s.setLoop n f).queueType m = s.queueType m := rfl
@[simp] theorem State.setLoop_queueSize (m : Nat) : (s.setLoop n f).queueSize m = s.queueSize m := rfl
@[simp] theorem State.setLoop_queueOn (m : Nat) : (s.setLoop n f).queueOn m = s.queueOn m := rfl
@[simp] theorem State.setLoop_mode : (s.setLoop n f).mode = s.mode := rfl
@[simp] theorem State.setLoop_up : (s.setLoop n f).up = s.up := rfl
end

section
variable (s : State) (n : Nat) (f : Axis → Axis)
@[simp] theorem State.setAxis_reg (b : Nat) : (s.setAxis n f).reg b = s.reg b := rfl
@[simp] theorem State.setAxis_imm (g : FieldRef) : (s.setAxis n f).imm g = s.imm g := rfl
@[simp] theorem State.setAxis_on (g : FieldRef) : (s.setAxis n f).on g = s.on g := rfl
@[simp] theorem State.setAxis_immInt (g : FieldRef) : (s.setAxis n f).immInt g = s.immInt g := rfl
@[simp] theorem State.setAxis_liveReg (b : Nat) : (s.setAxis n f).liveReg b = s.liveReg b := rfl
@[simp] theorem State.setAxis_liv (g : FieldRef) : (s.setAxis n f).liv g = s.liv g := rfl
@[simp] theorem State.setAxis_livOn (g : FieldRef) : (s.setAxis n f).livOn g = s.livOn g := rfl
@[simp] theorem State.setAxis_livInt (g : FieldRef) : (s.setAxis n f).livInt g = s.livInt g := rfl
@[simp] theorem State.setAxis_queueType (m : Nat) : (s.setAxis n f).queueType m = s.queueType m := rfl
@[simp] theorem State.setAxis_queueSize (m : Nat) : (s.setAxis n f).queueSize m = s.queueSize m := rfl
@[simp] theorem State.setAxis_queueOn (m : Nat) : (s.setAxis n f).queueOn m = s.queueOn m := rfl
@[simp] theorem State.setAxis_mode : (s.setAxis n f).mode = s.mode := rfl
@[simp] theorem State.setAxis_up : (s.setAxis n f).up = s.up := rfl
end

section
variable (s : State) (n : Nat) (f : Group → Group)
@[simp] theorem State.setGroup_reg (b : Nat) : (s.setGroup n f).reg b = s.reg b := rfl
@[simp] theorem State.setGroup_imm (g : FieldRef) : (s.setGroup n f).imm g = s.imm g := rfl
@[simp] theorem State.setGroup_on (g : FieldRef) : (s.setGroup n f).on g = s.on g := rfl
@[simp] theorem State.setGroup_immInt (g : FieldRef) : (s.setGroup n f).immInt g = s.immInt g := rfl
@[simp] theorem State.setGroup_liveReg (b : Nat) : (s.setGroup n f).liveReg b = s.liveReg b := rfl
@[simp] theorem State.setGroup_liv (g : FieldRef) : (s.setGroup n f).liv g = s.liv g := rfl
@[simp] theorem State.setGroup_livOn (g : FieldRef) : (s.setGroup n f).livOn g = s.livOn g := rfl
@[simp] theorem State.setGroup_livInt (g : FieldRef) : (s.setGroup n f).livInt g = s.livInt g := rfl
@[simp] theorem State.setGroup_queueType (m : Nat) : (s.setGroup n f).queueType m = s.queueType m := rfl
@[simp] theorem State.setGroup_queueSize (m : Nat) : (s.setGroup n f).queueSize m = s.queueSize m := rfl
@[simp] theorem State.setGroup_queueOn (m : Nat) : (s.setGroup n f).queueOn m = s.queueOn m := rfl
@[simp] theorem State.setGroup_mode : (s.setGroup n f).mode = s.mode := rfl
@[simp] theorem State.setGroup_up : (s.setGroup n f).up = s.up := rfl
end

section
variable (s : State) (n : Nat) (f : Encoder → Encoder)
@[simp] theorem State.setEncoder_reg (b : Nat) : (s.setEncoder n f).reg b = s.reg b := rfl
@[simp] theorem State.setEncoder_imm (g : FieldRef) : (s.setEncoder n f).imm g = s.imm g := rfl
@[simp] theorem State.setEncoder_on (g : FieldRef) : (s.setEncoder n f).on g = s.on g := rfl
@[simp] theorem State.setEncoder_immInt (g : FieldRef) : (s.setEncoder n f).immInt g = s.immInt g := rfl
@[simp] theorem State.setEncoder_liveReg (b : Nat) : (s.setEncoder n f).liveReg b = s.liveReg b := rfl
@[simp] theorem State.setEncoder_liv (g : FieldRef) : (s.setEncoder n f).liv g = s.liv g := rfl
@[simp] theorem State.setEncoder_livOn (g : FieldRef) : (s.setEncoder n f).livOn g = s.livOn g := rfl
@[simp] theorem State.setEncoder_livInt (g : FieldRef) : (s.setEncoder n f).livInt g = s.livInt g := rfl
@[simp] theorem State.setEncoder_queueType (m : Nat) : (s.setEncoder n f).queueType m = s.queueType m := rfl
@[simp] theorem State.setEncoder_queueSize (m : Nat) : (s.setEncoder n f).queueSize m = s.queueSize m := rfl
@[simp] theorem State.setEncoder_queueOn (m : Nat) : (s.setEncoder n f).queueOn m = s.queueOn m := rfl
@[simp] theorem State.setEncoder_mode : (s.setEncoder n f).mode = s.mode := rfl
@[simp] theorem State.setEncoder_up : (s.setEncoder n f).up = s.up := rfl
end

section
variable (s : State) (n : Nat) (f : Hv → Hv)
@[simp] theorem State.setHv_reg (b : Nat) : (s.setHv n f).reg b = s.reg b := rfl
@[simp] theorem State.setHv_imm (g : FieldRef) : (s.setHv n f).imm g = s.imm g := rfl
@[simp] theorem State.setHv_on (g : FieldRef) : (s.setHv n f).on g = s.on g := rfl
@[simp] theorem State.setHv_immInt (g : FieldRef) : (s.setHv n f).immInt g = s.immInt g := rfl
@[simp] theorem State.setHv_liveReg (b : Nat) : (s.setHv n f).liveReg b = s.liveReg b := rfl
@[simp] theorem State.setHv_liv (g : FieldRef) : (s.setHv n f).liv g = s.liv g := rfl
@[simp] theorem State.setHv_livOn (g : FieldRef) : (s.setHv n f).livOn g = s.livOn g := rfl
@[simp] theorem State.setHv_livInt (g : FieldRef) : (s.setHv n f).livInt g = s.livInt g := rfl
@[simp] theorem State.setHv_queueType (m : Nat) : (s.setHv n f).queueType m = s.queueType m := rfl
@[simp] theorem State.setHv_queueSize (m : Nat) : (s.setHv n f).queueSize m = s.queueSize m := rfl
@[simp] theorem State.setHv_queueOn (m : Nat) : (s.setHv n f).queueOn m = s.queueOn m := rfl
@[simp] theorem State.setHv_mode : (s.setHv n f).mode = s.mode := rfl
@[simp] theorem State.setHv_up : (s.setHv n f).up = s.up := rfl
end

section
variable (s : State) (n : Nat) (f : Zone → Zone)
@[simp] theorem State.setZone_reg (b : Nat) : (s.setZone n f).reg b = s.reg b := rfl
@[simp] theorem State.setZone_imm (g : FieldRef) : (s.setZone n f).imm g = s.imm g := rfl
@[simp] theorem State.setZone_on (g : FieldRef) : (s.setZone n f).on g = s.on g := rfl
@[simp] theorem State.setZone_immInt (g : FieldRef) : (s.setZone n f).immInt g = s.immInt g := rfl
@[simp] theorem State.setZone_liveReg (b : Nat) : (s.setZone n f).liveReg b = s.liveReg b := rfl
@[simp] theorem State.setZone_liv (g : FieldRef) : (s.setZone n f).liv g = s.liv g := rfl
@[simp] theorem State.setZone_livOn (g : FieldRef) : (s.setZone n f).livOn g = s.livOn g := rfl
@[simp] theorem State.setZone_livInt (g : FieldRef) : (s.setZone n f).livInt g = s.livInt g := rfl
@[simp] theorem State.setZone_queueType (m : Nat) : (s.setZone n f).queueType m = s.queueType m := rfl
@[simp] theorem State.setZone_queueSize (m : Nat) : (s.setZone n f).queueSize m = s.queueSize m := rfl
@[simp] theorem State.setZone_queueOn (m : Nat) : (s.setZone n f).queueOn m = s.queueOn m := rfl
@[simp] theorem State.setZone_mode : (s.setZone n f).mode = s.mode := rfl
@[simp] theorem State.setZone_up : (s.setZone n f).up = s.up := rfl
end

section
variable (s : State) (n : Nat) (f : Therm → Therm)
@[simp] theorem State.setTherm_reg (b : Nat) : (s.setTherm n f).reg b = s.reg b := rfl
@[simp] theorem State.setTherm_imm (g : FieldRef) : (s.setTherm n f).imm g = s.imm g := rfl
@[simp] theorem State.setTherm_on (g : FieldRef) : (s.setTherm n f).on g = s.on g := rfl
@[simp] theorem State.setTherm_immInt (g : FieldRef) : (s.setTherm n f).immInt g = s.immInt g := rfl
@[simp] theorem State.setTherm_liveReg (b : Nat) : (s.setTherm n f).liveReg b = s.liveReg b := rfl
@[simp] theorem State.setTherm_liv (g : FieldRef) : (s.setTherm n f).liv g = s.liv g := rfl
@[simp] theorem State.setTherm_livOn (g : FieldRef) : (s.setTherm n f).livOn g = s.livOn g := rfl
@[simp] theorem State.setTherm_livInt (g : FieldRef) : (s.setTherm n f).livInt g = s.livInt g := rfl
@[simp] theorem State.setTherm_queueType (m : Nat) : (s.setTherm n f).queueType m = s.queueType m := rfl
@[simp] theorem State.setTherm_queueSize (m : Nat) : (s.setTherm n f).queueSize m = s.queueSize m := rfl
@[simp] theorem State.setTherm_queueOn (m : Nat) : (s.setTherm n f).queueOn m = s.queueOn m := rfl
@[simp] theorem State.setTherm_mode : (s.setTherm n f).mode = s.mode := rfl
@[simp] theorem State.setTherm_up : (s.setTherm n f).up = s.up := rfl
end

section
variable (s : State) (n : Nat) (f : Channel → Channel)
@[simp] theorem State.setChannel_reg (b : Nat) : (s.setChannel n f).reg b = s.reg b := rfl
@[simp] theorem State.setChannel_imm (g : FieldRef) : (s.setChannel n f).imm g = s.imm g := rfl
@[simp] theorem State.setChannel_on (g : FieldRef) : (s.setChannel n f).on g = s.on g := rfl
@[simp] theorem State.setChannel_immInt (g : FieldRef) : (s.setChannel n f).immInt g = s.immInt g := rfl
@[simp] theorem State.setChannel_liveReg (b : Nat) : (s.setChannel n f).liveReg b = s.liveReg b := rfl
@[simp] theorem State.setChannel_liv (g : FieldRef) : (s.setChannel n f).liv g = s.liv g := rfl
@[simp] theorem State.setChannel_livOn (g : FieldRef) : (s.setChannel n f).livOn g = s.livOn g := rfl
@[simp] theorem State.setChannel_livInt (g : FieldRef) : (s.setChannel n f).livInt g = s.livInt g := rfl
@[simp] theorem State.setChannel_queueType (m : Nat) : (s.setChannel n f).queueType m = s.queueType m := rfl
@[simp] theorem State.setChannel_queueSize (m : Nat) : (s.setChannel n f).queueSize m = s.queueSize m := rfl
@[simp] theorem State.setChannel_queueOn (m : Nat) : (s.setChannel n f).queueOn m = s.queueOn m := rfl
@[simp] theorem State.setChannel_mode : (s.setChannel n f).mode = s.mode := rfl
@[simp] theorem State.setChannel_up : (s.setChannel n f).up = s.up := rfl
end

section
variable (s : State) (n : Nat) (f : Engine → Engine)
@[simp] theorem State.setEngine_reg (b : Nat) : (s.setEngine n f).reg b = s.reg b := rfl
@[simp] theorem State.setEngine_imm (g : FieldRef) : (s.setEngine n f).imm g = s.imm g := rfl
@[simp] theorem State.setEngine_on (g : FieldRef) : (s.setEngine n f).on g = s.on g := rfl
@[simp] theorem State.setEngine_immInt (g : FieldRef) : (s.setEngine n f).immInt g = s.immInt g := rfl
@[simp] theorem State.setEngine_liveReg (b : Nat) : (s.setEngine n f).liveReg b = s.liveReg b := rfl
@[simp] theorem State.setEngine_liv (g : FieldRef) : (s.setEngine n f).liv g = s.liv g := rfl
@[simp] theorem State.setEngine_livOn (g : FieldRef) : (s.setEngine n f).livOn g = s.livOn g := rfl
@[simp] theorem State.setEngine_livInt (g : FieldRef) : (s.setEngine n f).livInt g = s.livInt g := rfl
@[simp] theorem State.setEngine_queueType (m : Nat) : (s.setEngine n f).queueType m = s.queueType m := rfl
@[simp] theorem State.setEngine_queueSize (m : Nat) : (s.setEngine n f).queueSize m = s.queueSize m := rfl
@[simp] theorem State.setEngine_queueOn (m : Nat) : (s.setEngine n f).queueOn m = s.queueOn m := rfl
@[simp] theorem State.setEngine_mode : (s.setEngine n f).mode = s.mode := rfl
@[simp] theorem State.setEngine_up : (s.setEngine n f).up = s.up := rfl
end

section
variable (s : State) (n : Nat) (f : Bank → Bank)
@[simp] theorem State.setBank_reg (b : Nat) : (s.setBank n f).reg b = s.reg b := rfl
@[simp] theorem State.setBank_imm (g : FieldRef) : (s.setBank n f).imm g = s.imm g := rfl
@[simp] theorem State.setBank_on (g : FieldRef) : (s.setBank n f).on g = s.on g := rfl
@[simp] theorem State.setBank_immInt (g : FieldRef) : (s.setBank n f).immInt g = s.immInt g := rfl
@[simp] theorem State.setBank_liveReg (b : Nat) : (s.setBank n f).liveReg b = s.liveReg b := rfl
@[simp] theorem State.setBank_liv (g : FieldRef) : (s.setBank n f).liv g = s.liv g := rfl
@[simp] theorem State.setBank_livOn (g : FieldRef) : (s.setBank n f).livOn g = s.livOn g := rfl
@[simp] theorem State.setBank_livInt (g : FieldRef) : (s.setBank n f).livInt g = s.livInt g := rfl
@[simp] theorem State.setBank_queueType (m : Nat) : (s.setBank n f).queueType m = s.queueType m := rfl
@[simp] theorem State.setBank_queueSize (m : Nat) : (s.setBank n f).queueSize m = s.queueSize m := rfl
@[simp] theorem State.setBank_queueOn (m : Nat) : (s.setBank n f).queueOn m = s.queueOn m := rfl
@[simp] theorem State.setBank_mode : (s.setBank n f).mode = s.mode := rfl
@[simp] theorem State.setBank_up : (s.setBank n f).up = s.up := rfl
end

section
variable (s : State) (n : Nat) (f : AfeChannel → AfeChannel)
@[simp] theorem State.setAfeChan_reg (b : Nat) : (s.setAfeChan n f).reg b = s.reg b := rfl
@[simp] theorem State.setAfeChan_imm (g : FieldRef) : (s.setAfeChan n f).imm g = s.imm g := rfl
@[simp] theorem State.setAfeChan_on (g : FieldRef) : (s.setAfeChan n f).on g = s.on g := rfl
@[simp] theorem State.setAfeChan_immInt (g : FieldRef) : (s.setAfeChan n f).immInt g = s.immInt g := rfl
@[simp] theorem State.setAfeChan_liveReg (b : Nat) : (s.setAfeChan n f).liveReg b = s.liveReg b := rfl
@[simp] theorem State.setAfeChan_liv (g : FieldRef) : (s.setAfeChan n f).liv g = s.liv g := rfl
@[simp] theorem State.setAfeChan_livOn (g : FieldRef) : (s.setAfeChan n f).livOn g = s.livOn g := rfl
@[simp] theorem State.setAfeChan_livInt (g : FieldRef) : (s.setAfeChan n f).livInt g = s.livInt g := rfl
@[simp] theorem State.setAfeChan_queueType (m : Nat) : (s.setAfeChan n f).queueType m = s.queueType m := rfl
@[simp] theorem State.setAfeChan_queueSize (m : Nat) : (s.setAfeChan n f).queueSize m = s.queueSize m := rfl
@[simp] theorem State.setAfeChan_queueOn (m : Nat) : (s.setAfeChan n f).queueOn m = s.queueOn m := rfl
@[simp] theorem State.setAfeChan_mode : (s.setAfeChan n f).mode = s.mode := rfl
@[simp] theorem State.setAfeChan_up : (s.setAfeChan n f).up = s.up := rfl
end

section
variable (s : State) (n : Nat) (f : Sheet → Sheet)
@[simp] theorem State.setSheet_reg (b : Nat) : (s.setSheet n f).reg b = s.reg b := rfl
@[simp] theorem State.setSheet_imm (g : FieldRef) : (s.setSheet n f).imm g = s.imm g := rfl
@[simp] theorem State.setSheet_on (g : FieldRef) : (s.setSheet n f).on g = s.on g := rfl
@[simp] theorem State.setSheet_immInt (g : FieldRef) : (s.setSheet n f).immInt g = s.immInt g := rfl
@[simp] theorem State.setSheet_liveReg (b : Nat) : (s.setSheet n f).liveReg b = s.liveReg b := rfl
@[simp] theorem State.setSheet_liv (g : FieldRef) : (s.setSheet n f).liv g = s.liv g := rfl
@[simp] theorem State.setSheet_livOn (g : FieldRef) : (s.setSheet n f).livOn g = s.livOn g := rfl
@[simp] theorem State.setSheet_livInt (g : FieldRef) : (s.setSheet n f).livInt g = s.livInt g := rfl
@[simp] theorem State.setSheet_queueType (m : Nat) : (s.setSheet n f).queueType m = s.queueType m := rfl
@[simp] theorem State.setSheet_queueSize (m : Nat) : (s.setSheet n f).queueSize m = s.queueSize m := rfl
@[simp] theorem State.setSheet_queueOn (m : Nat) : (s.setSheet n f).queueOn m = s.queueOn m := rfl
@[simp] theorem State.setSheet_mode : (s.setSheet n f).mode = s.mode := rfl
@[simp] theorem State.setSheet_up : (s.setSheet n f).up = s.up := rfl
end

theorem getD_modify {α : Type} (f : α → α) (d : α) : ∀ (l : List α) (i j : Nat),
    (l.modify i f).getD j d = if i = j ∧ j < l.length then f (l.getD j d) else l.getD j d
  | [], i, j => by cases i <;> simp
  | a :: l, 0, 0 => by simp
  | a :: l, 0, j + 1 => by simp
  | a :: l, i + 1, 0 => by simp
  | a :: l, i + 1, j + 1 => by
    have h := getD_modify f d l i j
    simp only [List.modify_succ_cons, List.getD_cons_succ, List.length_cons, Nat.add_right_cancel_iff, Nat.add_lt_add_iff_right] at *
    exact h

theorem State.setQueue_queue (s : State) (n : Nat) (f : Queue → Queue) (m : Nat) :
    (s.setQueue n f).queue m = if n = m ∧ m < s.queues.length then f (s.queue m) else s.queue m := getD_modify f _ _ _ _

@[simp] theorem State.setQueue_queue_ne (s : State) {n m : Nat} (f : Queue → Queue) (h : n ≠ m) : (s.setQueue n f).queue m = s.queue m := by
  rw [State.setQueue_queue, if_neg fun c => h c.1]

theorem State.setStation_station (s : State) (n : Nat) (f : Station → Station) (m : Nat) :
    (s.setStation n f).station m = if n = m ∧ m < s.stations.length then f (s.station m) else s.station m := getD_modify f _ _ _ _

@[simp] theorem State.setStation_station_ne (s : State) {n m : Nat} (f : Station → Station) (h : n ≠ m) : (s.setStation n f).station m = s.station m := by
  rw [State.setStation_station, if_neg fun c => h c.1]

theorem State.setDrive_drive (s : State) (n : Nat) (f : Drive → Drive) (m : Nat) :
    (s.setDrive n f).drive m = if n = m ∧ m < s.drives.length then f (s.drive m) else s.drive m := getD_modify f _ _ _ _

@[simp] theorem State.setDrive_drive_ne (s : State) {n m : Nat} (f : Drive → Drive) (h : n ≠ m) : (s.setDrive n f).drive m = s.drive m := by
  rw [State.setDrive_drive, if_neg fun c => h c.1]

theorem State.setLoop_loop (s : State) (n : Nat) (f : Loop → Loop) (m : Nat) :
    (s.setLoop n f).loop m = if n = m ∧ m < s.loops.length then f (s.loop m) else s.loop m := getD_modify f _ _ _ _

@[simp] theorem State.setLoop_loop_ne (s : State) {n m : Nat} (f : Loop → Loop) (h : n ≠ m) : (s.setLoop n f).loop m = s.loop m := by
  rw [State.setLoop_loop, if_neg fun c => h c.1]

theorem State.setAxis_axis (s : State) (n : Nat) (f : Axis → Axis) (m : Nat) :
    (s.setAxis n f).axis m = if n = m ∧ m < s.axes.length then f (s.axis m) else s.axis m := getD_modify f _ _ _ _

@[simp] theorem State.setAxis_axis_ne (s : State) {n m : Nat} (f : Axis → Axis) (h : n ≠ m) : (s.setAxis n f).axis m = s.axis m := by
  rw [State.setAxis_axis, if_neg fun c => h c.1]

theorem State.setGroup_group (s : State) (n : Nat) (f : Group → Group) (m : Nat) :
    (s.setGroup n f).group m = if n = m ∧ m < s.groups.length then f (s.group m) else s.group m := getD_modify f _ _ _ _

@[simp] theorem State.setGroup_group_ne (s : State) {n m : Nat} (f : Group → Group) (h : n ≠ m) : (s.setGroup n f).group m = s.group m := by
  rw [State.setGroup_group, if_neg fun c => h c.1]

theorem State.setEncoder_encoder (s : State) (n : Nat) (f : Encoder → Encoder) (m : Nat) :
    (s.setEncoder n f).encoder m = if n = m ∧ m < s.encoders.length then f (s.encoder m) else s.encoder m := getD_modify f _ _ _ _

@[simp] theorem State.setEncoder_encoder_ne (s : State) {n m : Nat} (f : Encoder → Encoder) (h : n ≠ m) : (s.setEncoder n f).encoder m = s.encoder m := by
  rw [State.setEncoder_encoder, if_neg fun c => h c.1]

theorem State.setHv_hvCh (s : State) (n : Nat) (f : Hv → Hv) (m : Nat) :
    (s.setHv n f).hvCh m = if n = m ∧ m < s.hv.length then f (s.hvCh m) else s.hvCh m := getD_modify f _ _ _ _

@[simp] theorem State.setHv_hvCh_ne (s : State) {n m : Nat} (f : Hv → Hv) (h : n ≠ m) : (s.setHv n f).hvCh m = s.hvCh m := by
  rw [State.setHv_hvCh, if_neg fun c => h c.1]

theorem State.setZone_zone (s : State) (n : Nat) (f : Zone → Zone) (m : Nat) :
    (s.setZone n f).zone m = if n = m ∧ m < s.zones.length then f (s.zone m) else s.zone m := getD_modify f _ _ _ _

@[simp] theorem State.setZone_zone_ne (s : State) {n m : Nat} (f : Zone → Zone) (h : n ≠ m) : (s.setZone n f).zone m = s.zone m := by
  rw [State.setZone_zone, if_neg fun c => h c.1]

theorem State.setTherm_therm (s : State) (n : Nat) (f : Therm → Therm) (m : Nat) :
    (s.setTherm n f).therm m = if n = m ∧ m < s.therms.length then f (s.therm m) else s.therm m := getD_modify f _ _ _ _

@[simp] theorem State.setTherm_therm_ne (s : State) {n m : Nat} (f : Therm → Therm) (h : n ≠ m) : (s.setTherm n f).therm m = s.therm m := by
  rw [State.setTherm_therm, if_neg fun c => h c.1]

theorem State.setChannel_channel (s : State) (n : Nat) (f : Channel → Channel) (m : Nat) :
    (s.setChannel n f).channel m = if n = m ∧ m < s.dma.channels.length then f (s.channel m) else s.channel m := getD_modify f _ _ _ _

theorem State.setEngine_engine (s : State) (n : Nat) (f : Engine → Engine) (m : Nat) :
    (s.setEngine n f).engine m = if n = m ∧ m < s.feed.engines.length then f (s.engine m) else s.engine m := getD_modify f _ _ _ _

theorem State.setBank_bank (s : State) (n : Nat) (f : Bank → Bank) (m : Nat) :
    (s.setBank n f).bank m = if n = m ∧ m < s.afe.banks.length then f (s.bank m) else s.bank m := getD_modify f _ _ _ _

theorem State.setAfeChan_afeChan (s : State) (n : Nat) (f : AfeChannel → AfeChannel) (m : Nat) :
    (s.setAfeChan n f).afeChan m = if n = m ∧ m < s.afe.channels.length then f (s.afeChan m) else s.afeChan m := getD_modify f _ _ _ _

@[simp] theorem reset_pending : State.reset.pending = [] := rfl

end Sys2Proof.Machine
end

