-- ==== Sys2Proof/Laws/Posting.lean ====
section
/-! SUPPORT. What posting an entry leaves alone: completions, events, audit copies and the messages of a pair write the masked
parts of State.unposted and nothing else. -/

set_option Elab.async false -- one thread for the whole file: a thread per theorem runs out of address space

namespace Sys2Proof.Machine

theorem map_modify_same {α β : Type} (g : α → β) (f : α → α) (h : ∀ a, g (f a) = g a) :
    ∀ (l : List α) (i : Nat), (l.modify i f).map g = l.map g
  | [], i => by cases i <;> rfl
  | a :: l, 0 => by simp [h]
  | a :: l, i + 1 => by simp [map_modify_same g f h l i]

theorem State.unposted_setQueue (s : State) (q : Nat) (f : Queue → Queue) (h : ∀ Q, (f Q).unposted = Q.unposted) :
    (s.setQueue q f).unposted = s.unposted := by
  simp [State.setQueue, State.unposted, map_modify_same _ _ h]

@[simp] theorem State.unposted_out (s : State) (o : Output) : (s.out o).unposted = s.unposted := rfl

@[simp] theorem State.unposted_mirror (s : State) (m : MirrorOut) : (s.mirror m).unposted = s.unposted := rfl

@[simp] theorem State.unposted_sendMirror (s : State) (m : MirrorOut) : (s.sendMirror m).unposted = s.unposted := rfl

@[simp] theorem State.unposted_mirrorOn (s : State) (m : MirrorOut) : (s.mirrorOn m).unposted = s.unposted := by
  unfold State.mirrorOn; split <;> simp

@[simp] theorem State.unposted_signal (s : State) (q : Nat) : (s.signal q).unposted = s.unposted := by
  unfold State.signal
  dsimp only
  split
  · split
    · rw [State.unposted_out]; exact State.unposted_setQueue _ _ _ fun _ => rfl
    · exact State.unposted_setQueue _ _ _ fun _ => rfl
  · rfl

@[simp] theorem State.unposted_freeTag (s : State) (c : Completion) : (s.freeTag c).unposted = s.unposted := by
  unfold State.freeTag; split <;> rfl

@[simp] theorem State.unposted_freeOrphan (s : State) (e : Event) : (s.freeOrphan e).unposted = s.unposted := by
  unfold State.freeOrphan; split <;> simp

@[simp] theorem State.unposted_written (s : State) (e : Entry) : (s.written e).2.unposted = s.unposted := by
  cases e <;> simp [State.written]

@[simp] theorem State.unposted_writeRing (s : State) (q : Nat) (e : Entry) : (s.writeRing q e).unposted = s.unposted := by
  have h : ∀ (u : State) (n : Nat), (u.setQueue q fun Q => { Q with tail := n }).unposted = u.unposted :=
    fun u n => State.unposted_setQueue u q _ fun _ => rfl
  unfold State.writeRing
  dsimp only
  split <;> simp [h]

@[simp] theorem State.unposted_hold (s : State) (h : Holding) : ({ s with hold := h } : State).unposted = s.unposted := rfl

@[simp] theorem State.unposted_eventSeq (s : State) (n : Nat) : ({ s with eventSeq := n } : State).unposted = s.unposted := rfl

theorem drain_unposted (q : Nat) : ∀ (es : List Entry) (s : State), (drain q es s).1.unposted = s.unposted
  | [], _ => rfl
  | e :: es, s => by
    unfold drain
    split
    · rw [drain_unposted q es]; simp
    · rfl

@[simp] theorem State.unposted_holdEvent (s : State) (e : Event) : (s.holdEvent e).unposted = s.unposted := by
  unfold State.holdEvent; split <;> simp

@[simp] theorem State.unposted_mgmtItems (s : State) (l : List Entry) :
    ({ s with mgmt := { s.mgmt with items := l } } : State).unposted = s.unposted := rfl

@[simp] theorem State.unposted_place (s : State) (e : Entry) (host mgmt : Bool) : (s.place e host mgmt).unposted = s.unposted := by
  unfold State.place
  cases e <;> simp only
  · split
    · rfl
    · split <;> simp
  · split <;> split <;> simp
  · simp
  · simp
  · split <;> simp

@[simp] theorem State.unposted_await (s : State) (m : Nat) (e : Entry) (host mgmt : Bool) :
    (s.await m e host mgmt).unposted = s.unposted := rfl

@[simp] theorem State.unposted_decide (s : State) (e : Entry) (host mgmt : Bool) : (s.decide e host mgmt).unposted = s.unposted := by
  unfold State.decide
  split
  · simp
  · split <;> simp

@[simp] theorem State.unposted_unheard (s : State) (e : Event) : (s.unheard e).unposted = s.unposted := by simp [State.unheard]

@[simp] theorem State.unposted_raiseHeld (s : State) (i inst slot : Nat) (data : List Byte) :
    (s.raiseHeld i inst slot data).unposted = s.unposted := by
  unfold State.raiseHeld
  dsimp only
  split
  · simp
  · split <;> simp

@[simp] theorem State.unposted_foundFull (s : State) (q : Nat) : (s.foundFull q).unposted = s.unposted := by
  unfold State.foundFull
  split
  · rfl
  · rw [State.unposted_raiseHeld]; exact State.unposted_setQueue _ _ _ fun _ => rfl

@[simp] theorem State.unposted_checkFull (s : State) (q : Nat) (l : List Entry) : (s.checkFull q l).unposted = s.unposted := by
  unfold State.checkFull; split <;> simp

@[simp] theorem State.unposted_flushEvents (s : State) : s.flushEvents.unposted = s.unposted := by
  unfold State.flushEvents
  split
  · rfl
  · rename_i q _
    have h := drain_unposted q (s.hold.events.map .event) s
    revert h
    generalize drain q (s.hold.events.map .event) s = d
    intro h
    simp only [State.unposted_checkFull]
    split <;> simp [h]

@[simp] theorem unposted_flushCompletions : ∀ (cs : List Completion) (s : State),
    (flushCompletions cs s).unposted = s.unposted
  | [], _ => rfl
  | c :: cs, s => by
    unfold flushCompletions
    split
    · rw [unposted_flushCompletions cs]; simp
    · split <;> (rw [unposted_flushCompletions cs]; simp)

@[simp] theorem unposted_flushRequests : ∀ (ds : List DataRequest) (s : State), (flushRequests ds s).unposted = s.unposted
  | [], _ => rfl
  | d :: ds, s => by
    unfold flushRequests
    split
    · rw [unposted_flushRequests ds]; rfl
    · split <;> (rw [unposted_flushRequests ds]; simp)

@[simp] theorem unposted_flushRecords (s : State) : (flushRecords s).unposted = s.unposted := by
  unfold flushRecords
  split
  · rfl
  · rename_i q _
    have h := drain_unposted q (s.hold.records.map Entry.record) s
    revert h
    generalize drain q (s.hold.records.map Entry.record) s = d
    intro h
    simp [h]

@[simp] theorem unposted_flushAudits (s : State) : (flushAudits s).unposted = s.unposted := by
  unfold flushAudits
  split
  · rfl
  · rename_i q _
    have h := drain_unposted q (s.hold.audits.map Entry.audit) s
    revert h
    generalize drain q (s.hold.audits.map Entry.audit) s = d
    intro h
    simp [h]

@[simp] theorem unposted_finishCancels : ∀ (xs : List (Nat × Nat × Cmd)) (s : State), (finishCancels xs s).unposted = s.unposted
  | [], _ => rfl
  | x :: xs, s => by unfold finishCancels; rw [unposted_finishCancels xs]; simp

@[simp] theorem unposted_flushCancels (s : State) : (flushCancels s).unposted = s.unposted := by simp [flushCancels]

@[simp] theorem State.unposted_flush (s : State) : s.flush.unposted = s.unposted := by
  unfold State.flush State.flushEvents2
  split <;> simp

@[simp] theorem State.unposted_enqueue (s : State) (e : Entry) (host mgmt : Bool) :
    (s.enqueue e host mgmt).unposted = s.unposted := by simp [State.enqueue]

@[simp] theorem State.unposted_keep (s : State) (e : Entry) : (s.keep e).unposted = s.unposted := rfl

@[simp] theorem State.unposted_deliver (s : State) (e : Entry) (host mgmt : Bool) :
    (s.deliver e host mgmt).unposted = s.unposted := by
  unfold State.deliver
  repeat' split
  all_goals simp

/-- Raising an event writes only what posting writes. -/
@[simp] theorem State.unposted_raiseAt (s : State) (i inst slot : Nat) (data : List Byte) (time : Nat) :
    (s.raiseAt i inst slot data time).unposted = s.unposted := by
  unfold State.raiseAt
  dsimp only
  split
  · rfl
  · split <;> simp

@[simp] theorem State.unposted_raise (s : State) (i inst slot : Nat) (data : List Byte) :
    (s.raise i inst slot data).unposted = s.unposted := by simp [State.raise]

/-- Completing a command writes only what posting writes. -/
@[simp] theorem unposted_complete (c : Cmd) (status result : Nat) (s : State) :
    (complete c status result s).unposted = s.unposted := by
  unfold complete
  simp only
  split <;> simp

@[simp] theorem unposted_completeAll (st res : Cmd → Nat) : ∀ (cs : List Cmd) (s : State),
    (completeAll st res cs s).unposted = s.unposted
  | [], _ => rfl
  | c :: cs, s => by unfold completeAll; rw [unposted_completeAll st res cs]; simp

/-- Completing accepted commands takes them out of `running` and writes what posting writes. -/
@[simp] theorem unposted_finishWhere (p : Cmd → Bool) (st res : Cmd → Nat) (s : State) :
    (finishWhere p st res s).unposted = (s.drop p).unposted := by unfold finishWhere; simp

@[simp] theorem unposted_finish (q status result : Nat) (s : State) :
    (finish q status result s).unposted = (s.drop fun c => c.seq = q).unposted := by unfold finish; simp

end Sys2Proof.Machine
end

