-- ==== Sys2Proof/Laws/Arbiter.lean ====
section
/-! SUPPORT. The arbiter step of a command packet: when it is accepted and what its meaning runs on, and what taking a packet
leaves alone. -/

set_option Elab.async false -- one thread for the whole file: a thread per theorem runs out of address space

namespace Sys2Proof.Machine

/-- A part of the state that posting does not write is the same in states that differ in what posting writes. -/
theorem State.of_unposted {α : Type} (f : State → α) (hf : ∀ s, f s.unposted = f s) {a b : State}
    (h : a.unposted = b.unposted) : f a = f b := by rw [← hf a, h, hf b]

/-- The same for taking a packet. -/
theorem State.of_unjudged {α : Type} (f : State → α) (hf : ∀ s, f s.unjudged = f s) {a b : State}
    (h : a.unjudged = b.unjudged) : f a = f b := by rw [← hf a, h, hf b]

/-! Fields that posting leaves alone. -/

@[simp] theorem State.raiseAt_pending (s : State) (i inst slot : Nat) (data : List Byte) (time : Nat) :
    (s.raiseAt i inst slot data time).pending = s.pending := State.of_unposted State.pending (fun _ => rfl) (s.unposted_raiseAt i inst slot data time)
@[simp] theorem State.raiseAt_freeCount (s : State) (i inst slot : Nat) (data : List Byte) (time : Nat) :
    (s.raiseAt i inst slot data time).freeCount = s.freeCount := State.of_unposted State.freeCount (fun _ => rfl) (s.unposted_raiseAt i inst slot data time)
@[simp] theorem State.raiseAt_regs (s : State) (i inst slot : Nat) (data : List Byte) (time : Nat) :
    (s.raiseAt i inst slot data time).regs = s.regs := State.of_unposted State.regs (fun _ => rfl) (s.unposted_raiseAt i inst slot data time)
@[simp] theorem State.raiseAt_live (s : State) (i inst slot : Nat) (data : List Byte) (time : Nat) :
    (s.raiseAt i inst slot data time).live = s.live := State.of_unposted State.live (fun _ => rfl) (s.unposted_raiseAt i inst slot data time)
@[simp] theorem State.raiseAt_snaps (s : State) (i inst slot : Nat) (data : List Byte) (time : Nat) :
    (s.raiseAt i inst slot data time).snaps = s.snaps := State.of_unposted State.snaps (fun _ => rfl) (s.unposted_raiseAt i inst slot data time)
@[simp] theorem State.raiseAt_refused (s : State) (i inst slot : Nat) (data : List Byte) (time : Nat) :
    (s.raiseAt i inst slot data time).refused = s.refused := State.of_unposted State.refused (fun _ => rfl) (s.unposted_raiseAt i inst slot data time)
@[simp] theorem State.raiseAt_tumbler (s : State) (i inst slot : Nat) (data : List Byte) (time : Nat) :
    (s.raiseAt i inst slot data time).tumbler = s.tumbler := State.of_unposted State.tumbler (fun _ => rfl) (s.unposted_raiseAt i inst slot data time)
@[simp] theorem State.raiseAt_hostMask (s : State) (i inst slot : Nat) (data : List Byte) (time : Nat) :
    (s.raiseAt i inst slot data time).hostMask = s.hostMask := State.of_unposted State.hostMask (fun _ => rfl) (s.unposted_raiseAt i inst slot data time)
@[simp] theorem State.raiseAt_mgmtMask (s : State) (i inst slot : Nat) (data : List Byte) (time : Nat) :
    (s.raiseAt i inst slot data time).mgmtMask = s.mgmtMask := State.of_unposted State.mgmtMask (fun _ => rfl) (s.unposted_raiseAt i inst slot data time)
@[simp] theorem State.raiseAt_cred (s : State) (i inst slot : Nat) (data : List Byte) (time : Nat) :
    (s.raiseAt i inst slot data time).cred = s.cred := State.of_unposted State.cred (fun _ => rfl) (s.unposted_raiseAt i inst slot data time)
@[simp] theorem State.raiseAt_modes (s : State) (i inst slot : Nat) (data : List Byte) (time : Nat) :
    (s.raiseAt i inst slot data time).modes = s.modes := State.of_unposted State.modes (fun _ => rfl) (s.unposted_raiseAt i inst slot data time)
@[simp] theorem State.raiseAt_resets (s : State) (i inst slot : Nat) (data : List Byte) (time : Nat) :
    (s.raiseAt i inst slot data time).resets = s.resets := State.of_unposted State.resets (fun _ => rfl) (s.unposted_raiseAt i inst slot data time)
@[simp] theorem State.raiseAt_boot (s : State) (i inst slot : Nat) (data : List Byte) (time : Nat) :
    (s.raiseAt i inst slot data time).boot = s.boot := State.of_unposted State.boot (fun _ => rfl) (s.unposted_raiseAt i inst slot data time)
@[simp] theorem State.raiseAt_sheets (s : State) (i inst slot : Nat) (data : List Byte) (time : Nat) :
    (s.raiseAt i inst slot data time).sheets = s.sheets := State.of_unposted State.sheets (fun _ => rfl) (s.unposted_raiseAt i inst slot data time)
@[simp] theorem State.raiseAt_dma (s : State) (i inst slot : Nat) (data : List Byte) (time : Nat) :
    (s.raiseAt i inst slot data time).dma = s.dma := State.of_unposted State.dma (fun _ => rfl) (s.unposted_raiseAt i inst slot data time)
@[simp] theorem State.raiseAt_feed (s : State) (i inst slot : Nat) (data : List Byte) (time : Nat) :
    (s.raiseAt i inst slot data time).feed = s.feed := State.of_unposted State.feed (fun _ => rfl) (s.unposted_raiseAt i inst slot data time)
@[simp] theorem State.raiseAt_stations (s : State) (i inst slot : Nat) (data : List Byte) (time : Nat) :
    (s.raiseAt i inst slot data time).stations = s.stations := State.of_unposted State.stations (fun _ => rfl) (s.unposted_raiseAt i inst slot data time)
@[simp] theorem State.raiseAt_run (s : State) (i inst slot : Nat) (data : List Byte) (time : Nat) :
    (s.raiseAt i inst slot data time).run = s.run := State.of_unposted State.run (fun _ => rfl) (s.unposted_raiseAt i inst slot data time)
@[simp] theorem State.raiseAt_drives (s : State) (i inst slot : Nat) (data : List Byte) (time : Nat) :
    (s.raiseAt i inst slot data time).drives = s.drives := State.of_unposted State.drives (fun _ => rfl) (s.unposted_raiseAt i inst slot data time)
@[simp] theorem State.raiseAt_bus (s : State) (i inst slot : Nat) (data : List Byte) (time : Nat) :
    (s.raiseAt i inst slot data time).bus = s.bus := State.of_unposted State.bus (fun _ => rfl) (s.unposted_raiseAt i inst slot data time)
@[simp] theorem State.raiseAt_loops (s : State) (i inst slot : Nat) (data : List Byte) (time : Nat) :
    (s.raiseAt i inst slot data time).loops = s.loops := State.of_unposted State.loops (fun _ => rfl) (s.unposted_raiseAt i inst slot data time)
@[simp] theorem State.raiseAt_loopWorst (s : State) (i inst slot : Nat) (data : List Byte) (time : Nat) :
    (s.raiseAt i inst slot data time).loopWorst = s.loopWorst := State.of_unposted State.loopWorst (fun _ => rfl) (s.unposted_raiseAt i inst slot data time)
@[simp] theorem State.raiseAt_axes (s : State) (i inst slot : Nat) (data : List Byte) (time : Nat) :
    (s.raiseAt i inst slot data time).axes = s.axes := State.of_unposted State.axes (fun _ => rfl) (s.unposted_raiseAt i inst slot data time)
@[simp] theorem State.raiseAt_groups (s : State) (i inst slot : Nat) (data : List Byte) (time : Nat) :
    (s.raiseAt i inst slot data time).groups = s.groups := State.of_unposted State.groups (fun _ => rfl) (s.unposted_raiseAt i inst slot data time)
@[simp] theorem State.raiseAt_encoders (s : State) (i inst slot : Nat) (data : List Byte) (time : Nat) :
    (s.raiseAt i inst slot data time).encoders = s.encoders := State.of_unposted State.encoders (fun _ => rfl) (s.unposted_raiseAt i inst slot data time)
@[simp] theorem State.raiseAt_path (s : State) (i inst slot : Nat) (data : List Byte) (time : Nat) :
    (s.raiseAt i inst slot data time).path = s.path := State.of_unposted State.path (fun _ => rfl) (s.unposted_raiseAt i inst slot data time)
@[simp] theorem State.raiseAt_hv (s : State) (i inst slot : Nat) (data : List Byte) (time : Nat) :
    (s.raiseAt i inst slot data time).hv = s.hv := State.of_unposted State.hv (fun _ => rfl) (s.unposted_raiseAt i inst slot data time)
@[simp] theorem State.raiseAt_zones (s : State) (i inst slot : Nat) (data : List Byte) (time : Nat) :
    (s.raiseAt i inst slot data time).zones = s.zones := State.of_unposted State.zones (fun _ => rfl) (s.unposted_raiseAt i inst slot data time)
@[simp] theorem State.raiseAt_therms (s : State) (i inst slot : Nat) (data : List Byte) (time : Nat) :
    (s.raiseAt i inst slot data time).therms = s.therms := State.of_unposted State.therms (fun _ => rfl) (s.unposted_raiseAt i inst slot data time)
@[simp] theorem State.raiseAt_safety (s : State) (i inst slot : Nat) (data : List Byte) (time : Nat) :
    (s.raiseAt i inst slot data time).safety = s.safety := State.of_unposted State.safety (fun _ => rfl) (s.unposted_raiseAt i inst slot data time)
@[simp] theorem State.raiseAt_mem (s : State) (i inst slot : Nat) (data : List Byte) (time : Nat) :
    (s.raiseAt i inst slot data time).mem = s.mem := State.of_unposted State.mem (fun _ => rfl) (s.unposted_raiseAt i inst slot data time)
@[simp] theorem State.raiseAt_afe (s : State) (i inst slot : Nat) (data : List Byte) (time : Nat) :
    (s.raiseAt i inst slot data time).afe = s.afe := State.of_unposted State.afe (fun _ => rfl) (s.unposted_raiseAt i inst slot data time)
@[simp] theorem State.raiseAt_supply (s : State) (i inst slot : Nat) (data : List Byte) (time : Nat) :
    (s.raiseAt i inst slot data time).supply = s.supply := State.of_unposted State.supply (fun _ => rfl) (s.unposted_raiseAt i inst slot data time)
@[simp] theorem State.raiseAt_nv (s : State) (i inst slot : Nat) (data : List Byte) (time : Nat) :
    (s.raiseAt i inst slot data time).nv = s.nv := State.of_unposted State.nv (fun _ => rfl) (s.unposted_raiseAt i inst slot data time)
@[simp] theorem State.raiseAt_pins (s : State) (i inst slot : Nat) (data : List Byte) (time : Nat) :
    (s.raiseAt i inst slot data time).pins = s.pins := State.of_unposted State.pins (fun _ => rfl) (s.unposted_raiseAt i inst slot data time)
@[simp] theorem State.raiseAt_captures (s : State) (i inst slot : Nat) (data : List Byte) (time : Nat) :
    (s.raiseAt i inst slot data time).captures = s.captures := State.of_unposted State.captures (fun _ => rfl) (s.unposted_raiseAt i inst slot data time)
@[simp] theorem State.raiseAt_now (s : State) (i inst slot : Nat) (data : List Byte) (time : Nat) :
    (s.raiseAt i inst slot data time).now = s.now := State.of_unposted State.now (fun _ => rfl) (s.unposted_raiseAt i inst slot data time)
@[simp] theorem State.raiseAt_arrived (s : State) (i inst slot : Nat) (data : List Byte) (time : Nat) :
    (s.raiseAt i inst slot data time).arrived = s.arrived := State.of_unposted State.arrived (fun _ => rfl) (s.unposted_raiseAt i inst slot data time)
@[simp] theorem State.raiseAt_running (s : State) (i inst slot : Nat) (data : List Byte) (time : Nat) :
    (s.raiseAt i inst slot data time).running = s.running := State.of_unposted State.running (fun _ => rfl) (s.unposted_raiseAt i inst slot data time)
@[simp] theorem State.raiseAt_arbSeq (s : State) (i inst slot : Nat) (data : List Byte) (time : Nat) :
    (s.raiseAt i inst slot data time).arbSeq = s.arbSeq := State.of_unposted State.arbSeq (fun _ => rfl) (s.unposted_raiseAt i inst slot data time)
@[simp] theorem State.raiseAt_key (s : State) (i inst slot : Nat) (data : List Byte) (time : Nat) :
    (s.raiseAt i inst slot data time).key = s.key := State.of_unposted State.key (fun _ => rfl) (s.unposted_raiseAt i inst slot data time)
@[simp] theorem State.raiseAt_trace (s : State) (i inst slot : Nat) (data : List Byte) (time : Nat) :
    (s.raiseAt i inst slot data time).trace = s.trace := State.of_unposted State.trace (fun _ => rfl) (s.unposted_raiseAt i inst slot data time)
@[simp] theorem State.raiseAt_role (s : State) (i inst slot : Nat) (data : List Byte) (time : Nat) :
    (s.raiseAt i inst slot data time).pair.role = s.pair.role := State.of_unposted (fun t => t.pair.role) (fun _ => rfl) (s.unposted_raiseAt i inst slot data time)
@[simp] theorem State.raise_pending (s : State) (i inst slot : Nat) (data : List Byte) :
    (s.raise i inst slot data).pending = s.pending := State.of_unposted State.pending (fun _ => rfl) (s.unposted_raise i inst slot data)
@[simp] theorem State.raise_freeCount (s : State) (i inst slot : Nat) (data : List Byte) :
    (s.raise i inst slot data).freeCount = s.freeCount := State.of_unposted State.freeCount (fun _ => rfl) (s.unposted_raise i inst slot data)
@[simp] theorem State.raise_regs (s : State) (i inst slot : Nat) (data : List Byte) :
    (s.raise i inst slot data).regs = s.regs := State.of_unposted State.regs (fun _ => rfl) (s.unposted_raise i inst slot data)
@[simp] theorem State.raise_live (s : State) (i inst slot : Nat) (data : List Byte) :
    (s.raise i inst slot data).live = s.live := State.of_unposted State.live (fun _ => rfl) (s.unposted_raise i inst slot data)
@[simp] theorem State.raise_snaps (s : State) (i inst slot : Nat) (data : List Byte) :
    (s.raise i inst slot data).snaps = s.snaps := State.of_unposted State.snaps (fun _ => rfl) (s.unposted_raise i inst slot data)
@[simp] theorem State.raise_refused (s : State) (i inst slot : Nat) (data : List Byte) :
    (s.raise i inst slot data).refused = s.refused := State.of_unposted State.refused (fun _ => rfl) (s.unposted_raise i inst slot data)
@[simp] theorem State.raise_tumbler (s : State) (i inst slot : Nat) (data : List Byte) :
    (s.raise i inst slot data).tumbler = s.tumbler := State.of_unposted State.tumbler (fun _ => rfl) (s.unposted_raise i inst slot data)
@[simp] theorem State.raise_hostMask (s : State) (i inst slot : Nat) (data : List Byte) :
    (s.raise i inst slot data).hostMask = s.hostMask := State.of_unposted State.hostMask (fun _ => rfl) (s.unposted_raise i inst slot data)
@[simp] theorem State.raise_mgmtMask (s : State) (i inst slot : Nat) (data : List Byte) :
    (s.raise i inst slot data).mgmtMask = s.mgmtMask := State.of_unposted State.mgmtMask (fun _ => rfl) (s.unposted_raise i inst slot data)
@[simp] theorem State.raise_cred (s : State) (i inst slot : Nat) (data : List Byte) :
    (s.raise i inst slot data).cred = s.cred := State.of_unposted State.cred (fun _ => rfl) (s.unposted_raise i inst slot data)
@[simp] theorem State.raise_modes (s : State) (i inst slot : Nat) (data : List Byte) :
    (s.raise i inst slot data).modes = s.modes := State.of_unposted State.modes (fun _ => rfl) (s.unposted_raise i inst slot data)
@[simp] theorem State.raise_resets (s : State) (i inst slot : Nat) (data : List Byte) :
    (s.raise i inst slot data).resets = s.resets := State.of_unposted State.resets (fun _ => rfl) (s.unposted_raise i inst slot data)
@[simp] theorem State.raise_boot (s : State) (i inst slot : Nat) (data : List Byte) :
    (s.raise i inst slot data).boot = s.boot := State.of_unposted State.boot (fun _ => rfl) (s.unposted_raise i inst slot data)
@[simp] theorem State.raise_sheets (s : State) (i inst slot : Nat) (data : List Byte) :
    (s.raise i inst slot data).sheets = s.sheets := State.of_unposted State.sheets (fun _ => rfl) (s.unposted_raise i inst slot data)
@[simp] theorem State.raise_dma (s : State) (i inst slot : Nat) (data : List Byte) :
    (s.raise i inst slot data).dma = s.dma := State.of_unposted State.dma (fun _ => rfl) (s.unposted_raise i inst slot data)
@[simp] theorem State.raise_feed (s : State) (i inst slot : Nat) (data : List Byte) :
    (s.raise i inst slot data).feed = s.feed := State.of_unposted State.feed (fun _ => rfl) (s.unposted_raise i inst slot data)
@[simp] theorem State.raise_stations (s : State) (i inst slot : Nat) (data : List Byte) :
    (s.raise i inst slot data).stations = s.stations := State.of_unposted State.stations (fun _ => rfl) (s.unposted_raise i inst slot data)
@[simp] theorem State.raise_run (s : State) (i inst slot : Nat) (data : List Byte) :
    (s.raise i inst slot data).run = s.run := State.of_unposted State.run (fun _ => rfl) (s.unposted_raise i inst slot data)
@[simp] theorem State.raise_drives (s : State) (i inst slot : Nat) (data : List Byte) :
    (s.raise i inst slot data).drives = s.drives := State.of_unposted State.drives (fun _ => rfl) (s.unposted_raise i inst slot data)
@[simp] theorem State.raise_bus (s : State) (i inst slot : Nat) (data : List Byte) :
    (s.raise i inst slot data).bus = s.bus := State.of_unposted State.bus (fun _ => rfl) (s.unposted_raise i inst slot data)
@[simp] theorem State.raise_loops (s : State) (i inst slot : Nat) (data : List Byte) :
    (s.raise i inst slot data).loops = s.loops := State.of_unposted State.loops (fun _ => rfl) (s.unposted_raise i inst slot data)
@[simp] theorem State.raise_loopWorst (s : State) (i inst slot : Nat) (data : List Byte) :
    (s.raise i inst slot data).loopWorst = s.loopWorst := State.of_unposted State.loopWorst (fun _ => rfl) (s.unposted_raise i inst slot data)
@[simp] theorem State.raise_axes (s : State) (i inst slot : Nat) (data : List Byte) :
    (s.raise i inst slot data).axes = s.axes := State.of_unposted State.axes (fun _ => rfl) (s.unposted_raise i inst slot data)
@[simp] theorem State.raise_groups (s : State) (i inst slot : Nat) (data : List Byte) :
    (s.raise i inst slot data).groups = s.groups := State.of_unposted State.groups (fun _ => rfl) (s.unposted_raise i inst slot data)
@[simp] theorem State.raise_encoders (s : State) (i inst slot : Nat) (data : List Byte) :
    (s.raise i inst slot data).encoders = s.encoders := State.of_unposted State.encoders (fun _ => rfl) (s.unposted_raise i inst slot data)
@[simp] theorem State.raise_path (s : State) (i inst slot : Nat) (data : List Byte) :
    (s.raise i inst slot data).path = s.path := State.of_unposted State.path (fun _ => rfl) (s.unposted_raise i inst slot data)
@[simp] theorem State.raise_hv (s : State) (i inst slot : Nat) (data : List Byte) :
    (s.raise i inst slot data).hv = s.hv := State.of_unposted State.hv (fun _ => rfl) (s.unposted_raise i inst slot data)
@[simp] theorem State.raise_zones (s : State) (i inst slot : Nat) (data : List Byte) :
    (s.raise i inst slot data).zones = s.zones := State.of_unposted State.zones (fun _ => rfl) (s.unposted_raise i inst slot data)
@[simp] theorem State.raise_therms (s : State) (i inst slot : Nat) (data : List Byte) :
    (s.raise i inst slot data).therms = s.therms := State.of_unposted State.therms (fun _ => rfl) (s.unposted_raise i inst slot data)
@[simp] theorem State.raise_safety (s : State) (i inst slot : Nat) (data : List Byte) :
    (s.raise i inst slot data).safety = s.safety := State.of_unposted State.safety (fun _ => rfl) (s.unposted_raise i inst slot data)
@[simp] theorem State.raise_mem (s : State) (i inst slot : Nat) (data : List Byte) :
    (s.raise i inst slot data).mem = s.mem := State.of_unposted State.mem (fun _ => rfl) (s.unposted_raise i inst slot data)
@[simp] theorem State.raise_afe (s : State) (i inst slot : Nat) (data : List Byte) :
    (s.raise i inst slot data).afe = s.afe := State.of_unposted State.afe (fun _ => rfl) (s.unposted_raise i inst slot data)
@[simp] theorem State.raise_supply (s : State) (i inst slot : Nat) (data : List Byte) :
    (s.raise i inst slot data).supply = s.supply := State.of_unposted State.supply (fun _ => rfl) (s.unposted_raise i inst slot data)
@[simp] theorem State.raise_nv (s : State) (i inst slot : Nat) (data : List Byte) :
    (s.raise i inst slot data).nv = s.nv := State.of_unposted State.nv (fun _ => rfl) (s.unposted_raise i inst slot data)
@[simp] theorem State.raise_pins (s : State) (i inst slot : Nat) (data : List Byte) :
    (s.raise i inst slot data).pins = s.pins := State.of_unposted State.pins (fun _ => rfl) (s.unposted_raise i inst slot data)
@[simp] theorem State.raise_captures (s : State) (i inst slot : Nat) (data : List Byte) :
    (s.raise i inst slot data).captures = s.captures := State.of_unposted State.captures (fun _ => rfl) (s.unposted_raise i inst slot data)
@[simp] theorem State.raise_now (s : State) (i inst slot : Nat) (data : List Byte) :
    (s.raise i inst slot data).now = s.now := State.of_unposted State.now (fun _ => rfl) (s.unposted_raise i inst slot data)
@[simp] theorem State.raise_arrived (s : State) (i inst slot : Nat) (data : List Byte) :
    (s.raise i inst slot data).arrived = s.arrived := State.of_unposted State.arrived (fun _ => rfl) (s.unposted_raise i inst slot data)
@[simp] theorem State.raise_running (s : State) (i inst slot : Nat) (data : List Byte) :
    (s.raise i inst slot data).running = s.running := State.of_unposted State.running (fun _ => rfl) (s.unposted_raise i inst slot data)
@[simp] theorem State.raise_arbSeq (s : State) (i inst slot : Nat) (data : List Byte) :
    (s.raise i inst slot data).arbSeq = s.arbSeq := State.of_unposted State.arbSeq (fun _ => rfl) (s.unposted_raise i inst slot data)
@[simp] theorem State.raise_key (s : State) (i inst slot : Nat) (data : List Byte) :
    (s.raise i inst slot data).key = s.key := State.of_unposted State.key (fun _ => rfl) (s.unposted_raise i inst slot data)
@[simp] theorem State.raise_trace (s : State) (i inst slot : Nat) (data : List Byte) :
    (s.raise i inst slot data).trace = s.trace := State.of_unposted State.trace (fun _ => rfl) (s.unposted_raise i inst slot data)
@[simp] theorem State.raise_role (s : State) (i inst slot : Nat) (data : List Byte) :
    (s.raise i inst slot data).pair.role = s.pair.role := State.of_unposted (fun t => t.pair.role) (fun _ => rfl) (s.unposted_raise i inst slot data)
@[simp] theorem complete_pending (c : Cmd) (status result : Nat) (s : State) :
    (complete c status result s).pending = s.pending := State.of_unposted State.pending (fun _ => rfl) (unposted_complete c status result s)
@[simp] theorem complete_freeCount (c : Cmd) (status result : Nat) (s : State) :
    (complete c status result s).freeCount = s.freeCount := State.of_unposted State.freeCount (fun _ => rfl) (unposted_complete c status result s)
@[simp] theorem complete_regs (c : Cmd) (status result : Nat) (s : State) :
    (complete c status result s).regs = s.regs := State.of_unposted State.regs (fun _ => rfl) (unposted_complete c status result s)
@[simp] theorem complete_live (c : Cmd) (status result : Nat) (s : State) :
    (complete c status result s).live = s.live := State.of_unposted State.live (fun _ => rfl) (unposted_complete c status result s)
@[simp] theorem complete_snaps (c : Cmd) (status result : Nat) (s : State) :
    (complete c status result s).snaps = s.snaps := State.of_unposted State.snaps (fun _ => rfl) (unposted_complete c status result s)
@[simp] theorem complete_refused (c : Cmd) (status result : Nat) (s : State) :
    (complete c status result s).refused = s.refused := State.of_unposted State.refused (fun _ => rfl) (unposted_complete c status result s)
@[simp] theorem complete_tumbler (c : Cmd) (status result : Nat) (s : State) :
    (complete c status result s).tumbler = s.tumbler := State.of_unposted State.tumbler (fun _ => rfl) (unposted_complete c status result s)
@[simp] theorem complete_hostMask (c : Cmd) (status result : Nat) (s : State) :
    (complete c status result s).hostMask = s.hostMask := State.of_unposted State.hostMask (fun _ => rfl) (unposted_complete c status result s)
@[simp] theorem complete_mgmtMask (c : Cmd) (status result : Nat) (s : State) :
    (complete c status result s).mgmtMask = s.mgmtMask := State.of_unposted State.mgmtMask (fun _ => rfl) (unposted_complete c status result s)
@[simp] theorem complete_cred (c : Cmd) (status result : Nat) (s : State) :
    (complete c status result s).cred = s.cred := State.of_unposted State.cred (fun _ => rfl) (unposted_complete c status result s)
@[simp] theorem complete_modes (c : Cmd) (status result : Nat) (s : State) :
    (complete c status result s).modes = s.modes := State.of_unposted State.modes (fun _ => rfl) (unposted_complete c status result s)
@[simp] theorem complete_resets (c : Cmd) (status result : Nat) (s : State) :
    (complete c status result s).resets = s.resets := State.of_unposted State.resets (fun _ => rfl) (unposted_complete c status result s)
@[simp] theorem complete_boot (c : Cmd) (status result : Nat) (s : State) :
    (complete c status result s).boot = s.boot := State.of_unposted State.boot (fun _ => rfl) (unposted_complete c status result s)
@[simp] theorem complete_sheets (c : Cmd) (status result : Nat) (s : State) :
    (complete c status result s).sheets = s.sheets := State.of_unposted State.sheets (fun _ => rfl) (unposted_complete c status result s)
@[simp] theorem complete_dma (c : Cmd) (status result : Nat) (s : State) :
    (complete c status result s).dma = s.dma := State.of_unposted State.dma (fun _ => rfl) (unposted_complete c status result s)
@[simp] theorem complete_feed (c : Cmd) (status result : Nat) (s : State) :
    (complete c status result s).feed = s.feed := State.of_unposted State.feed (fun _ => rfl) (unposted_complete c status result s)
@[simp] theorem complete_stations (c : Cmd) (status result : Nat) (s : State) :
    (complete c status result s).stations = s.stations := State.of_unposted State.stations (fun _ => rfl) (unposted_complete c status result s)
@[simp] theorem complete_run (c : Cmd) (status result : Nat) (s : State) :
    (complete c status result s).run = s.run := State.of_unposted State.run (fun _ => rfl) (unposted_complete c status result s)
@[simp] theorem complete_drives (c : Cmd) (status result : Nat) (s : State) :
    (complete c status result s).drives = s.drives := State.of_unposted State.drives (fun _ => rfl) (unposted_complete c status result s)
@[simp] theorem complete_bus (c : Cmd) (status result : Nat) (s : State) :
    (complete c status result s).bus = s.bus := State.of_unposted State.bus (fun _ => rfl) (unposted_complete c status result s)
@[simp] theorem complete_loops (c : Cmd) (status result : Nat) (s : State) :
    (complete c status result s).loops = s.loops := State.of_unposted State.loops (fun _ => rfl) (unposted_complete c status result s)
@[simp] theorem complete_loopWorst (c : Cmd) (status result : Nat) (s : State) :
    (complete c status result s).loopWorst = s.loopWorst := State.of_unposted State.loopWorst (fun _ => rfl) (unposted_complete c status result s)
@[simp] theorem complete_axes (c : Cmd) (status result : Nat) (s : State) :
    (complete c status result s).axes = s.axes := State.of_unposted State.axes (fun _ => rfl) (unposted_complete c status result s)
@[simp] theorem complete_groups (c : Cmd) (status result : Nat) (s : State) :
    (complete c status result s).groups = s.groups := State.of_unposted State.groups (fun _ => rfl) (unposted_complete c status result s)
@[simp] theorem complete_encoders (c : Cmd) (status result : Nat) (s : State) :
    (complete c status result s).encoders = s.encoders := State.of_unposted State.encoders (fun _ => rfl) (unposted_complete c status result s)
@[simp] theorem complete_path (c : Cmd) (status result : Nat) (s : State) :
    (complete c status result s).path = s.path := State.of_unposted State.path (fun _ => rfl) (unposted_complete c status result s)
@[simp] theorem complete_hv (c : Cmd) (status result : Nat) (s : State) :
    (complete c status result s).hv = s.hv := State.of_unposted State.hv (fun _ => rfl) (unposted_complete c status result s)
@[simp] theorem complete_zones (c : Cmd) (status result : Nat) (s : State) :
    (complete c status result s).zones = s.zones := State.of_unposted State.zones (fun _ => rfl) (unposted_complete c status result s)
@[simp] theorem complete_therms (c : Cmd) (status result : Nat) (s : State) :
    (complete c status result s).therms = s.therms := State.of_unposted State.therms (fun _ => rfl) (unposted_complete c status result s)
@[simp] theorem complete_safety (c : Cmd) (status result : Nat) (s : State) :
    (complete c status result s).safety = s.safety := State.of_unposted State.safety (fun _ => rfl) (unposted_complete c status result s)
@[simp] theorem complete_mem (c : Cmd) (status result : Nat) (s : State) :
    (complete c status result s).mem = s.mem := State.of_unposted State.mem (fun _ => rfl) (unposted_complete c status result s)
@[simp] theorem complete_afe (c : Cmd) (status result : Nat) (s : State) :
    (complete c status result s).afe = s.afe := State.of_unposted State.afe (fun _ => rfl) (unposted_complete c status result s)
@[simp] theorem complete_supply (c : Cmd) (status result : Nat) (s : State) :
    (complete c status result s).supply = s.supply := State.of_unposted State.supply (fun _ => rfl) (unposted_complete c status result s)
@[simp] theorem complete_nv (c : Cmd) (status result : Nat) (s : State) :
    (complete c status result s).nv = s.nv := State.of_unposted State.nv (fun _ => rfl) (unposted_complete c status result s)
@[simp] theorem complete_pins (c : Cmd) (status result : Nat) (s : State) :
    (complete c status result s).pins = s.pins := State.of_unposted State.pins (fun _ => rfl) (unposted_complete c status result s)
@[simp] theorem complete_captures (c : Cmd) (status result : Nat) (s : State) :
    (complete c status result s).captures = s.captures := State.of_unposted State.captures (fun _ => rfl) (unposted_complete c status result s)
@[simp] theorem complete_now (c : Cmd) (status result : Nat) (s : State) :
    (complete c status result s).now = s.now := State.of_unposted State.now (fun _ => rfl) (unposted_complete c status result s)
@[simp] theorem complete_arrived (c : Cmd) (status result : Nat) (s : State) :
    (complete c status result s).arrived = s.arrived := State.of_unposted State.arrived (fun _ => rfl) (unposted_complete c status result s)
@[simp] theorem complete_running (c : Cmd) (status result : Nat) (s : State) :
    (complete c status result s).running = s.running := State.of_unposted State.running (fun _ => rfl) (unposted_complete c status result s)
@[simp] theorem complete_arbSeq (c : Cmd) (status result : Nat) (s : State) :
    (complete c status result s).arbSeq = s.arbSeq := State.of_unposted State.arbSeq (fun _ => rfl) (unposted_complete c status result s)
@[simp] theorem complete_key (c : Cmd) (status result : Nat) (s : State) :
    (complete c status result s).key = s.key := State.of_unposted State.key (fun _ => rfl) (unposted_complete c status result s)
@[simp] theorem complete_trace (c : Cmd) (status result : Nat) (s : State) :
    (complete c status result s).trace = s.trace := State.of_unposted State.trace (fun _ => rfl) (unposted_complete c status result s)
@[simp] theorem complete_role (c : Cmd) (status result : Nat) (s : State) :
    (complete c status result s).pair.role = s.pair.role := State.of_unposted (fun t => t.pair.role) (fun _ => rfl) (unposted_complete c status result s)
@[simp] theorem finishWhere_pending (p : Cmd → Bool) (st res : Cmd → Nat) (s : State) :
    (finishWhere p st res s).pending = s.pending := (State.of_unposted State.pending (fun _ => rfl) (unposted_finishWhere p st res s)).trans rfl
@[simp] theorem finishWhere_freeCount (p : Cmd → Bool) (st res : Cmd → Nat) (s : State) :
    (finishWhere p st res s).freeCount = s.freeCount := (State.of_unposted State.freeCount (fun _ => rfl) (unposted_finishWhere p st res s)).trans rfl
@[simp] theorem finishWhere_regs (p : Cmd → Bool) (st res : Cmd → Nat) (s : State) :
    (finishWhere p st res s).regs = s.regs := (State.of_unposted State.regs (fun _ => rfl) (unposted_finishWhere p st res s)).trans rfl
@[simp] theorem finishWhere_live (p : Cmd → Bool) (st res : Cmd → Nat) (s : State) :
    (finishWhere p st res s).live = s.live := (State.of_unposted State.live (fun _ => rfl) (unposted_finishWhere p st res s)).trans rfl
@[simp] theorem finishWhere_snaps (p : Cmd → Bool) (st res : Cmd → Nat) (s : State) :
    (finishWhere p st res s).snaps = s.snaps := (State.of_unposted State.snaps (fun _ => rfl) (unposted_finishWhere p st res s)).trans rfl
@[simp] theorem finishWhere_refused (p : Cmd → Bool) (st res : Cmd → Nat) (s : State) :
    (finishWhere p st res s).refused = s.refused := (State.of_unposted State.refused (fun _ => rfl) (unposted_finishWhere p st res s)).trans rfl
@[simp] theorem finishWhere_tumbler (p : Cmd → Bool) (st res : Cmd → Nat) (s : State) :
    (finishWhere p st res s).tumbler = s.tumbler := (State.of_unposted State.tumbler (fun _ => rfl) (unposted_finishWhere p st res s)).trans rfl
@[simp] theorem finishWhere_hostMask (p : Cmd → Bool) (st res : Cmd → Nat) (s : State) :
    (finishWhere p st res s).hostMask = s.hostMask := (State.of_unposted State.hostMask (fun _ => rfl) (unposted_finishWhere p st res s)).trans rfl
@[simp] theorem finishWhere_mgmtMask (p : Cmd → Bool) (st res : Cmd → Nat) (s : State) :
    (finishWhere p st res s).mgmtMask = s.mgmtMask := (State.of_unposted State.mgmtMask (fun _ => rfl) (unposted_finishWhere p st res s)).trans rfl
@[simp] theorem finishWhere_cred (p : Cmd → Bool) (st res : Cmd → Nat) (s : State) :
    (finishWhere p st res s).cred = s.cred := (State.of_unposted State.cred (fun _ => rfl) (unposted_finishWhere p st res s)).trans rfl
@[simp] theorem finishWhere_modes (p : Cmd → Bool) (st res : Cmd → Nat) (s : State) :
    (finishWhere p st res s).modes = s.modes := (State.of_unposted State.modes (fun _ => rfl) (unposted_finishWhere p st res s)).trans rfl
@[simp] theorem finishWhere_resets (p : Cmd → Bool) (st res : Cmd → Nat) (s : State) :
    (finishWhere p st res s).resets = s.resets := (State.of_unposted State.resets (fun _ => rfl) (unposted_finishWhere p st res s)).trans rfl
@[simp] theorem finishWhere_boot (p : Cmd → Bool) (st res : Cmd → Nat) (s : State) :
    (finishWhere p st res s).boot = s.boot := (State.of_unposted State.boot (fun _ => rfl) (unposted_finishWhere p st res s)).trans rfl
@[simp] theorem finishWhere_sheets (p : Cmd → Bool) (st res : Cmd → Nat) (s : State) :
    (finishWhere p st res s).sheets = s.sheets := (State.of_unposted State.sheets (fun _ => rfl) (unposted_finishWhere p st res s)).trans rfl
@[simp] theorem finishWhere_dma (p : Cmd → Bool) (st res : Cmd → Nat) (s : State) :
    (finishWhere p st res s).dma = s.dma := (State.of_unposted State.dma (fun _ => rfl) (unposted_finishWhere p st res s)).trans rfl
@[simp] theorem finishWhere_feed (p : Cmd → Bool) (st res : Cmd → Nat) (s : State) :
    (finishWhere p st res s).feed = s.feed := (State.of_unposted State.feed (fun _ => rfl) (unposted_finishWhere p st res s)).trans rfl
@[simp] theorem finishWhere_stations (p : Cmd → Bool) (st res : Cmd → Nat) (s : State) :
    (finishWhere p st res s).stations = s.stations := (State.of_unposted State.stations (fun _ => rfl) (unposted_finishWhere p st res s)).trans rfl
@[simp] theorem finishWhere_run (p : Cmd → Bool) (st res : Cmd → Nat) (s : State) :
    (finishWhere p st res s).run = s.run := (State.of_unposted State.run (fun _ => rfl) (unposted_finishWhere p st res s)).trans rfl
@[simp] theorem finishWhere_drives (p : Cmd → Bool) (st res : Cmd → Nat) (s : State) :
    (finishWhere p st res s).drives = s.drives := (State.of_unposted State.drives (fun _ => rfl) (unposted_finishWhere p st res s)).trans rfl
@[simp] theorem finishWhere_bus (p : Cmd → Bool) (st res : Cmd → Nat) (s : State) :
    (finishWhere p st res s).bus = s.bus := (State.of_unposted State.bus (fun _ => rfl) (unposted_finishWhere p st res s)).trans rfl
@[simp] theorem finishWhere_loops (p : Cmd → Bool) (st res : Cmd → Nat) (s : State) :
    (finishWhere p st res s).loops = s.loops := (State.of_unposted State.loops (fun _ => rfl) (unposted_finishWhere p st res s)).trans rfl
@[simp] theorem finishWhere_loopWorst (p : Cmd → Bool) (st res : Cmd → Nat) (s : State) :
    (finishWhere p st res s).loopWorst = s.loopWorst := (State.of_unposted State.loopWorst (fun _ => rfl) (unposted_finishWhere p st res s)).trans rfl
@[simp] theorem finishWhere_axes (p : Cmd → Bool) (st res : Cmd → Nat) (s : State) :
    (finishWhere p st res s).axes = s.axes := (State.of_unposted State.axes (fun _ => rfl) (unposted_finishWhere p st res s)).trans rfl
@[simp] theorem finishWhere_groups (p : Cmd → Bool) (st res : Cmd → Nat) (s : State) :
    (finishWhere p st res s).groups = s.groups := (State.of_unposted State.groups (fun _ => rfl) (unposted_finishWhere p st res s)).trans rfl
@[simp] theorem finishWhere_encoders (p : Cmd → Bool) (st res : Cmd → Nat) (s : State) :
    (finishWhere p st res s).encoders = s.encoders := (State.of_unposted State.encoders (fun _ => rfl) (unposted_finishWhere p st res s)).trans rfl
@[simp] theorem finishWhere_path (p : Cmd → Bool) (st res : Cmd → Nat) (s : State) :
    (finishWhere p st res s).path = s.path := (State.of_unposted State.path (fun _ => rfl) (unposted_finishWhere p st res s)).trans rfl
@[simp] theorem finishWhere_hv (p : Cmd → Bool) (st res : Cmd → Nat) (s : State) :
    (finishWhere p st res s).hv = s.hv := (State.of_unposted State.hv (fun _ => rfl) (unposted_finishWhere p st res s)).trans rfl
@[simp] theorem finishWhere_zones (p : Cmd → Bool) (st res : Cmd → Nat) (s : State) :
    (finishWhere p st res s).zones = s.zones := (State.of_unposted State.zones (fun _ => rfl) (unposted_finishWhere p st res s)).trans rfl
@[simp] theorem finishWhere_therms (p : Cmd → Bool) (st res : Cmd → Nat) (s : State) :
    (finishWhere p st res s).therms = s.therms := (State.of_unposted State.therms (fun _ => rfl) (unposted_finishWhere p st res s)).trans rfl
@[simp] theorem finishWhere_safety (p : Cmd → Bool) (st res : Cmd → Nat) (s : State) :
    (finishWhere p st res s).safety = s.safety := (State.of_unposted State.safety (fun _ => rfl) (unposted_finishWhere p st res s)).trans rfl
@[simp] theorem finishWhere_mem (p : Cmd → Bool) (st res : Cmd → Nat) (s : State) :
    (finishWhere p st res s).mem = s.mem := (State.of_unposted State.mem (fun _ => rfl) (unposted_finishWhere p st res s)).trans rfl
@[simp] theorem finishWhere_afe (p : Cmd → Bool) (st res : Cmd → Nat) (s : State) :
    (finishWhere p st res s).afe = s.afe := (State.of_unposted State.afe (fun _ => rfl) (unposted_finishWhere p st res s)).trans rfl
@[simp] theorem finishWhere_supply (p : Cmd → Bool) (st res : Cmd → Nat) (s : State) :
    (finishWhere p st res s).supply = s.supply := (State.of_unposted State.supply (fun _ => rfl) (unposted_finishWhere p st res s)).trans rfl
@[simp] theorem finishWhere_nv (p : Cmd → Bool) (st res : Cmd → Nat) (s : State) :
    (finishWhere p st res s).nv = s.nv := (State.of_unposted State.nv (fun _ => rfl) (unposted_finishWhere p st res s)).trans rfl
@[simp] theorem finishWhere_pins (p : Cmd → Bool) (st res : Cmd → Nat) (s : State) :
    (finishWhere p st res s).pins = s.pins := (State.of_unposted State.pins (fun _ => rfl) (unposted_finishWhere p st res s)).trans rfl
@[simp] theorem finishWhere_captures (p : Cmd → Bool) (st res : Cmd → Nat) (s : State) :
    (finishWhere p st res s).captures = s.captures := (State.of_unposted State.captures (fun _ => rfl) (unposted_finishWhere p st res s)).trans rfl
@[simp] theorem finishWhere_now (p : Cmd → Bool) (st res : Cmd → Nat) (s : State) :
    (finishWhere p st res s).now = s.now := (State.of_unposted State.now (fun _ => rfl) (unposted_finishWhere p st res s)).trans rfl
@[simp] theorem finishWhere_arrived (p : Cmd → Bool) (st res : Cmd → Nat) (s : State) :
    (finishWhere p st res s).arrived = s.arrived := (State.of_unposted State.arrived (fun _ => rfl) (unposted_finishWhere p st res s)).trans rfl
@[simp] theorem finishWhere_arbSeq (p : Cmd → Bool) (st res : Cmd → Nat) (s : State) :
    (finishWhere p st res s).arbSeq = s.arbSeq := (State.of_unposted State.arbSeq (fun _ => rfl) (unposted_finishWhere p st res s)).trans rfl
@[simp] theorem finishWhere_key (p : Cmd → Bool) (st res : Cmd → Nat) (s : State) :
    (finishWhere p st res s).key = s.key := (State.of_unposted State.key (fun _ => rfl) (unposted_finishWhere p st res s)).trans rfl
@[simp] theorem finishWhere_trace (p : Cmd → Bool) (st res : Cmd → Nat) (s : State) :
    (finishWhere p st res s).trace = s.trace := (State.of_unposted State.trace (fun _ => rfl) (unposted_finishWhere p st res s)).trans rfl
@[simp] theorem finishWhere_role (p : Cmd → Bool) (st res : Cmd → Nat) (s : State) :
    (finishWhere p st res s).pair.role = s.pair.role := (State.of_unposted (fun t => t.pair.role) (fun _ => rfl) (unposted_finishWhere p st res s)).trans rfl
@[simp] theorem finish_pending (q status result : Nat) (s : State) :
    (finish q status result s).pending = s.pending := (State.of_unposted State.pending (fun _ => rfl) (unposted_finish q status result s)).trans rfl
@[simp] theorem finish_freeCount (q status result : Nat) (s : State) :
    (finish q status result s).freeCount = s.freeCount := (State.of_unposted State.freeCount (fun _ => rfl) (unposted_finish q status result s)).trans rfl
@[simp] theorem finish_regs (q status result : Nat) (s : State) :
    (finish q status result s).regs = s.regs := (State.of_unposted State.regs (fun _ => rfl) (unposted_finish q status result s)).trans rfl
@[simp] theorem finish_live (q status result : Nat) (s : State) :
    (finish q status result s).live = s.live := (State.of_unposted State.live (fun _ => rfl) (unposted_finish q status result s)).trans rfl
@[simp] theorem finish_snaps (q status result : Nat) (s : State) :
    (finish q status result s).snaps = s.snaps := (State.of_unposted State.snaps (fun _ => rfl) (unposted_finish q status result s)).trans rfl
@[simp] theorem finish_refused (q status result : Nat) (s : State) :
    (finish q status result s).refused = s.refused := (State.of_unposted State.refused (fun _ => rfl) (unposted_finish q status result s)).trans rfl
@[simp] theorem finish_tumbler (q status result : Nat) (s : State) :
    (finish q status result s).tumbler = s.tumbler := (State.of_unposted State.tumbler (fun _ => rfl) (unposted_finish q status result s)).trans rfl
@[simp] theorem finish_hostMask (q status result : Nat) (s : State) :
    (finish q status result s).hostMask = s.hostMask := (State.of_unposted State.hostMask (fun _ => rfl) (unposted_finish q status result s)).trans rfl
@[simp] theorem finish_mgmtMask (q status result : Nat) (s : State) :
    (finish q status result s).mgmtMask = s.mgmtMask := (State.of_unposted State.mgmtMask (fun _ => rfl) (unposted_finish q status result s)).trans rfl
@[simp] theorem finish_cred (q status result : Nat) (s : State) :
    (finish q status result s).cred = s.cred := (State.of_unposted State.cred (fun _ => rfl) (unposted_finish q status result s)).trans rfl
@[simp] theorem finish_modes (q status result : Nat) (s : State) :
    (finish q status result s).modes = s.modes := (State.of_unposted State.modes (fun _ => rfl) (unposted_finish q status result s)).trans rfl
@[simp] theorem finish_resets (q status result : Nat) (s : State) :
    (finish q status result s).resets = s.resets := (State.of_unposted State.resets (fun _ => rfl) (unposted_finish q status result s)).trans rfl
@[simp] theorem finish_boot (q status result : Nat) (s : State) :
    (finish q status result s).boot = s.boot := (State.of_unposted State.boot (fun _ => rfl) (unposted_finish q status result s)).trans rfl
@[simp] theorem finish_sheets (q status result : Nat) (s : State) :
    (finish q status result s).sheets = s.sheets := (State.of_unposted State.sheets (fun _ => rfl) (unposted_finish q status result s)).trans rfl
@[simp] theorem finish_dma (q status result : Nat) (s : State) :
    (finish q status result s).dma = s.dma := (State.of_unposted State.dma (fun _ => rfl) (unposted_finish q status result s)).trans rfl
@[simp] theorem finish_feed (q status result : Nat) (s : State) :
    (finish q status result s).feed = s.feed := (State.of_unposted State.feed (fun _ => rfl) (unposted_finish q status result s)).trans rfl
@[simp] theorem finish_stations (q status result : Nat) (s : State) :
    (finish q status result s).stations = s.stations := (State.of_unposted State.stations (fun _ => rfl) (unposted_finish q status result s)).trans rfl
@[simp] theorem finish_run (q status result : Nat) (s : State) :
    (finish q status result s).run = s.run := (State.of_unposted State.run (fun _ => rfl) (unposted_finish q status result s)).trans rfl
@[simp] theorem finish_drives (q status result : Nat) (s : State) :
    (finish q status result s).drives = s.drives := (State.of_unposted State.drives (fun _ => rfl) (unposted_finish q status result s)).trans rfl
@[simp] theorem finish_bus (q status result : Nat) (s : State) :
    (finish q status result s).bus = s.bus := (State.of_unposted State.bus (fun _ => rfl) (unposted_finish q status result s)).trans rfl
@[simp] theorem finish_loops (q status result : Nat) (s : State) :
    (finish q status result s).loops = s.loops := (State.of_unposted State.loops (fun _ => rfl) (unposted_finish q status result s)).trans rfl
@[simp] theorem finish_loopWorst (q status result : Nat) (s : State) :
    (finish q status result s).loopWorst = s.loopWorst := (State.of_unposted State.loopWorst (fun _ => rfl) (unposted_finish q status result s)).trans rfl
@[simp] theorem finish_axes (q status result : Nat) (s : State) :
    (finish q status result s).axes = s.axes := (State.of_unposted State.axes (fun _ => rfl) (unposted_finish q status result s)).trans rfl
@[simp] theorem finish_groups (q status result : Nat) (s : State) :
    (finish q status result s).groups = s.groups := (State.of_unposted State.groups (fun _ => rfl) (unposted_finish q status result s)).trans rfl
@[simp] theorem finish_encoders (q status result : Nat) (s : State) :
    (finish q status result s).encoders = s.encoders := (State.of_unposted State.encoders (fun _ => rfl) (unposted_finish q status result s)).trans rfl
@[simp] theorem finish_path (q status result : Nat) (s : State) :
    (finish q status result s).path = s.path := (State.of_unposted State.path (fun _ => rfl) (unposted_finish q status result s)).trans rfl
@[simp] theorem finish_hv (q status result : Nat) (s : State) :
    (finish q status result s).hv = s.hv := (State.of_unposted State.hv (fun _ => rfl) (unposted_finish q status result s)).trans rfl
@[simp] theorem finish_zones (q status result : Nat) (s : State) :
    (finish q status result s).zones = s.zones := (State.of_unposted State.zones (fun _ => rfl) (unposted_finish q status result s)).trans rfl
@[simp] theorem finish_therms (q status result : Nat) (s : State) :
    (finish q status result s).therms = s.therms := (State.of_unposted State.therms (fun _ => rfl) (unposted_finish q status result s)).trans rfl
@[simp] theorem finish_safety (q status result : Nat) (s : State) :
    (finish q status result s).safety = s.safety := (State.of_unposted State.safety (fun _ => rfl) (unposted_finish q status result s)).trans rfl
@[simp] theorem finish_mem (q status result : Nat) (s : State) :
    (finish q status result s).mem = s.mem := (State.of_unposted State.mem (fun _ => rfl) (unposted_finish q status result s)).trans rfl
@[simp] theorem finish_afe (q status result : Nat) (s : State) :
    (finish q status result s).afe = s.afe := (State.of_unposted State.afe (fun _ => rfl) (unposted_finish q status result s)).trans rfl
@[simp] theorem finish_supply (q status result : Nat) (s : State) :
    (finish q status result s).supply = s.supply := (State.of_unposted State.supply (fun _ => rfl) (unposted_finish q status result s)).trans rfl
@[simp] theorem finish_nv (q status result : Nat) (s : State) :
    (finish q status result s).nv = s.nv := (State.of_unposted State.nv (fun _ => rfl) (unposted_finish q status result s)).trans rfl
@[simp] theorem finish_pins (q status result : Nat) (s : State) :
    (finish q status result s).pins = s.pins := (State.of_unposted State.pins (fun _ => rfl) (unposted_finish q status result s)).trans rfl
@[simp] theorem finish_captures (q status result : Nat) (s : State) :
    (finish q status result s).captures = s.captures := (State.of_unposted State.captures (fun _ => rfl) (unposted_finish q status result s)).trans rfl
@[simp] theorem finish_now (q status result : Nat) (s : State) :
    (finish q status result s).now = s.now := (State.of_unposted State.now (fun _ => rfl) (unposted_finish q status result s)).trans rfl
@[simp] theorem finish_arrived (q status result : Nat) (s : State) :
    (finish q status result s).arrived = s.arrived := (State.of_unposted State.arrived (fun _ => rfl) (unposted_finish q status result s)).trans rfl
@[simp] theorem finish_arbSeq (q status result : Nat) (s : State) :
    (finish q status result s).arbSeq = s.arbSeq := (State.of_unposted State.arbSeq (fun _ => rfl) (unposted_finish q status result s)).trans rfl
@[simp] theorem finish_key (q status result : Nat) (s : State) :
    (finish q status result s).key = s.key := (State.of_unposted State.key (fun _ => rfl) (unposted_finish q status result s)).trans rfl
@[simp] theorem finish_trace (q status result : Nat) (s : State) :
    (finish q status result s).trace = s.trace := (State.of_unposted State.trace (fun _ => rfl) (unposted_finish q status result s)).trans rfl
@[simp] theorem finish_role (q status result : Nat) (s : State) :
    (finish q status result s).pair.role = s.pair.role := (State.of_unposted (fun t => t.pair.role) (fun _ => rfl) (unposted_finish q status result s)).trans rfl
@[simp] theorem finishWhere_running (p : Cmd → Bool) (st res : Cmd → Nat) (s : State) :
    (finishWhere p st res s).running = s.running.filter fun c => !p c :=
  (State.of_unposted State.running (fun _ => rfl) (unposted_finishWhere p st res s)).trans rfl
@[simp] theorem finishWhere_imm (p : Cmd → Bool) (st res : Cmd → Nat) (s : State) (f : FieldRef) : (finishWhere p st res s).imm f = s.imm f :=
  (State.of_unposted (fun t => t.imm f) (fun _ => rfl) (unposted_finishWhere p st res s)).trans rfl
@[simp] theorem finishWhere_on (p : Cmd → Bool) (st res : Cmd → Nat) (s : State) (f : FieldRef) : (finishWhere p st res s).on f = s.on f :=
  (State.of_unposted (fun t => t.on f) (fun _ => rfl) (unposted_finishWhere p st res s)).trans rfl
@[simp] theorem finishWhere_liv (p : Cmd → Bool) (st res : Cmd → Nat) (s : State) (f : FieldRef) : (finishWhere p st res s).liv f = s.liv f :=
  (State.of_unposted (fun t => t.liv f) (fun _ => rfl) (unposted_finishWhere p st res s)).trans rfl
@[simp] theorem finishWhere_livOn (p : Cmd → Bool) (st res : Cmd → Nat) (s : State) (f : FieldRef) : (finishWhere p st res s).livOn f = s.livOn f :=
  (State.of_unposted (fun t => t.livOn f) (fun _ => rfl) (unposted_finishWhere p st res s)).trans rfl
@[simp] theorem finishWhere_reg (p : Cmd → Bool) (st res : Cmd → Nat) (s : State) (a : Nat) : (finishWhere p st res s).reg a = s.reg a :=
  (State.of_unposted (fun t => t.reg a) (fun _ => rfl) (unposted_finishWhere p st res s)).trans rfl
@[simp] theorem finishWhere_liveReg (p : Cmd → Bool) (st res : Cmd → Nat) (s : State) (a : Nat) : (finishWhere p st res s).liveReg a = s.liveReg a :=
  (State.of_unposted (fun t => t.liveReg a) (fun _ => rfl) (unposted_finishWhere p st res s)).trans rfl
@[simp] theorem finishWhere_mode (p : Cmd → Bool) (st res : Cmd → Nat) (s : State)  : (finishWhere p st res s).mode = s.mode :=
  (State.of_unposted (fun t => t.mode) (fun _ => rfl) (unposted_finishWhere p st res s)).trans rfl
@[simp] theorem finish_imm (q status result : Nat) (s : State) (f : FieldRef) : (finish q status result s).imm f = s.imm f :=
  (State.of_unposted (fun t => t.imm f) (fun _ => rfl) (unposted_finish q status result s)).trans rfl
@[simp] theorem finish_on (q status result : Nat) (s : State) (f : FieldRef) : (finish q status result s).on f = s.on f :=
  (State.of_unposted (fun t => t.on f) (fun _ => rfl) (unposted_finish q status result s)).trans rfl
@[simp] theorem finish_liv (q status result : Nat) (s : State) (f : FieldRef) : (finish q status result s).liv f = s.liv f :=
  (State.of_unposted (fun t => t.liv f) (fun _ => rfl) (unposted_finish q status result s)).trans rfl
@[simp] theorem finish_livOn (q status result : Nat) (s : State) (f : FieldRef) : (finish q status result s).livOn f = s.livOn f :=
  (State.of_unposted (fun t => t.livOn f) (fun _ => rfl) (unposted_finish q status result s)).trans rfl
@[simp] theorem finish_reg (q status result : Nat) (s : State) (a : Nat) : (finish q status result s).reg a = s.reg a :=
  (State.of_unposted (fun t => t.reg a) (fun _ => rfl) (unposted_finish q status result s)).trans rfl
@[simp] theorem finish_liveReg (q status result : Nat) (s : State) (a : Nat) : (finish q status result s).liveReg a = s.liveReg a :=
  (State.of_unposted (fun t => t.liveReg a) (fun _ => rfl) (unposted_finish q status result s)).trans rfl
@[simp] theorem finish_mode (q status result : Nat) (s : State)  : (finish q status result s).mode = s.mode :=
  (State.of_unposted (fun t => t.mode) (fun _ => rfl) (unposted_finish q status result s)).trans rfl
@[simp] theorem complete_imm (c : Cmd) (status result : Nat) (s : State) (f : FieldRef) : (complete c status result s).imm f = s.imm f :=
  (State.of_unposted (fun t => t.imm f) (fun _ => rfl) (unposted_complete c status result s)).trans rfl
@[simp] theorem complete_on (c : Cmd) (status result : Nat) (s : State) (f : FieldRef) : (complete c status result s).on f = s.on f :=
  (State.of_unposted (fun t => t.on f) (fun _ => rfl) (unposted_complete c status result s)).trans rfl
@[simp] theorem complete_liv (c : Cmd) (status result : Nat) (s : State) (f : FieldRef) : (complete c status result s).liv f = s.liv f :=
  (State.of_unposted (fun t => t.liv f) (fun _ => rfl) (unposted_complete c status result s)).trans rfl
@[simp] theorem complete_livOn (c : Cmd) (status result : Nat) (s : State) (f : FieldRef) : (complete c status result s).livOn f = s.livOn f :=
  (State.of_unposted (fun t => t.livOn f) (fun _ => rfl) (unposted_complete c status result s)).trans rfl
@[simp] theorem complete_reg (c : Cmd) (status result : Nat) (s : State) (a : Nat) : (complete c status result s).reg a = s.reg a :=
  (State.of_unposted (fun t => t.reg a) (fun _ => rfl) (unposted_complete c status result s)).trans rfl
@[simp] theorem complete_liveReg (c : Cmd) (status result : Nat) (s : State) (a : Nat) : (complete c status result s).liveReg a = s.liveReg a :=
  (State.of_unposted (fun t => t.liveReg a) (fun _ => rfl) (unposted_complete c status result s)).trans rfl
@[simp] theorem complete_mode (c : Cmd) (status result : Nat) (s : State)  : (complete c status result s).mode = s.mode :=
  (State.of_unposted (fun t => t.mode) (fun _ => rfl) (unposted_complete c status result s)).trans rfl
@[simp] theorem State.raise_imm (s : State) (i inst slot : Nat) (data : List Byte) (f : FieldRef) : (s.raise i inst slot data).imm f = s.imm f :=
  (State.of_unposted (fun t => t.imm f) (fun _ => rfl) (s.unposted_raise i inst slot data)).trans rfl
@[simp] theorem State.raise_on (s : State) (i inst slot : Nat) (data : List Byte) (f : FieldRef) : (s.raise i inst slot data).on f = s.on f :=
  (State.of_unposted (fun t => t.on f) (fun _ => rfl) (s.unposted_raise i inst slot data)).trans rfl
@[simp] theorem State.raise_liv (s : State) (i inst slot : Nat) (data : List Byte) (f : FieldRef) : (s.raise i inst slot data).liv f = s.liv f :=
  (State.of_unposted (fun t => t.liv f) (fun _ => rfl) (s.unposted_raise i inst slot data)).trans rfl
@[simp] theorem State.raise_livOn (s : State) (i inst slot : Nat) (data : List Byte) (f : FieldRef) : (s.raise i inst slot data).livOn f = s.livOn f :=
  (State.of_unposted (fun t => t.livOn f) (fun _ => rfl) (s.unposted_raise i inst slot data)).trans rfl
@[simp] theorem State.raise_reg (s : State) (i inst slot : Nat) (data : List Byte) (a : Nat) : (s.raise i inst slot data).reg a = s.reg a :=
  (State.of_unposted (fun t => t.reg a) (fun _ => rfl) (s.unposted_raise i inst slot data)).trans rfl
@[simp] theorem State.raise_liveReg (s : State) (i inst slot : Nat) (data : List Byte) (a : Nat) : (s.raise i inst slot data).liveReg a = s.liveReg a :=
  (State.of_unposted (fun t => t.liveReg a) (fun _ => rfl) (s.unposted_raise i inst slot data)).trans rfl
@[simp] theorem State.raise_mode (s : State) (i inst slot : Nat) (data : List Byte)  : (s.raise i inst slot data).mode = s.mode :=
  (State.of_unposted (fun t => t.mode) (fun _ => rfl) (s.unposted_raise i inst slot data)).trans rfl

/-! The lease, the arbiter step, and what a packet leaves alone. -/

theorem State.unjudged_of_unposted {s t : State} (h : s.unposted = t.unposted) : s.unjudged = t.unjudged := by
  have ht : s.trace = t.trace := State.of_unposted State.trace (fun _ => rfl) h
  have hk : s.key = t.key := State.of_unposted State.key (fun _ => rfl) h
  simp only [State.unjudged, h, ht, hk]

theorem unposted_refuseClaims : ∀ (ks : List Claim) (s : State), (refuseClaims ks s).unposted = s.unposted
  | [], _ => rfl
  | k :: ks, s => by unfold refuseClaims; rw [unposted_refuseClaims ks]; simp

@[simp] theorem State.unjudged_closeWindow (s : State) : s.closeWindow.unjudged = s.unjudged := by
  unfold State.closeWindow
  split
  · rw [State.unjudged_of_unposted (unposted_refuseClaims _ _)]; rfl
  · rfl

@[simp] theorem State.unjudged_renew (s : State) : s.renew.unjudged = s.unjudged := by
  unfold State.renew; rw [State.unjudged_closeWindow]; rfl

theorem State.closeWindow_now (s : State) : s.closeWindow.now = s.now := by
  unfold State.closeWindow
  split
  · exact (State.of_unposted State.now (fun _ => rfl) (unposted_refuseClaims _ _)).trans rfl
  · rfl

@[simp] theorem State.unposted_traceRecord (s : State) (source inst : Nat) (data : List Byte) :
    (s.record source inst data).unjudged = s.unjudged := by
  unfold State.record; repeat' split
  all_goals rfl

@[simp] theorem State.unjudged_arbStep (s : State) (op : Nat) (p : Packet) (v : Nat) : (s.arbStep op p v).unjudged = s.unjudged := by
  unfold State.arbStep
  dsimp only
  rw [State.unposted_traceRecord, State.unjudged_of_unposted (State.unposted_mirrorOn _ _)]; rfl

@[simp] theorem State.unjudged_taken (s : State) (op : Nat) (p : Packet) : (s.taken op p).unjudged = s.unjudged := rfl

@[simp] theorem State.unjudged_seen (s : State) (op : Nat) (cls : Class) (p : Packet) : (s.seen op cls p).unjudged = s.unjudged := by
  unfold State.seen; split <;> simp

@[simp] theorem State.unjudged_accept (s : State) (op : Nat) (cls : Class) (p : Packet) :
    (s.accept op cls p).unjudged = s.unjudged := by
  unfold State.accept; simp

@[simp] theorem unjudged_complete (c : Cmd) (status result : Nat) (s : State) :
    (complete c status result s).unjudged = s.unjudged := State.unjudged_of_unposted (unposted_complete _ _ _ _)

@[simp] theorem State.seen_pending (s : State) (op : Nat) (cls : Class) (p : Packet) :
    (s.seen op cls p).pending = s.pending := State.of_unjudged State.pending (fun _ => rfl) (s.unjudged_seen op cls p)
@[simp] theorem State.seen_freeCount (s : State) (op : Nat) (cls : Class) (p : Packet) :
    (s.seen op cls p).freeCount = s.freeCount := State.of_unjudged State.freeCount (fun _ => rfl) (s.unjudged_seen op cls p)
@[simp] theorem State.seen_regs (s : State) (op : Nat) (cls : Class) (p : Packet) :
    (s.seen op cls p).regs = s.regs := State.of_unjudged State.regs (fun _ => rfl) (s.unjudged_seen op cls p)
@[simp] theorem State.seen_live (s : State) (op : Nat) (cls : Class) (p : Packet) :
    (s.seen op cls p).live = s.live := State.of_unjudged State.live (fun _ => rfl) (s.unjudged_seen op cls p)
@[simp] theorem State.seen_snaps (s : State) (op : Nat) (cls : Class) (p : Packet) :
    (s.seen op cls p).snaps = s.snaps := State.of_unjudged State.snaps (fun _ => rfl) (s.unjudged_seen op cls p)
@[simp] theorem State.seen_refused (s : State) (op : Nat) (cls : Class) (p : Packet) :
    (s.seen op cls p).refused = s.refused := State.of_unjudged State.refused (fun _ => rfl) (s.unjudged_seen op cls p)
@[simp] theorem State.seen_tumbler (s : State) (op : Nat) (cls : Class) (p : Packet) :
    (s.seen op cls p).tumbler = s.tumbler := State.of_unjudged State.tumbler (fun _ => rfl) (s.unjudged_seen op cls p)
@[simp] theorem State.seen_hostMask (s : State) (op : Nat) (cls : Class) (p : Packet) :
    (s.seen op cls p).hostMask = s.hostMask := State.of_unjudged State.hostMask (fun _ => rfl) (s.unjudged_seen op cls p)
@[simp] theorem State.seen_mgmtMask (s : State) (op : Nat) (cls : Class) (p : Packet) :
    (s.seen op cls p).mgmtMask = s.mgmtMask := State.of_unjudged State.mgmtMask (fun _ => rfl) (s.unjudged_seen op cls p)
@[simp] theorem State.seen_cred (s : State) (op : Nat) (cls : Class) (p : Packet) :
    (s.seen op cls p).cred = s.cred := State.of_unjudged State.cred (fun _ => rfl) (s.unjudged_seen op cls p)
@[simp] theorem State.seen_modes (s : State) (op : Nat) (cls : Class) (p : Packet) :
    (s.seen op cls p).modes = s.modes := State.of_unjudged State.modes (fun _ => rfl) (s.unjudged_seen op cls p)
@[simp] theorem State.seen_resets (s : State) (op : Nat) (cls : Class) (p : Packet) :
    (s.seen op cls p).resets = s.resets := State.of_unjudged State.resets (fun _ => rfl) (s.unjudged_seen op cls p)
@[simp] theorem State.seen_boot (s : State) (op : Nat) (cls : Class) (p : Packet) :
    (s.seen op cls p).boot = s.boot := State.of_unjudged State.boot (fun _ => rfl) (s.unjudged_seen op cls p)
@[simp] theorem State.seen_sheets (s : State) (op : Nat) (cls : Class) (p : Packet) :
    (s.seen op cls p).sheets = s.sheets := State.of_unjudged State.sheets (fun _ => rfl) (s.unjudged_seen op cls p)
@[simp] theorem State.seen_dma (s : State) (op : Nat) (cls : Class) (p : Packet) :
    (s.seen op cls p).dma = s.dma := State.of_unjudged State.dma (fun _ => rfl) (s.unjudged_seen op cls p)
@[simp] theorem State.seen_feed (s : State) (op : Nat) (cls : Class) (p : Packet) :
    (s.seen op cls p).feed = s.feed := State.of_unjudged State.feed (fun _ => rfl) (s.unjudged_seen op cls p)
@[simp] theorem State.seen_stations (s : State) (op : Nat) (cls : Class) (p : Packet) :
    (s.seen op cls p).stations = s.stations := State.of_unjudged State.stations (fun _ => rfl) (s.unjudged_seen op cls p)
@[simp] theorem State.seen_run (s : State) (op : Nat) (cls : Class) (p : Packet) :
    (s.seen op cls p).run = s.run := State.of_unjudged State.run (fun _ => rfl) (s.unjudged_seen op cls p)
@[simp] theorem State.seen_drives (s : State) (op : Nat) (cls : Class) (p : Packet) :
    (s.seen op cls p).drives = s.drives := State.of_unjudged State.drives (fun _ => rfl) (s.unjudged_seen op cls p)
@[simp] theorem State.seen_bus (s : State) (op : Nat) (cls : Class) (p : Packet) :
    (s.seen op cls p).bus = s.bus := State.of_unjudged State.bus (fun _ => rfl) (s.unjudged_seen op cls p)
@[simp] theorem State.seen_loops (s : State) (op : Nat) (cls : Class) (p : Packet) :
    (s.seen op cls p).loops = s.loops := State.of_unjudged State.loops (fun _ => rfl) (s.unjudged_seen op cls p)
@[simp] theorem State.seen_loopWorst (s : State) (op : Nat) (cls : Class) (p : Packet) :
    (s.seen op cls p).loopWorst = s.loopWorst := State.of_unjudged State.loopWorst (fun _ => rfl) (s.unjudged_seen op cls p)
@[simp] theorem State.seen_axes (s : State) (op : Nat) (cls : Class) (p : Packet) :
    (s.seen op cls p).axes = s.axes := State.of_unjudged State.axes (fun _ => rfl) (s.unjudged_seen op cls p)
@[simp] theorem State.seen_groups (s : State) (op : Nat) (cls : Class) (p : Packet) :
    (s.seen op cls p).groups = s.groups := State.of_unjudged State.groups (fun _ => rfl) (s.unjudged_seen op cls p)
@[simp] theorem State.seen_encoders (s : State) (op : Nat) (cls : Class) (p : Packet) :
    (s.seen op cls p).encoders = s.encoders := State.of_unjudged State.encoders (fun _ => rfl) (s.unjudged_seen op cls p)
@[simp] theorem State.seen_path (s : State) (op : Nat) (cls : Class) (p : Packet) :
    (s.seen op cls p).path = s.path := State.of_unjudged State.path (fun _ => rfl) (s.unjudged_seen op cls p)
@[simp] theorem State.seen_hv (s : State) (op : Nat) (cls : Class) (p : Packet) :
    (s.seen op cls p).hv = s.hv := State.of_unjudged State.hv (fun _ => rfl) (s.unjudged_seen op cls p)
@[simp] theorem State.seen_zones (s : State) (op : Nat) (cls : Class) (p : Packet) :
    (s.seen op cls p).zones = s.zones := State.of_unjudged State.zones (fun _ => rfl) (s.unjudged_seen op cls p)
@[simp] theorem State.seen_therms (s : State) (op : Nat) (cls : Class) (p : Packet) :
    (s.seen op cls p).therms = s.therms := State.of_unjudged State.therms (fun _ => rfl) (s.unjudged_seen op cls p)
@[simp] theorem State.seen_safety (s : State) (op : Nat) (cls : Class) (p : Packet) :
    (s.seen op cls p).safety = s.safety := State.of_unjudged State.safety (fun _ => rfl) (s.unjudged_seen op cls p)
@[simp] theorem State.seen_mem (s : State) (op : Nat) (cls : Class) (p : Packet) :
    (s.seen op cls p).mem = s.mem := State.of_unjudged State.mem (fun _ => rfl) (s.unjudged_seen op cls p)
@[simp] theorem State.seen_afe (s : State) (op : Nat) (cls : Class) (p : Packet) :
    (s.seen op cls p).afe = s.afe := State.of_unjudged State.afe (fun _ => rfl) (s.unjudged_seen op cls p)
@[simp] theorem State.seen_supply (s : State) (op : Nat) (cls : Class) (p : Packet) :
    (s.seen op cls p).supply = s.supply := State.of_unjudged State.supply (fun _ => rfl) (s.unjudged_seen op cls p)
@[simp] theorem State.seen_nv (s : State) (op : Nat) (cls : Class) (p : Packet) :
    (s.seen op cls p).nv = s.nv := State.of_unjudged State.nv (fun _ => rfl) (s.unjudged_seen op cls p)
@[simp] theorem State.seen_pins (s : State) (op : Nat) (cls : Class) (p : Packet) :
    (s.seen op cls p).pins = s.pins := State.of_unjudged State.pins (fun _ => rfl) (s.unjudged_seen op cls p)
@[simp] theorem State.seen_captures (s : State) (op : Nat) (cls : Class) (p : Packet) :
    (s.seen op cls p).captures = s.captures := State.of_unjudged State.captures (fun _ => rfl) (s.unjudged_seen op cls p)
@[simp] theorem State.seen_key_holder (s : State) (op : Nat) (cls : Class) (p : Packet) :
    (s.seen op cls p).key.holder = s.key.holder := State.of_unjudged (fun t => t.key.holder) (fun _ => rfl) (s.unjudged_seen op cls p)
@[simp] theorem State.seen_key_epoch (s : State) (op : Nat) (cls : Class) (p : Packet) :
    (s.seen op cls p).key.epoch = s.key.epoch := State.of_unjudged (fun t => t.key.epoch) (fun _ => rfl) (s.unjudged_seen op cls p)
@[simp] theorem State.seen_key_service (s : State) (op : Nat) (cls : Class) (p : Packet) :
    (s.seen op cls p).key.service = s.key.service := State.of_unjudged (fun t => t.key.service) (fun _ => rfl) (s.unjudged_seen op cls p)
@[simp] theorem State.seen_key_windowEnds (s : State) (op : Nat) (cls : Class) (p : Packet) :
    (s.seen op cls p).key.windowEnds = s.key.windowEnds := State.of_unjudged (fun t => t.key.windowEnds) (fun _ => rfl) (s.unjudged_seen op cls p)
@[simp] theorem State.seen_pair_role (s : State) (op : Nat) (cls : Class) (p : Packet) :
    (s.seen op cls p).pair.role = s.pair.role := State.of_unjudged (fun t => t.pair.role) (fun _ => rfl) (s.unjudged_seen op cls p)
@[simp] theorem State.seen_pair_synced (s : State) (op : Nat) (cls : Class) (p : Packet) :
    (s.seen op cls p).pair.synced = s.pair.synced := State.of_unjudged (fun t => t.pair.synced) (fun _ => rfl) (s.unjudged_seen op cls p)
@[simp] theorem State.seen_pair_lanes (s : State) (op : Nat) (cls : Class) (p : Packet) :
    (s.seen op cls p).pair.lanes = s.pair.lanes := State.of_unjudged (fun t => t.pair.lanes) (fun _ => rfl) (s.unjudged_seen op cls p)
@[simp] theorem State.seen_pair_paired (s : State) (op : Nat) (cls : Class) (p : Packet) :
    (s.seen op cls p).pair.paired = s.pair.paired := State.of_unjudged (fun t => t.pair.paired) (fun _ => rfl) (s.unjudged_seen op cls p)
@[simp] theorem State.seen_pair_peerRole (s : State) (op : Nat) (cls : Class) (p : Packet) :
    (s.seen op cls p).pair.peerRole = s.pair.peerRole := State.of_unjudged (fun t => t.pair.peerRole) (fun _ => rfl) (s.unjudged_seen op cls p)
@[simp] theorem State.seen_pair_syncing (s : State) (op : Nat) (cls : Class) (p : Packet) :
    (s.seen op cls p).pair.syncing = s.pair.syncing := State.of_unjudged (fun t => t.pair.syncing) (fun _ => rfl) (s.unjudged_seen op cls p)
@[simp] theorem State.seen_pair_fenceFrom (s : State) (op : Nat) (cls : Class) (p : Packet) :
    (s.seen op cls p).pair.fenceFrom = s.pair.fenceFrom := State.of_unjudged (fun t => t.pair.fenceFrom) (fun _ => rfl) (s.unjudged_seen op cls p)
@[simp] theorem State.seen_pair_dboltIn (s : State) (op : Nat) (cls : Class) (p : Packet) :
    (s.seen op cls p).pair.dboltIn = s.pair.dboltIn := State.of_unjudged (fun t => t.pair.dboltIn) (fun _ => rfl) (s.unjudged_seen op cls p)
@[simp] theorem State.accept_pending (s : State) (op : Nat) (cls : Class) (p : Packet) :
    (s.accept op cls p).pending = s.pending := State.of_unjudged State.pending (fun _ => rfl) (s.unjudged_accept op cls p)
@[simp] theorem State.accept_freeCount (s : State) (op : Nat) (cls : Class) (p : Packet) :
    (s.accept op cls p).freeCount = s.freeCount := State.of_unjudged State.freeCount (fun _ => rfl) (s.unjudged_accept op cls p)
@[simp] theorem State.accept_regs (s : State) (op : Nat) (cls : Class) (p : Packet) :
    (s.accept op cls p).regs = s.regs := State.of_unjudged State.regs (fun _ => rfl) (s.unjudged_accept op cls p)
@[simp] theorem State.accept_live (s : State) (op : Nat) (cls : Class) (p : Packet) :
    (s.accept op cls p).live = s.live := State.of_unjudged State.live (fun _ => rfl) (s.unjudged_accept op cls p)
@[simp] theorem State.accept_snaps (s : State) (op : Nat) (cls : Class) (p : Packet) :
    (s.accept op cls p).snaps = s.snaps := State.of_unjudged State.snaps (fun _ => rfl) (s.unjudged_accept op cls p)
@[simp] theorem State.accept_refused (s : State) (op : Nat) (cls : Class) (p : Packet) :
    (s.accept op cls p).refused = s.refused := State.of_unjudged State.refused (fun _ => rfl) (s.unjudged_accept op cls p)
@[simp] theorem State.accept_tumbler (s : State) (op : Nat) (cls : Class) (p : Packet) :
    (s.accept op cls p).tumbler = s.tumbler := State.of_unjudged State.tumbler (fun _ => rfl) (s.unjudged_accept op cls p)
@[simp] theorem State.accept_hostMask (s : State) (op : Nat) (cls : Class) (p : Packet) :
    (s.accept op cls p).hostMask = s.hostMask := State.of_unjudged State.hostMask (fun _ => rfl) (s.unjudged_accept op cls p)
@[simp] theorem State.accept_mgmtMask (s : State) (op : Nat) (cls : Class) (p : Packet) :
    (s.accept op cls p).mgmtMask = s.mgmtMask := State.of_unjudged State.mgmtMask (fun _ => rfl) (s.unjudged_accept op cls p)
@[simp] theorem State.accept_cred (s : State) (op : Nat) (cls : Class) (p : Packet) :
    (s.accept op cls p).cred = s.cred := State.of_unjudged State.cred (fun _ => rfl) (s.unjudged_accept op cls p)
@[simp] theorem State.accept_modes (s : State) (op : Nat) (cls : Class) (p : Packet) :
    (s.accept op cls p).modes = s.modes := State.of_unjudged State.modes (fun _ => rfl) (s.unjudged_accept op cls p)
@[simp] theorem State.accept_resets (s : State) (op : Nat) (cls : Class) (p : Packet) :
    (s.accept op cls p).resets = s.resets := State.of_unjudged State.resets (fun _ => rfl) (s.unjudged_accept op cls p)
@[simp] theorem State.accept_boot (s : State) (op : Nat) (cls : Class) (p : Packet) :
    (s.accept op cls p).boot = s.boot := State.of_unjudged State.boot (fun _ => rfl) (s.unjudged_accept op cls p)
@[simp] theorem State.accept_sheets (s : State) (op : Nat) (cls : Class) (p : Packet) :
    (s.accept op cls p).sheets = s.sheets := State.of_unjudged State.sheets (fun _ => rfl) (s.unjudged_accept op cls p)
@[simp] theorem State.accept_dma (s : State) (op : Nat) (cls : Class) (p : Packet) :
    (s.accept op cls p).dma = s.dma := State.of_unjudged State.dma (fun _ => rfl) (s.unjudged_accept op cls p)
@[simp] theorem State.accept_feed (s : State) (op : Nat) (cls : Class) (p : Packet) :
    (s.accept op cls p).feed = s.feed := State.of_unjudged State.feed (fun _ => rfl) (s.unjudged_accept op cls p)
@[simp] theorem State.accept_stations (s : State) (op : Nat) (cls : Class) (p : Packet) :
    (s.accept op cls p).stations = s.stations := State.of_unjudged State.stations (fun _ => rfl) (s.unjudged_accept op cls p)
@[simp] theorem State.accept_run (s : State) (op : Nat) (cls : Class) (p : Packet) :
    (s.accept op cls p).run = s.run := State.of_unjudged State.run (fun _ => rfl) (s.unjudged_accept op cls p)
@[simp] theorem State.accept_drives (s : State) (op : Nat) (cls : Class) (p : Packet) :
    (s.accept op cls p).drives = s.drives := State.of_unjudged State.drives (fun _ => rfl) (s.unjudged_accept op cls p)
@[simp] theorem State.accept_bus (s : State) (op : Nat) (cls : Class) (p : Packet) :
    (s.accept op cls p).bus = s.bus := State.of_unjudged State.bus (fun _ => rfl) (s.unjudged_accept op cls p)
@[simp] theorem State.accept_loops (s : State) (op : Nat) (cls : Class) (p : Packet) :
    (s.accept op cls p).loops = s.loops := State.of_unjudged State.loops (fun _ => rfl) (s.unjudged_accept op cls p)
@[simp] theorem State.accept_loopWorst (s : State) (op : Nat) (cls : Class) (p : Packet) :
    (s.accept op cls p).loopWorst = s.loopWorst := State.of_unjudged State.loopWorst (fun _ => rfl) (s.unjudged_accept op cls p)
@[simp] theorem State.accept_axes (s : State) (op : Nat) (cls : Class) (p : Packet) :
    (s.accept op cls p).axes = s.axes := State.of_unjudged State.axes (fun _ => rfl) (s.unjudged_accept op cls p)
@[simp] theorem State.accept_groups (s : State) (op : Nat) (cls : Class) (p : Packet) :
    (s.accept op cls p).groups = s.groups := State.of_unjudged State.groups (fun _ => rfl) (s.unjudged_accept op cls p)
@[simp] theorem State.accept_encoders (s : State) (op : Nat) (cls : Class) (p : Packet) :
    (s.accept op cls p).encoders = s.encoders := State.of_unjudged State.encoders (fun _ => rfl) (s.unjudged_accept op cls p)
@[simp] theorem State.accept_path (s : State) (op : Nat) (cls : Class) (p : Packet) :
    (s.accept op cls p).path = s.path := State.of_unjudged State.path (fun _ => rfl) (s.unjudged_accept op cls p)
@[simp] theorem State.accept_hv (s : State) (op : Nat) (cls : Class) (p : Packet) :
    (s.accept op cls p).hv = s.hv := State.of_unjudged State.hv (fun _ => rfl) (s.unjudged_accept op cls p)
@[simp] theorem State.accept_zones (s : State) (op : Nat) (cls : Class) (p : Packet) :
    (s.accept op cls p).zones = s.zones := State.of_unjudged State.zones (fun _ => rfl) (s.unjudged_accept op cls p)
@[simp] theorem State.accept_therms (s : State) (op : Nat) (cls : Class) (p : Packet) :
    (s.accept op cls p).therms = s.therms := State.of_unjudged State.therms (fun _ => rfl) (s.unjudged_accept op cls p)
@[simp] theorem State.accept_safety (s : State) (op : Nat) (cls : Class) (p : Packet) :
    (s.accept op cls p).safety = s.safety := State.of_unjudged State.safety (fun _ => rfl) (s.unjudged_accept op cls p)
@[simp] theorem State.accept_mem (s : State) (op : Nat) (cls : Class) (p : Packet) :
    (s.accept op cls p).mem = s.mem := State.of_unjudged State.mem (fun _ => rfl) (s.unjudged_accept op cls p)
@[simp] theorem State.accept_afe (s : State) (op : Nat) (cls : Class) (p : Packet) :
    (s.accept op cls p).afe = s.afe := State.of_unjudged State.afe (fun _ => rfl) (s.unjudged_accept op cls p)
@[simp] theorem State.accept_supply (s : State) (op : Nat) (cls : Class) (p : Packet) :
    (s.accept op cls p).supply = s.supply := State.of_unjudged State.supply (fun _ => rfl) (s.unjudged_accept op cls p)
@[simp] theorem State.accept_nv (s : State) (op : Nat) (cls : Class) (p : Packet) :
    (s.accept op cls p).nv = s.nv := State.of_unjudged State.nv (fun _ => rfl) (s.unjudged_accept op cls p)
@[simp] theorem State.accept_pins (s : State) (op : Nat) (cls : Class) (p : Packet) :
    (s.accept op cls p).pins = s.pins := State.of_unjudged State.pins (fun _ => rfl) (s.unjudged_accept op cls p)
@[simp] theorem State.accept_captures (s : State) (op : Nat) (cls : Class) (p : Packet) :
    (s.accept op cls p).captures = s.captures := State.of_unjudged State.captures (fun _ => rfl) (s.unjudged_accept op cls p)
@[simp] theorem State.accept_key_holder (s : State) (op : Nat) (cls : Class) (p : Packet) :
    (s.accept op cls p).key.holder = s.key.holder := State.of_unjudged (fun t => t.key.holder) (fun _ => rfl) (s.unjudged_accept op cls p)
@[simp] theorem State.accept_key_epoch (s : State) (op : Nat) (cls : Class) (p : Packet) :
    (s.accept op cls p).key.epoch = s.key.epoch := State.of_unjudged (fun t => t.key.epoch) (fun _ => rfl) (s.unjudged_accept op cls p)
@[simp] theorem State.accept_key_service (s : State) (op : Nat) (cls : Class) (p : Packet) :
    (s.accept op cls p).key.service = s.key.service := State.of_unjudged (fun t => t.key.service) (fun _ => rfl) (s.unjudged_accept op cls p)
@[simp] theorem State.accept_key_windowEnds (s : State) (op : Nat) (cls : Class) (p : Packet) :
    (s.accept op cls p).key.windowEnds = s.key.windowEnds := State.of_unjudged (fun t => t.key.windowEnds) (fun _ => rfl) (s.unjudged_accept op cls p)
@[simp] theorem State.accept_pair_role (s : State) (op : Nat) (cls : Class) (p : Packet) :
    (s.accept op cls p).pair.role = s.pair.role := State.of_unjudged (fun t => t.pair.role) (fun _ => rfl) (s.unjudged_accept op cls p)
@[simp] theorem State.accept_pair_synced (s : State) (op : Nat) (cls : Class) (p : Packet) :
    (s.accept op cls p).pair.synced = s.pair.synced := State.of_unjudged (fun t => t.pair.synced) (fun _ => rfl) (s.unjudged_accept op cls p)
@[simp] theorem State.accept_pair_lanes (s : State) (op : Nat) (cls : Class) (p : Packet) :
    (s.accept op cls p).pair.lanes = s.pair.lanes := State.of_unjudged (fun t => t.pair.lanes) (fun _ => rfl) (s.unjudged_accept op cls p)
@[simp] theorem State.accept_pair_paired (s : State) (op : Nat) (cls : Class) (p : Packet) :
    (s.accept op cls p).pair.paired = s.pair.paired := State.of_unjudged (fun t => t.pair.paired) (fun _ => rfl) (s.unjudged_accept op cls p)
@[simp] theorem State.accept_pair_peerRole (s : State) (op : Nat) (cls : Class) (p : Packet) :
    (s.accept op cls p).pair.peerRole = s.pair.peerRole := State.of_unjudged (fun t => t.pair.peerRole) (fun _ => rfl) (s.unjudged_accept op cls p)
@[simp] theorem State.accept_pair_syncing (s : State) (op : Nat) (cls : Class) (p : Packet) :
    (s.accept op cls p).pair.syncing = s.pair.syncing := State.of_unjudged (fun t => t.pair.syncing) (fun _ => rfl) (s.unjudged_accept op cls p)
@[simp] theorem State.accept_pair_fenceFrom (s : State) (op : Nat) (cls : Class) (p : Packet) :
    (s.accept op cls p).pair.fenceFrom = s.pair.fenceFrom := State.of_unjudged (fun t => t.pair.fenceFrom) (fun _ => rfl) (s.unjudged_accept op cls p)
@[simp] theorem State.accept_pair_dboltIn (s : State) (op : Nat) (cls : Class) (p : Packet) :
    (s.accept op cls p).pair.dboltIn = s.pair.dboltIn := State.of_unjudged (fun t => t.pair.dboltIn) (fun _ => rfl) (s.unjudged_accept op cls p)
@[simp] theorem State.record_now (s : State) (source inst : Nat) (data : List Byte) :
    (s.record source inst data).now = s.now := by
  unfold State.record; repeat' split
  all_goals rfl
@[simp] theorem State.accept_now (s : State) (op : Nat) (cls : Class) (p : Packet) :
    (s.accept op cls p).now = (s.seen op cls p).now := by
  unfold State.accept State.arbStep
  dsimp only
  rw [State.record_now]
  exact (State.of_unposted State.now (fun _ => rfl) (State.unposted_mirrorOn _ _)).trans rfl
@[simp] theorem State.record_arrived (s : State) (source inst : Nat) (data : List Byte) :
    (s.record source inst data).arrived = s.arrived := by
  unfold State.record; repeat' split
  all_goals rfl
@[simp] theorem State.accept_arrived (s : State) (op : Nat) (cls : Class) (p : Packet) :
    (s.accept op cls p).arrived = (s.seen op cls p).arrived := by
  unfold State.accept State.arbStep
  dsimp only
  rw [State.record_arrived]
  exact (State.of_unposted State.arrived (fun _ => rfl) (State.unposted_mirrorOn _ _)).trans rfl
@[simp] theorem State.record_running (s : State) (source inst : Nat) (data : List Byte) :
    (s.record source inst data).running = s.running := by
  unfold State.record; repeat' split
  all_goals rfl
@[simp] theorem State.accept_running (s : State) (op : Nat) (cls : Class) (p : Packet) :
    (s.accept op cls p).running = (s.seen op cls p).running := by
  unfold State.accept State.arbStep
  dsimp only
  rw [State.record_running]
  exact (State.of_unposted State.running (fun _ => rfl) (State.unposted_mirrorOn _ _)).trans rfl
@[simp] theorem State.record_key (s : State) (source inst : Nat) (data : List Byte) :
    (s.record source inst data).key = s.key := by
  unfold State.record; repeat' split
  all_goals rfl
@[simp] theorem State.accept_key (s : State) (op : Nat) (cls : Class) (p : Packet) :
    (s.accept op cls p).key = (s.seen op cls p).key := by
  unfold State.accept State.arbStep
  dsimp only
  rw [State.record_key]
  exact (State.of_unposted State.key (fun _ => rfl) (State.unposted_mirrorOn _ _)).trans rfl

@[simp] theorem State.taken_now (s : State) (op : Nat) (p : Packet) : (s.taken op p).now = s.cycleOf p := by
  show max s.now (s.cycleOf p) = s.cycleOf p
  unfold State.cycleOf
  dsimp only
  split <;> omega

@[simp] theorem State.seen_now (s : State) (op : Nat) (cls : Class) (p : Packet) : (s.seen op cls p).now = s.cycleOf p := by
  unfold State.seen
  split
  · simp
  · unfold State.renew; rw [State.closeWindow_now]; exact State.taken_now s op p

@[simp] theorem State.seen_running_observer (s : State) (op : Nat) (p : Packet) : (s.seen op .observer p).running = s.running := rfl

@[simp] theorem State.seen_key_observer (s : State) (op : Nat) (p : Packet) : (s.seen op .observer p).key = s.key := rfl

@[simp] theorem State.seen_windowOpen (s : State) (op : Nat) (cls : Class) (p : Packet) (h : cls ≠ .observer) :
    (s.seen op cls p).key.windowOpen = false := by
  unfold State.seen State.renew State.closeWindow
  simp only [h, if_false]
  split
  · rw [show (refuseClaims _ _ : State).key = _ from State.of_unposted State.key (fun _ => rfl) (unposted_refuseClaims _ _)]
  · simp_all

@[simp] theorem State.seen_imm (s : State) (op : Nat) (cls : Class) (p : Packet) (f : FieldRef) : (s.seen op cls p).imm f = s.imm f :=
  State.of_unjudged (fun t => t.imm f) (fun _ => rfl) (s.unjudged_seen op cls p)
@[simp] theorem State.seen_on (s : State) (op : Nat) (cls : Class) (p : Packet) (f : FieldRef) : (s.seen op cls p).on f = s.on f :=
  State.of_unjudged (fun t => t.on f) (fun _ => rfl) (s.unjudged_seen op cls p)
@[simp] theorem State.seen_liv (s : State) (op : Nat) (cls : Class) (p : Packet) (f : FieldRef) : (s.seen op cls p).liv f = s.liv f :=
  State.of_unjudged (fun t => t.liv f) (fun _ => rfl) (s.unjudged_seen op cls p)
@[simp] theorem State.seen_livOn (s : State) (op : Nat) (cls : Class) (p : Packet) (f : FieldRef) : (s.seen op cls p).livOn f = s.livOn f :=
  State.of_unjudged (fun t => t.livOn f) (fun _ => rfl) (s.unjudged_seen op cls p)
@[simp] theorem State.seen_reg (s : State) (op : Nat) (cls : Class) (p : Packet) (a : Nat) : (s.seen op cls p).reg a = s.reg a :=
  State.of_unjudged (fun t => t.reg a) (fun _ => rfl) (s.unjudged_seen op cls p)
@[simp] theorem State.seen_liveReg (s : State) (op : Nat) (cls : Class) (p : Packet) (a : Nat) : (s.seen op cls p).liveReg a = s.liveReg a :=
  State.of_unjudged (fun t => t.liveReg a) (fun _ => rfl) (s.unjudged_seen op cls p)
@[simp] theorem State.seen_mode (s : State) (op : Nat) (cls : Class) (p : Packet)  : (s.seen op cls p).mode = s.mode :=
  State.of_unjudged (fun t => t.mode) (fun _ => rfl) (s.unjudged_seen op cls p)
@[simp] theorem State.accept_imm (s : State) (op : Nat) (cls : Class) (p : Packet) (f : FieldRef) : (s.accept op cls p).imm f = s.imm f :=
  State.of_unjudged (fun t => t.imm f) (fun _ => rfl) (s.unjudged_accept op cls p)
@[simp] theorem State.accept_on (s : State) (op : Nat) (cls : Class) (p : Packet) (f : FieldRef) : (s.accept op cls p).on f = s.on f :=
  State.of_unjudged (fun t => t.on f) (fun _ => rfl) (s.unjudged_accept op cls p)
@[simp] theorem State.accept_liv (s : State) (op : Nat) (cls : Class) (p : Packet) (f : FieldRef) : (s.accept op cls p).liv f = s.liv f :=
  State.of_unjudged (fun t => t.liv f) (fun _ => rfl) (s.unjudged_accept op cls p)
@[simp] theorem State.accept_livOn (s : State) (op : Nat) (cls : Class) (p : Packet) (f : FieldRef) : (s.accept op cls p).livOn f = s.livOn f :=
  State.of_unjudged (fun t => t.livOn f) (fun _ => rfl) (s.unjudged_accept op cls p)
@[simp] theorem State.accept_reg (s : State) (op : Nat) (cls : Class) (p : Packet) (a : Nat) : (s.accept op cls p).reg a = s.reg a :=
  State.of_unjudged (fun t => t.reg a) (fun _ => rfl) (s.unjudged_accept op cls p)
@[simp] theorem State.accept_liveReg (s : State) (op : Nat) (cls : Class) (p : Packet) (a : Nat) : (s.accept op cls p).liveReg a = s.liveReg a :=
  State.of_unjudged (fun t => t.liveReg a) (fun _ => rfl) (s.unjudged_accept op cls p)
@[simp] theorem State.accept_mode (s : State) (op : Nat) (cls : Class) (p : Packet)  : (s.accept op cls p).mode = s.mode :=
  State.of_unjudged (fun t => t.mode) (fun _ => rfl) (s.unjudged_accept op cls p)

/-! Readings of the state that neither the renewal nor the arbiter step changes. -/

@[simp] theorem State.seen_axisBusy (s : State) (op : Nat) (cls : Class) (p : Packet) (n : Nat) :
    (s.seen op cls p).axisBusy n = s.axisBusy n :=
  State.of_unjudged (fun t => t.axisBusy n) (fun _ => rfl) (s.unjudged_seen op cls p)
@[simp] theorem State.accept_axisBusy (s : State) (op : Nat) (cls : Class) (p : Packet) (n : Nat) :
    (s.accept op cls p).axisBusy n = s.axisBusy n :=
  State.of_unjudged (fun t => t.axisBusy n) (fun _ => rfl) (s.unjudged_accept op cls p)
@[simp] theorem State.seen_members (s : State) (op : Nat) (cls : Class) (p : Packet) (g : Nat) :
    (s.seen op cls p).members g = s.members g :=
  State.of_unjudged (fun t => t.members g) (fun _ => rfl) (s.unjudged_seen op cls p)
@[simp] theorem State.accept_members (s : State) (op : Nat) (cls : Class) (p : Packet) (g : Nat) :
    (s.accept op cls p).members g = s.members g :=
  State.of_unjudged (fun t => t.members g) (fun _ => rfl) (s.unjudged_accept op cls p)
@[simp] theorem State.seen_cancelLate (s : State) (op : Nat) (cls : Class) (p : Packet) (i : Nat) :
    (s.seen op cls p).cancelLate i = s.cancelLate i :=
  State.of_unjudged (fun t => t.cancelLate i) (fun _ => rfl) (s.unjudged_seen op cls p)
@[simp] theorem State.accept_cancelLate (s : State) (op : Nat) (cls : Class) (p : Packet) (i : Nat) :
    (s.accept op cls p).cancelLate i = s.cancelLate i :=
  State.of_unjudged (fun t => t.cancelLate i) (fun _ => rfl) (s.unjudged_accept op cls p)
@[simp] theorem State.seen_destUnready (s : State) (op : Nat) (cls : Class) (p : Packet) (n : Nat) :
    (s.seen op cls p).destUnready n = s.destUnready n :=
  State.of_unjudged (fun t => t.destUnready n) (fun _ => rfl) (s.unjudged_seen op cls p)
@[simp] theorem State.accept_destUnready (s : State) (op : Nat) (cls : Class) (p : Packet) (n : Nat) :
    (s.accept op cls p).destUnready n = s.destUnready n :=
  State.of_unjudged (fun t => t.destUnready n) (fun _ => rfl) (s.unjudged_accept op cls p)
@[simp] theorem State.seen_feedsDrive (s : State) (op : Nat) (cls : Class) (p : Packet) (n : Nat) :
    (s.seen op cls p).feedsDrive n = s.feedsDrive n :=
  State.of_unjudged (fun t => t.feedsDrive n) (fun _ => rfl) (s.unjudged_seen op cls p)
@[simp] theorem State.accept_feedsDrive (s : State) (op : Nat) (cls : Class) (p : Packet) (n : Nat) :
    (s.accept op cls p).feedsDrive n = s.feedsDrive n :=
  State.of_unjudged (fun t => t.feedsDrive n) (fun _ => rfl) (s.unjudged_accept op cls p)
@[simp] theorem State.seen_runsDrive (s : State) (op : Nat) (cls : Class) (p : Packet) (n : Nat) :
    (s.seen op cls p).runsDrive n = s.runsDrive n :=
  State.of_unjudged (fun t => t.runsDrive n) (fun _ => rfl) (s.unjudged_seen op cls p)
@[simp] theorem State.accept_runsDrive (s : State) (op : Nat) (cls : Class) (p : Packet) (n : Nat) :
    (s.accept op cls p).runsDrive n = s.runsDrive n :=
  State.of_unjudged (fun t => t.runsDrive n) (fun _ => rfl) (s.unjudged_accept op cls p)
@[simp] theorem State.seen_hvSlot (s : State) (op : Nat) (cls : Class) (p : Packet) (n : Nat) :
    (s.seen op cls p).hvSlot n = s.hvSlot n :=
  State.of_unjudged (fun t => t.hvSlot n) (fun _ => rfl) (s.unjudged_seen op cls p)
@[simp] theorem State.accept_hvSlot (s : State) (op : Nat) (cls : Class) (p : Packet) (n : Nat) :
    (s.accept op cls p).hvSlot n = s.hvSlot n :=
  State.of_unjudged (fun t => t.hvSlot n) (fun _ => rfl) (s.unjudged_accept op cls p)
@[simp] theorem State.seen_inReset (s : State) (op : Nat) (cls : Class) (p : Packet) (f : Nat) :
    (s.seen op cls p).inReset f = s.inReset f :=
  State.of_unjudged (fun t => t.inReset f) (fun _ => rfl) (s.unjudged_seen op cls p)
@[simp] theorem State.accept_inReset (s : State) (op : Nat) (cls : Class) (p : Packet) (f : Nat) :
    (s.accept op cls p).inReset f = s.inReset f :=
  State.of_unjudged (fun t => t.inReset f) (fun _ => rfl) (s.unjudged_accept op cls p)
@[simp] theorem State.seen_noRise (s : State) (op : Nat) (cls : Class) (p : Packet) :
    (s.seen op cls p).noRise = s.noRise :=
  State.of_unjudged (fun t => t.noRise) (fun _ => rfl) (s.unjudged_seen op cls p)
@[simp] theorem State.accept_noRise (s : State) (op : Nat) (cls : Class) (p : Packet) :
    (s.accept op cls p).noRise = s.noRise :=
  State.of_unjudged (fun t => t.noRise) (fun _ => rfl) (s.unjudged_accept op cls p)
@[simp] theorem State.seen_gated (s : State) (op : Nat) (cls : Class) (p : Packet) :
    (s.seen op cls p).gated = s.gated :=
  State.of_unjudged (fun t => t.gated) (fun _ => rfl) (s.unjudged_seen op cls p)
@[simp] theorem State.accept_gated (s : State) (op : Nat) (cls : Class) (p : Packet) :
    (s.accept op cls p).gated = s.gated :=
  State.of_unjudged (fun t => t.gated) (fun _ => rfl) (s.unjudged_accept op cls p)
@[simp] theorem State.seen_offStation (s : State) (op : Nat) (cls : Class) (p : Packet) (f : Nat) :
    (s.seen op cls p).offStation f = s.offStation f :=
  State.of_unjudged (fun t => t.offStation f) (fun _ => rfl) (s.unjudged_seen op cls p)
@[simp] theorem State.accept_offStation (s : State) (op : Nat) (cls : Class) (p : Packet) (f : Nat) :
    (s.accept op cls p).offStation f = s.offStation f :=
  State.of_unjudged (fun t => t.offStation f) (fun _ => rfl) (s.unjudged_accept op cls p)
@[simp] theorem State.seen_needsForce (s : State) (op : Nat) (cls : Class) (p : Packet) (force : Bool) (f : Nat) :
    (s.seen op cls p).needsForce force f = s.needsForce force f :=
  State.of_unjudged (fun t => t.needsForce force f) (fun _ => rfl) (s.unjudged_seen op cls p)
@[simp] theorem State.accept_needsForce (s : State) (op : Nat) (cls : Class) (p : Packet) (force : Bool) (f : Nat) :
    (s.accept op cls p).needsForce force f = s.needsForce force f :=
  State.of_unjudged (fun t => t.needsForce force f) (fun _ => rfl) (s.unjudged_accept op cls p)
@[simp] theorem State.seen_gatedAt (s : State) (op : Nat) (cls : Class) (p : Packet) (a : Nat) :
    (s.seen op cls p).gatedAt a = s.gatedAt a :=
  State.of_unjudged (fun t => t.gatedAt a) (fun _ => rfl) (s.unjudged_seen op cls p)
@[simp] theorem State.accept_gatedAt (s : State) (op : Nat) (cls : Class) (p : Packet) (a : Nat) :
    (s.accept op cls p).gatedAt a = s.gatedAt a :=
  State.of_unjudged (fun t => t.gatedAt a) (fun _ => rfl) (s.unjudged_accept op cls p)
@[simp] theorem State.seen_slotBusy (s : State) (op : Nat) (cls : Class) (p : Packet) (n : Nat) (slot : Nat) :
    (s.seen op cls p).slotBusy n slot = s.slotBusy n slot :=
  State.of_unjudged (fun t => t.slotBusy n slot) (fun _ => rfl) (s.unjudged_seen op cls p)
@[simp] theorem State.accept_slotBusy (s : State) (op : Nat) (cls : Class) (p : Packet) (n : Nat) (slot : Nat) :
    (s.accept op cls p).slotBusy n slot = s.slotBusy n slot :=
  State.of_unjudged (fun t => t.slotBusy n slot) (fun _ => rfl) (s.unjudged_accept op cls p)
@[simp] theorem State.seen_slotOf (s : State) (op : Nat) (cls : Class) (p : Packet) (i : Nat) :
    (s.seen op cls p).slotOf i = s.slotOf i :=
  State.of_unjudged (fun t => t.slotOf i) (fun _ => rfl) (s.unjudged_seen op cls p)
@[simp] theorem State.accept_slotOf (s : State) (op : Nat) (cls : Class) (p : Packet) (i : Nat) :
    (s.accept op cls p).slotOf i = s.slotOf i :=
  State.of_unjudged (fun t => t.slotOf i) (fun _ => rfl) (s.unjudged_accept op cls p)
@[simp] theorem State.seen_sheet (s : State) (op : Nat) (cls : Class) (p : Packet) (i : Nat) :
    (s.seen op cls p).sheet? i = s.sheet? i :=
  State.of_unjudged (fun t => t.sheet? i) (fun _ => rfl) (s.unjudged_seen op cls p)
@[simp] theorem State.accept_sheet (s : State) (op : Nat) (cls : Class) (p : Packet) (i : Nat) :
    (s.accept op cls p).sheet? i = s.sheet? i :=
  State.of_unjudged (fun t => t.sheet? i) (fun _ => rfl) (s.unjudged_accept op cls p)
@[simp] theorem State.seen_stationsReady (s : State) (op : Nat) (cls : Class) (p : Packet) (m : Nat) :
    (s.seen op cls p).stationsReady m = s.stationsReady m :=
  State.of_unjudged (fun t => t.stationsReady m) (fun _ => rfl) (s.unjudged_seen op cls p)
@[simp] theorem State.accept_stationsReady (s : State) (op : Nat) (cls : Class) (p : Packet) (m : Nat) :
    (s.accept op cls p).stationsReady m = s.stationsReady m :=
  State.of_unjudged (fun t => t.stationsReady m) (fun _ => rfl) (s.unjudged_accept op cls p)
@[simp] theorem State.seen_shadowThere (s : State) (op : Nat) (cls : Class) (p : Packet) :
    (s.seen op cls p).shadowThere = s.shadowThere :=
  State.of_unjudged (fun t => t.shadowThere) (fun _ => rfl) (s.unjudged_seen op cls p)
@[simp] theorem State.accept_shadowThere (s : State) (op : Nat) (cls : Class) (p : Packet) :
    (s.accept op cls p).shadowThere = s.shadowThere :=
  State.of_unjudged (fun t => t.shadowThere) (fun _ => rfl) (s.unjudged_accept op cls p)
@[simp] theorem State.seen_supplyLow (s : State) (op : Nat) (cls : Class) (p : Packet) :
    (s.seen op cls p).supplyLow = s.supplyLow :=
  State.of_unjudged (fun t => t.supplyLow) (fun _ => rfl) (s.unjudged_seen op cls p)
@[simp] theorem State.accept_supplyLow (s : State) (op : Nat) (cls : Class) (p : Packet) :
    (s.accept op cls p).supplyLow = s.supplyLow :=
  State.of_unjudged (fun t => t.supplyLow) (fun _ => rfl) (s.unjudged_accept op cls p)
@[simp] theorem State.seen_regionGood (s : State) (op : Nat) (cls : Class) (p : Packet) (r : Nat) :
    (s.seen op cls p).regionGood r = s.regionGood r :=
  State.of_unjudged (fun t => t.regionGood r) (fun _ => rfl) (s.unjudged_seen op cls p)
@[simp] theorem State.accept_regionGood (s : State) (op : Nat) (cls : Class) (p : Packet) (r : Nat) :
    (s.accept op cls p).regionGood r = s.regionGood r :=
  State.of_unjudged (fun t => t.regionGood r) (fun _ => rfl) (s.unjudged_accept op cls p)
@[simp] theorem State.seen_runs (s : State) (op : Nat) (cls : Class) (p : Packet) (n : Nat) :
    (s.seen op cls p).running? n = s.running? n :=
  State.of_unjudged (fun t => t.running? n) (fun _ => rfl) (s.unjudged_seen op cls p)
@[simp] theorem State.accept_runs (s : State) (op : Nat) (cls : Class) (p : Packet) (n : Nat) :
    (s.accept op cls p).running? n = s.running? n :=
  State.of_unjudged (fun t => t.running? n) (fun _ => rfl) (s.unjudged_accept op cls p)
@[simp] theorem State.seen_master (s : State) (op : Nat) (cls : Class) (p : Packet) :
    (s.seen op cls p).master = s.master :=
  State.of_unjudged (fun t => t.master) (fun _ => rfl) (s.unjudged_seen op cls p)
@[simp] theorem State.accept_master (s : State) (op : Nat) (cls : Class) (p : Packet) :
    (s.accept op cls p).master = s.master :=
  State.of_unjudged (fun t => t.master) (fun _ => rfl) (s.unjudged_accept op cls p)
@[simp] theorem State.seen_entriesHeld (s : State) (op : Nat) (cls : Class) (p : Packet) :
    (s.seen op cls p).entriesHeld = s.entriesHeld :=
  State.of_unjudged (fun t => t.entriesHeld) (fun _ => rfl) (s.unjudged_seen op cls p)
@[simp] theorem State.accept_entriesHeld (s : State) (op : Nat) (cls : Class) (p : Packet) :
    (s.accept op cls p).entriesHeld = s.entriesHeld :=
  State.of_unjudged (fun t => t.entriesHeld) (fun _ => rfl) (s.unjudged_accept op cls p)
@[simp] theorem State.seen_fitsPitch (s : State) (op : Nat) (cls : Class) (p : Packet) (m : Nat) (b : (List Band)) :
    (s.seen op cls p).fitsPitch m b = s.fitsPitch m b :=
  State.of_unjudged (fun t => t.fitsPitch m b) (fun _ => rfl) (s.unjudged_seen op cls p)
@[simp] theorem State.accept_fitsPitch (s : State) (op : Nat) (cls : Class) (p : Packet) (m : Nat) (b : (List Band)) :
    (s.accept op cls p).fitsPitch m b = s.fitsPitch m b :=
  State.of_unjudged (fun t => t.fitsPitch m b) (fun _ => rfl) (s.unjudged_accept op cls p)
@[simp] theorem State.seen_indexOk (s : State) (op : Nat) (cls : Class) (p : Packet) (q : Packet) :
    (s.seen op cls p).indexOk q = s.indexOk q :=
  State.of_unjudged (fun t => t.indexOk q) (fun _ => rfl) (s.unjudged_seen op cls p)
@[simp] theorem State.accept_indexOk (s : State) (op : Nat) (cls : Class) (p : Packet) (q : Packet) :
    (s.accept op cls p).indexOk q = s.indexOk q :=
  State.of_unjudged (fun t => t.indexOk q) (fun _ => rfl) (s.unjudged_accept op cls p)
@[simp] theorem State.seen_requestedMiB (s : State) (op : Nat) (cls : Class) (p : Packet) :
    (s.seen op cls p).requestedMiB = s.requestedMiB :=
  State.of_unjudged (fun t => t.requestedMiB) (fun _ => rfl) (s.unjudged_seen op cls p)
@[simp] theorem State.accept_requestedMiB (s : State) (op : Nat) (cls : Class) (p : Packet) :
    (s.accept op cls p).requestedMiB = s.requestedMiB :=
  State.of_unjudged (fun t => t.requestedMiB) (fun _ => rfl) (s.unjudged_accept op cls p)
@[simp] theorem State.seen_slotsWhere (s : State) (op : Nat) (cls : Class) (p : Packet) (f : (Sheet→Bool)) :
    (s.seen op cls p).slotsWhere f = s.slotsWhere f :=
  State.of_unjudged (fun t => t.slotsWhere f) (fun _ => rfl) (s.unjudged_seen op cls p)
@[simp] theorem State.accept_slotsWhere (s : State) (op : Nat) (cls : Class) (p : Packet) (f : (Sheet→Bool)) :
    (s.accept op cls p).slotsWhere f = s.slotsWhere f :=
  State.of_unjudged (fun t => t.slotsWhere f) (fun _ => rfl) (s.unjudged_accept op cls p)
@[simp] theorem State.seen_trimUnreadable (s : State) (op : Nat) (cls : Class) (p : Packet) :
    (s.seen op cls p).trimUnreadable = s.trimUnreadable :=
  State.of_unjudged (fun t => t.trimUnreadable) (fun _ => rfl) (s.unjudged_seen op cls p)
@[simp] theorem State.accept_trimUnreadable (s : State) (op : Nat) (cls : Class) (p : Packet) :
    (s.accept op cls p).trimUnreadable = s.trimUnreadable :=
  State.of_unjudged (fun t => t.trimUnreadable) (fun _ => rfl) (s.unjudged_accept op cls p)
@[simp] theorem State.seen_plansUnreadable (s : State) (op : Nat) (cls : Class) (p : Packet) (m : Nat) :
    (s.seen op cls p).plansUnreadable m = s.plansUnreadable m :=
  State.of_unjudged (fun t => t.plansUnreadable m) (fun _ => rfl) (s.unjudged_seen op cls p)
@[simp] theorem State.accept_plansUnreadable (s : State) (op : Nat) (cls : Class) (p : Packet) (m : Nat) :
    (s.accept op cls p).plansUnreadable m = s.plansUnreadable m :=
  State.of_unjudged (fun t => t.plansUnreadable m) (fun _ => rfl) (s.unjudged_accept op cls p)
@[simp] theorem State.seen_planUnreadable (s : State) (op : Nat) (cls : Class) (p : Packet) (n : Nat) (slot : Nat) :
    (s.seen op cls p).planUnreadable n slot = s.planUnreadable n slot :=
  State.of_unjudged (fun t => t.planUnreadable n slot) (fun _ => rfl) (s.unjudged_seen op cls p)
@[simp] theorem State.accept_planUnreadable (s : State) (op : Nat) (cls : Class) (p : Packet) (n : Nat) (slot : Nat) :
    (s.accept op cls p).planUnreadable n slot = s.planUnreadable n slot :=
  State.of_unjudged (fun t => t.planUnreadable n slot) (fun _ => rfl) (s.unjudged_accept op cls p)
@[simp] theorem State.seen_switchBad (s : State) (op : Nat) (cls : Class) (p : Packet) (n : Nat) :
    (s.seen op cls p).switchBad n = s.switchBad n :=
  State.of_unjudged (fun t => t.switchBad n) (fun _ => rfl) (s.unjudged_seen op cls p)
@[simp] theorem State.accept_switchBad (s : State) (op : Nat) (cls : Class) (p : Packet) (n : Nat) :
    (s.accept op cls p).switchBad n = s.switchBad n :=
  State.of_unjudged (fun t => t.switchBad n) (fun _ => rfl) (s.unjudged_accept op cls p)
@[simp] theorem State.seen_storeCopy (s : State) (op : Nat) (cls : Class) (p : Packet) (a : Nat) (b : Nat) :
    (s.seen op cls p).storeCopy a b = s.storeCopy a b :=
  State.of_unjudged (fun t => t.storeCopy a b) (fun _ => rfl) (s.unjudged_seen op cls p)
@[simp] theorem State.accept_storeCopy (s : State) (op : Nat) (cls : Class) (p : Packet) (a : Nat) (b : Nat) :
    (s.accept op cls p).storeCopy a b = s.storeCopy a b :=
  State.of_unjudged (fun t => t.storeCopy a b) (fun _ => rfl) (s.unjudged_accept op cls p)
@[simp] theorem State.seen_station (s : State) (op : Nat) (cls : Class) (p : Packet) (n : Nat) :
    (s.seen op cls p).station n = s.station n :=
  State.of_unjudged (fun t => t.station n) (fun _ => rfl) (s.unjudged_seen op cls p)
@[simp] theorem State.accept_station (s : State) (op : Nat) (cls : Class) (p : Packet) (n : Nat) :
    (s.accept op cls p).station n = s.station n :=
  State.of_unjudged (fun t => t.station n) (fun _ => rfl) (s.unjudged_accept op cls p)
@[simp] theorem State.seen_drive (s : State) (op : Nat) (cls : Class) (p : Packet) (n : Nat) :
    (s.seen op cls p).drive n = s.drive n :=
  State.of_unjudged (fun t => t.drive n) (fun _ => rfl) (s.unjudged_seen op cls p)
@[simp] theorem State.accept_drive (s : State) (op : Nat) (cls : Class) (p : Packet) (n : Nat) :
    (s.accept op cls p).drive n = s.drive n :=
  State.of_unjudged (fun t => t.drive n) (fun _ => rfl) (s.unjudged_accept op cls p)
@[simp] theorem State.seen_axis (s : State) (op : Nat) (cls : Class) (p : Packet) (n : Nat) :
    (s.seen op cls p).axis n = s.axis n :=
  State.of_unjudged (fun t => t.axis n) (fun _ => rfl) (s.unjudged_seen op cls p)
@[simp] theorem State.accept_axis (s : State) (op : Nat) (cls : Class) (p : Packet) (n : Nat) :
    (s.accept op cls p).axis n = s.axis n :=
  State.of_unjudged (fun t => t.axis n) (fun _ => rfl) (s.unjudged_accept op cls p)
@[simp] theorem State.seen_loop (s : State) (op : Nat) (cls : Class) (p : Packet) (n : Nat) :
    (s.seen op cls p).loop n = s.loop n :=
  State.of_unjudged (fun t => t.loop n) (fun _ => rfl) (s.unjudged_seen op cls p)
@[simp] theorem State.accept_loop (s : State) (op : Nat) (cls : Class) (p : Packet) (n : Nat) :
    (s.accept op cls p).loop n = s.loop n :=
  State.of_unjudged (fun t => t.loop n) (fun _ => rfl) (s.unjudged_accept op cls p)
@[simp] theorem State.seen_hvCh (s : State) (op : Nat) (cls : Class) (p : Packet) (n : Nat) :
    (s.seen op cls p).hvCh n = s.hvCh n :=
  State.of_unjudged (fun t => t.hvCh n) (fun _ => rfl) (s.unjudged_seen op cls p)
@[simp] theorem State.accept_hvCh (s : State) (op : Nat) (cls : Class) (p : Packet) (n : Nat) :
    (s.accept op cls p).hvCh n = s.hvCh n :=
  State.of_unjudged (fun t => t.hvCh n) (fun _ => rfl) (s.unjudged_accept op cls p)
@[simp] theorem State.seen_zone (s : State) (op : Nat) (cls : Class) (p : Packet) (n : Nat) :
    (s.seen op cls p).zone n = s.zone n :=
  State.of_unjudged (fun t => t.zone n) (fun _ => rfl) (s.unjudged_seen op cls p)
@[simp] theorem State.accept_zone (s : State) (op : Nat) (cls : Class) (p : Packet) (n : Nat) :
    (s.accept op cls p).zone n = s.zone n :=
  State.of_unjudged (fun t => t.zone n) (fun _ => rfl) (s.unjudged_accept op cls p)
@[simp] theorem State.seen_scan (s : State) (op : Nat) (cls : Class) (p : Packet) (n : Nat) :
    (s.seen op cls p).scan n = s.scan n :=
  State.of_unjudged (fun t => t.scan n) (fun _ => rfl) (s.unjudged_seen op cls p)
@[simp] theorem State.accept_scan (s : State) (op : Nat) (cls : Class) (p : Packet) (n : Nat) :
    (s.accept op cls p).scan n = s.scan n :=
  State.of_unjudged (fun t => t.scan n) (fun _ => rfl) (s.unjudged_accept op cls p)
@[simp] theorem State.seen_pll (s : State) (op : Nat) (cls : Class) (p : Packet) (n : Nat) :
    (s.seen op cls p).pll n = s.pll n :=
  State.of_unjudged (fun t => t.pll n) (fun _ => rfl) (s.unjudged_seen op cls p)
@[simp] theorem State.accept_pll (s : State) (op : Nat) (cls : Class) (p : Packet) (n : Nat) :
    (s.accept op cls p).pll n = s.pll n :=
  State.of_unjudged (fun t => t.pll n) (fun _ => rfl) (s.unjudged_accept op cls p)
@[simp] theorem State.seen_pipe (s : State) (op : Nat) (cls : Class) (p : Packet) (n : Nat) :
    (s.seen op cls p).pipe n = s.pipe n :=
  State.of_unjudged (fun t => t.pipe n) (fun _ => rfl) (s.unjudged_seen op cls p)
@[simp] theorem State.accept_pipe (s : State) (op : Nat) (cls : Class) (p : Packet) (n : Nat) :
    (s.accept op cls p).pipe n = s.pipe n :=
  State.of_unjudged (fun t => t.pipe n) (fun _ => rfl) (s.unjudged_accept op cls p)
@[simp] theorem State.seen_plans (s : State) (op : Nat) (cls : Class) (p : Packet) (n : Nat) :
    (s.seen op cls p).plans n = s.plans n :=
  State.of_unjudged (fun t => t.plans n) (fun _ => rfl) (s.unjudged_seen op cls p)
@[simp] theorem State.accept_plans (s : State) (op : Nat) (cls : Class) (p : Packet) (n : Nat) :
    (s.accept op cls p).plans n = s.plans n :=
  State.of_unjudged (fun t => t.plans n) (fun _ => rfl) (s.unjudged_accept op cls p)
@[simp] theorem State.seen_link (s : State) (op : Nat) (cls : Class) (p : Packet) (n : Nat) :
    (s.seen op cls p).link n = s.link n :=
  State.of_unjudged (fun t => t.link n) (fun _ => rfl) (s.unjudged_seen op cls p)
@[simp] theorem State.accept_link (s : State) (op : Nat) (cls : Class) (p : Packet) (n : Nat) :
    (s.accept op cls p).link n = s.link n :=
  State.of_unjudged (fun t => t.link n) (fun _ => rfl) (s.unjudged_accept op cls p)
@[simp] theorem State.seen_channel (s : State) (op : Nat) (cls : Class) (p : Packet) (n : Nat) :
    (s.seen op cls p).channel n = s.channel n :=
  State.of_unjudged (fun t => t.channel n) (fun _ => rfl) (s.unjudged_seen op cls p)
@[simp] theorem State.accept_channel (s : State) (op : Nat) (cls : Class) (p : Packet) (n : Nat) :
    (s.accept op cls p).channel n = s.channel n :=
  State.of_unjudged (fun t => t.channel n) (fun _ => rfl) (s.unjudged_accept op cls p)
@[simp] theorem State.seen_bank (s : State) (op : Nat) (cls : Class) (p : Packet) (n : Nat) :
    (s.seen op cls p).bank n = s.bank n :=
  State.of_unjudged (fun t => t.bank n) (fun _ => rfl) (s.unjudged_seen op cls p)
@[simp] theorem State.accept_bank (s : State) (op : Nat) (cls : Class) (p : Packet) (n : Nat) :
    (s.accept op cls p).bank n = s.bank n :=
  State.of_unjudged (fun t => t.bank n) (fun _ => rfl) (s.unjudged_accept op cls p)
@[simp] theorem State.seen_group (s : State) (op : Nat) (cls : Class) (p : Packet) (n : Nat) :
    (s.seen op cls p).group n = s.group n :=
  State.of_unjudged (fun t => t.group n) (fun _ => rfl) (s.unjudged_seen op cls p)
@[simp] theorem State.accept_group (s : State) (op : Nat) (cls : Class) (p : Packet) (n : Nat) :
    (s.accept op cls p).group n = s.group n :=
  State.of_unjudged (fun t => t.group n) (fun _ => rfl) (s.unjudged_accept op cls p)
@[simp] theorem State.seen_queueType (s : State) (op : Nat) (cls : Class) (p : Packet) (q : Nat) :
    (s.seen op cls p).queueType q = s.queueType q :=
  State.of_unjudged (fun t => t.queueType q) (fun _ => rfl) (s.unjudged_seen op cls p)
@[simp] theorem State.accept_queueType (s : State) (op : Nat) (cls : Class) (p : Packet) (q : Nat) :
    (s.accept op cls p).queueType q = s.queueType q :=
  State.of_unjudged (fun t => t.queueType q) (fun _ => rfl) (s.unjudged_accept op cls p)
@[simp] theorem State.seen_fuseValue (s : State) (op : Nat) (cls : Class) (p : Packet) (a : Nat) (b : Nat) :
    (s.seen op cls p).fuseValue a b = s.fuseValue a b :=
  State.of_unjudged (fun t => t.fuseValue a b) (fun _ => rfl) (s.unjudged_seen op cls p)
@[simp] theorem State.accept_fuseValue (s : State) (op : Nat) (cls : Class) (p : Packet) (a : Nat) (b : Nat) :
    (s.accept op cls p).fuseValue a b = s.fuseValue a b :=
  State.of_unjudged (fun t => t.fuseValue a b) (fun _ => rfl) (s.unjudged_accept op cls p)
@[simp] theorem State.seen_slotsLeft (s : State) (op : Nat) (cls : Class) (p : Packet) (a : Nat) (b : Nat) :
    (s.seen op cls p).slotsLeft a b = s.slotsLeft a b :=
  State.of_unjudged (fun t => t.slotsLeft a b) (fun _ => rfl) (s.unjudged_seen op cls p)
@[simp] theorem State.accept_slotsLeft (s : State) (op : Nat) (cls : Class) (p : Packet) (a : Nat) (b : Nat) :
    (s.accept op cls p).slotsLeft a b = s.slotsLeft a b :=
  State.of_unjudged (fun t => t.slotsLeft a b) (fun _ => rfl) (s.unjudged_accept op cls p)
@[simp] theorem State.seen_failingTrim (s : State) (op : Nat) (cls : Class) (p : Packet) (n : Nat) (e : Nat) :
    (s.seen op cls p).failingTrim n e = s.failingTrim n e :=
  State.of_unjudged (fun t => t.failingTrim n e) (fun _ => rfl) (s.unjudged_seen op cls p)
@[simp] theorem State.accept_failingTrim (s : State) (op : Nat) (cls : Class) (p : Packet) (n : Nat) (e : Nat) :
    (s.accept op cls p).failingTrim n e = s.failingTrim n e :=
  State.of_unjudged (fun t => t.failingTrim n e) (fun _ => rfl) (s.unjudged_accept op cls p)
@[simp] theorem State.seen_failingIn (s : State) (op : Nat) (cls : Class) (p : Packet) (a : Nat) (b : Nat) :
    (s.seen op cls p).failingIn a b = s.failingIn a b :=
  State.of_unjudged (fun t => t.failingIn a b) (fun _ => rfl) (s.unjudged_seen op cls p)
@[simp] theorem State.accept_failingIn (s : State) (op : Nat) (cls : Class) (p : Packet) (a : Nat) (b : Nat) :
    (s.accept op cls p).failingIn a b = s.failingIn a b :=
  State.of_unjudged (fun t => t.failingIn a b) (fun _ => rfl) (s.unjudged_accept op cls p)
@[simp] theorem State.seen_acting (s : State) (op : Nat) (cls : Class) (p : Packet) (k : Nat) :
    (s.seen op cls p).acting k = s.acting k :=
  State.of_unjudged (fun t => t.acting k) (fun _ => rfl) (s.unjudged_seen op cls p)
@[simp] theorem State.accept_acting (s : State) (op : Nat) (cls : Class) (p : Packet) (k : Nat) :
    (s.accept op cls p).acting k = s.acting k :=
  State.of_unjudged (fun t => t.acting k) (fun _ => rfl) (s.unjudged_accept op cls p)
@[simp] theorem State.seen_freeSlot (s : State) (op : Nat) (cls : Class) (p : Packet) :
    (s.seen op cls p).freeSlot = s.freeSlot :=
  State.of_unjudged (fun t => t.freeSlot) (fun _ => rfl) (s.unjudged_seen op cls p)
@[simp] theorem State.accept_freeSlot (s : State) (op : Nat) (cls : Class) (p : Packet) :
    (s.accept op cls p).freeSlot = s.freeSlot :=
  State.of_unjudged (fun t => t.freeSlot) (fun _ => rfl) (s.unjudged_accept op cls p)
@[simp] theorem State.seen_zoneUnslotted (s : State) (op : Nat) (cls : Class) (p : Packet) (m : Nat) :
    (s.seen op cls p).zoneUnslotted m = s.zoneUnslotted m :=
  State.of_unjudged (fun t => t.zoneUnslotted m) (fun _ => rfl) (s.unjudged_seen op cls p)
@[simp] theorem State.accept_zoneUnslotted (s : State) (op : Nat) (cls : Class) (p : Packet) (m : Nat) :
    (s.accept op cls p).zoneUnslotted m = s.zoneUnslotted m :=
  State.of_unjudged (fun t => t.zoneUnslotted m) (fun _ => rfl) (s.unjudged_accept op cls p)
@[simp] theorem State.seen_dormantBad (s : State) (op : Nat) (cls : Class) (p : Packet) :
    (s.seen op cls p).dormantBad = s.dormantBad :=
  State.of_unjudged (fun t => t.dormantBad) (fun _ => rfl) (s.unjudged_seen op cls p)
@[simp] theorem State.accept_dormantBad (s : State) (op : Nat) (cls : Class) (p : Packet) :
    (s.accept op cls p).dormantBad = s.dormantBad :=
  State.of_unjudged (fun t => t.dormantBad) (fun _ => rfl) (s.unjudged_accept op cls p)
@[simp] theorem State.seen_serviceBad (s : State) (op : Nat) (cls : Class) (p : Packet) :
    (s.seen op cls p).serviceBad = s.serviceBad :=
  State.of_unjudged (fun t => t.serviceBad) (fun _ => rfl) (s.unjudged_seen op cls p)
@[simp] theorem State.accept_serviceBad (s : State) (op : Nat) (cls : Class) (p : Packet) :
    (s.accept op cls p).serviceBad = s.serviceBad :=
  State.of_unjudged (fun t => t.serviceBad) (fun _ => rfl) (s.unjudged_accept op cls p)
@[simp] theorem State.seen_setInForce (s : State) (op : Nat) (cls : Class) (p : Packet) (w : Nat) :
    (s.seen op cls p).setInForce w = s.setInForce w :=
  State.of_unjudged (fun t => t.setInForce w) (fun _ => rfl) (s.unjudged_seen op cls p)
@[simp] theorem State.accept_setInForce (s : State) (op : Nat) (cls : Class) (p : Packet) (w : Nat) :
    (s.accept op cls p).setInForce w = s.setInForce w :=
  State.of_unjudged (fun t => t.setInForce w) (fun _ => rfl) (s.unjudged_accept op cls p)
@[simp] theorem State.seen_mirrors (s : State) (op : Nat) (cls : Class) (p : Packet) :
    (s.seen op cls p).mirrors = s.mirrors :=
  State.of_unjudged (fun t => t.mirrors) (fun _ => rfl) (s.unjudged_seen op cls p)
@[simp] theorem State.accept_mirrors (s : State) (op : Nat) (cls : Class) (p : Packet) :
    (s.accept op cls p).mirrors = s.mirrors :=
  State.of_unjudged (fun t => t.mirrors) (fun _ => rfl) (s.unjudged_accept op cls p)
@[simp] theorem State.seen_syncedLead (s : State) (op : Nat) (cls : Class) (p : Packet) :
    (s.seen op cls p).syncedLead = s.syncedLead :=
  State.of_unjudged (fun t => t.syncedLead) (fun _ => rfl) (s.unjudged_seen op cls p)
@[simp] theorem State.accept_syncedLead (s : State) (op : Nat) (cls : Class) (p : Packet) :
    (s.accept op cls p).syncedLead = s.syncedLead :=
  State.of_unjudged (fun t => t.syncedLead) (fun _ => rfl) (s.unjudged_accept op cls p)
@[simp] theorem State.seen_linked (s : State) (op : Nat) (cls : Class) (p : Packet) :
    (s.seen op cls p).linked = s.linked :=
  State.of_unjudged (fun t => t.linked) (fun _ => rfl) (s.unjudged_seen op cls p)
@[simp] theorem State.accept_linked (s : State) (op : Nat) (cls : Class) (p : Packet) :
    (s.accept op cls p).linked = s.linked :=
  State.of_unjudged (fun t => t.linked) (fun _ => rfl) (s.unjudged_accept op cls p)
@[simp] theorem State.seen_planSlot (s : State) (op : Nat) (cls : Class) (p : Packet) (n : Nat) (i : Nat) :
    (s.seen op cls p).planSlot n i = s.planSlot n i :=
  State.of_unjudged (fun t => t.planSlot n i) (fun _ => rfl) (s.unjudged_seen op cls p)
@[simp] theorem State.accept_planSlot (s : State) (op : Nat) (cls : Class) (p : Packet) (n : Nat) (i : Nat) :
    (s.accept op cls p).planSlot n i = s.planSlot n i :=
  State.of_unjudged (fun t => t.planSlot n i) (fun _ => rfl) (s.unjudged_accept op cls p)
@[simp] theorem State.seen_latched (s : State) (op : Nat) (cls : Class) (p : Packet) (c : Nat) :
    (s.seen op cls p).latched c = s.latched c :=
  State.of_unjudged (fun t => t.latched c) (fun _ => rfl) (s.unjudged_seen op cls p)
@[simp] theorem State.accept_latched (s : State) (op : Nat) (cls : Class) (p : Packet) (c : Nat) :
    (s.accept op cls p).latched c = s.latched c :=
  State.of_unjudged (fun t => t.latched c) (fun _ => rfl) (s.unjudged_accept op cls p)
@[simp] theorem State.seen_firstApply (s : State) (op : Nat) (cls : Class) (p : Packet) (g : Nat) (i : Nat) :
    (s.seen op cls p).firstApply g i = s.firstApply g i :=
  State.of_unjudged (fun t => t.firstApply g i) (fun _ => rfl) (s.unjudged_seen op cls p)
@[simp] theorem State.accept_firstApply (s : State) (op : Nat) (cls : Class) (p : Packet) (g : Nat) (i : Nat) :
    (s.accept op cls p).firstApply g i = s.firstApply g i :=
  State.of_unjudged (fun t => t.firstApply g i) (fun _ => rfl) (s.unjudged_accept op cls p)
@[simp] theorem State.seen_pathOwned (s : State) (op : Nat) (cls : Class) (p : Packet) (n : Nat) :
    (s.seen op cls p).pathOwned n = s.pathOwned n :=
  State.of_unjudged (fun t => t.pathOwned n) (fun _ => rfl) (s.unjudged_seen op cls p)
@[simp] theorem State.accept_pathOwned (s : State) (op : Nat) (cls : Class) (p : Packet) (n : Nat) :
    (s.accept op cls p).pathOwned n = s.pathOwned n :=
  State.of_unjudged (fun t => t.pathOwned n) (fun _ => rfl) (s.unjudged_accept op cls p)
@[simp] theorem State.seen_loopOutput (s : State) (op : Nat) (cls : Class) (p : Packet) (n k : Nat) :
    (s.seen op cls p).loopOutput n k = s.loopOutput n k :=
  State.of_unjudged (fun t => t.loopOutput n k) (fun _ => rfl) (s.unjudged_seen op cls p)
@[simp] theorem State.accept_loopOutput (s : State) (op : Nat) (cls : Class) (p : Packet) (n k : Nat) :
    (s.accept op cls p).loopOutput n k = s.loopOutput n k :=
  State.of_unjudged (fun t => t.loopOutput n k) (fun _ => rfl) (s.unjudged_accept op cls p)
@[simp] theorem State.seen_slotFor (s : State) (op : Nat) (cls : Class) (p : Packet) (k i : Nat) :
    (s.seen op cls p).slotFor k i = s.slotFor k i :=
  State.of_unjudged (fun t => t.slotFor k i) (fun _ => rfl) (s.unjudged_seen op cls p)
@[simp] theorem State.accept_slotFor (s : State) (op : Nat) (cls : Class) (p : Packet) (k i : Nat) :
    (s.accept op cls p).slotFor k i = s.slotFor k i :=
  State.of_unjudged (fun t => t.slotFor k i) (fun _ => rfl) (s.unjudged_accept op cls p)
@[simp] theorem State.seen_destOn (s : State) (op : Nat) (cls : Class) (p : Packet) (d : Nat × Nat) :
    (s.seen op cls p).destOn d = s.destOn d :=
  State.of_unjudged (fun t => t.destOn d) (fun _ => rfl) (s.unjudged_seen op cls p)
@[simp] theorem State.accept_destOn (s : State) (op : Nat) (cls : Class) (p : Packet) (d : Nat × Nat) :
    (s.accept op cls p).destOn d = s.destOn d :=
  State.of_unjudged (fun t => t.destOn d) (fun _ => rfl) (s.unjudged_accept op cls p)
@[simp] theorem State.seen_gatedPos (s : State) (op : Nat) (cls : Class) (p : Packet) (q : Pos) :
    (s.seen op cls p).gatedPos q = s.gatedPos q :=
  State.of_unjudged (fun t => t.gatedPos q) (fun _ => rfl) (s.unjudged_seen op cls p)
@[simp] theorem State.accept_gatedPos (s : State) (op : Nat) (cls : Class) (p : Packet) (q : Pos) :
    (s.accept op cls p).gatedPos q = s.gatedPos q :=
  State.of_unjudged (fun t => t.gatedPos q) (fun _ => rfl) (s.unjudged_accept op cls p)
@[simp] theorem State.seen_fuseOf (s : State) (op : Nat) (cls : Class) (p : Packet) (a b : Nat) :
    (s.seen op cls p).fuseOf a b = s.fuseOf a b :=
  State.of_unjudged (fun t => t.fuseOf a b) (fun _ => rfl) (s.unjudged_seen op cls p)
@[simp] theorem State.accept_fuseOf (s : State) (op : Nat) (cls : Class) (p : Packet) (a b : Nat) :
    (s.accept op cls p).fuseOf a b = s.fuseOf a b :=
  State.of_unjudged (fun t => t.fuseOf a b) (fun _ => rfl) (s.unjudged_accept op cls p)
@[simp] theorem State.seen_nextSlot (s : State) (op : Nat) (cls : Class) (p : Packet) (a b : Nat) :
    (s.seen op cls p).nextSlot a b = s.nextSlot a b :=
  State.of_unjudged (fun t => t.nextSlot a b) (fun _ => rfl) (s.unjudged_seen op cls p)
@[simp] theorem State.accept_nextSlot (s : State) (op : Nat) (cls : Class) (p : Packet) (a b : Nat) :
    (s.accept op cls p).nextSlot a b = s.nextSlot a b :=
  State.of_unjudged (fun t => t.nextSlot a b) (fun _ => rfl) (s.unjudged_accept op cls p)
@[simp] theorem State.seen_storedPlan (s : State) (op : Nat) (cls : Class) (p : Packet) (e : Nat) :
    (s.seen op cls p).storedPlan e = s.storedPlan e :=
  State.of_unjudged (fun t => t.storedPlan e) (fun _ => rfl) (s.unjudged_seen op cls p)
@[simp] theorem State.accept_storedPlan (s : State) (op : Nat) (cls : Class) (p : Packet) (e : Nat) :
    (s.accept op cls p).storedPlan e = s.storedPlan e :=
  State.of_unjudged (fun t => t.storedPlan e) (fun _ => rfl) (s.unjudged_accept op cls p)
@[simp] theorem State.seen_tracing (s : State) (op : Nat) (cls : Class) (p : Packet) :
    (s.seen op cls p).trace.running = s.trace.running :=
  State.of_unjudged (fun t => t.trace.running) (fun _ => rfl) (s.unjudged_seen op cls p)

/-! Accepted, refused, kept. -/

@[simp] theorem State.asCmd_p (s : State) (op : Nat) (p : Packet) : (s.asCmd op p).p = p := rfl
@[simp] theorem State.asCmd_op (s : State) (op : Nat) (p : Packet) : (s.asCmd op p).op = op := rfl
@[simp] theorem State.asCmd_seq (s : State) (op : Nat) (p : Packet) : (s.asCmd op p).seq = s.arbSeq := rfl

@[simp] theorem State.taken_pairWork (s : State) (op : Nat) (p : Packet) : (s.taken op p).pairWork = s.pairWork := rfl
@[simp] theorem State.taken_pair (s : State) (op : Nat) (p : Packet) : (s.taken op p).pair = s.pair := rfl
@[simp] theorem State.taken_arbSeq (s : State) (op : Nat) (p : Packet) : (s.taken op p).arbSeq = s.arbSeq := rfl
@[simp] theorem State.taken_key (s : State) (op : Nat) (p : Packet) : (s.taken op p).key = s.key := rfl
@[simp] theorem State.taken_access (s : State) (op : Nat) (cls : Class) (p q : Packet) :
    (s.taken op p).access cls q = s.access cls q := rfl

/-- With no grant and no lapse due, the key stays as it is before a packet's cycle. -/
theorem State.keyDue_quiet {s : State} {p : Packet} (h : s.keyQuiet p) : s.keyDue (s.cycleOf p) = s := by
  obtain ⟨hw, hl⟩ := h
  have h1 : s.settleDue (s.cycleOf p) = s := by
    unfold State.settleDue
    split
    · rename_i hc; have := hw hc.1; omega
    · rfl
  unfold State.keyDue
  rw [h1]
  unfold State.lapseDue
  split
  · rename_i hc; have := hl hc.1 hc.2.1; omega
  · rfl

theorem State.arbitrated_quiet {s : State} {p : Packet} (op : Nat) (h : s.keyQuiet p) : s.arbitrated op p = s.taken op p := by
  unfold State.arbitrated State.taken
  rw [State.keyDue_quiet h]

/-- A packet that the arbiter judges now. -/
theorem command_arbitrated {op : Nat} {cls : Class} {p : Packet} {checks : State → List (Bool × Nat)}
    {run : Cmd → State → State} {s : State} (h : s.judges op p) :
    command op cls p checks run s = .next (judge op cls p checks run (s.arbitrated op p)) := by
  obtain ⟨hu, hm, hb, hf, ho, hw⟩ := h
  have hb' : ¬ s.boot.phase < 5 := by omega
  simp [command, whileUp, hu, hm, hf, ho, hw, hb']

/-- A packet that the arbiter judges now, with no change of the key due before it. -/
theorem command_judged {op : Nat} {cls : Class} {p : Packet} {checks : State → List (Bool × Nat)}
    {run : Cmd → State → State} {s : State} (h : s.judges op p) (hq : s.keyQuiet p) :
    command op cls p checks run s = .next (judge op cls p checks run (s.taken op p)) := by
  rw [command_arbitrated h, State.arbitrated_quiet op hq]

/-- A packet that passes every check of 03 R66: its meaning runs on the state after its arbiter step. -/
theorem command_run {op : Nat} {cls : Class} {p : Packet} {checks : State → List (Bool × Nat)}
    {run : Cmd → State → State} {s : State} (h : s.admits op cls p)
    (hc : firstFail (checks (s.seen op cls p)) = none) :
    command op cls p checks run s = .next (run (s.asCmd op p) (s.accept op cls p)) := by
  obtain ⟨hj, hq, hs, ha⟩ := h
  rw [command_judged hj hq]
  have hr : (s.pair.role = .shadow ∧ cls ≠ .observer) = False := by simp; exact hs
  have hm := hj.2.1
  cases cls <;> simp_all [judge, State.seen, State.accept, State.asCmd]

/-- A packet that fails a check of 03 R66 steps 7 and 8: only its completion. -/
theorem command_failed {op : Nat} {cls : Class} {p : Packet} {checks : State → List (Bool × Nat)}
    {run : Cmd → State → State} {s : State} {st : Nat} (h : s.admits op cls p)
    (hc : firstFail (checks (s.seen op cls p)) = some st) :
    command op cls p checks run s = .next (complete (s.asCmd op p) st 0 ((s.seen op cls p).arbStep op p st)) := by
  obtain ⟨hj, hq, hs, ha⟩ := h
  rw [command_judged hj hq]
  have hr : (s.pair.role = .shadow ∧ cls ≠ .observer) = False := by simp; exact hs
  have hm := hj.2.1
  cases cls <;> simp_all [judge, State.seen, State.asCmd]

/-- A packet that fails the access check: only its completion (04 R88). -/
theorem command_denied {op : Nat} {cls : Class} {p : Packet} {checks : State → List (Bool × Nat)}
    {run : Cmd → State → State} {s : State} {st : Nat} (h : s.judges op p) (hq : s.keyQuiet p)
    (hs : s.pair.role = .shadow → cls = .observer) (ha : s.access cls p = some st) :
    command op cls p checks run s = .next (complete (s.asCmd op p) st 0 ((s.taken op p).arbStep op p st)) := by
  rw [command_judged h hq]
  have hr : (s.pair.role = .shadow ∧ cls ≠ .observer) = False := by simp; exact hs
  have hm := h.2.1
  simp_all [judge, State.asCmd]

/-- In reset and in DORMANT a packet does nothing. -/
theorem command_down {op : Nat} {cls : Class} {p : Packet} {checks : State → List (Bool × Nat)}
    {run : Cmd → State → State} {s : State} (h : s.up = false) : command op cls p checks run s = .next s := by
  simp [command, whileUp, h]

@[simp] theorem whileUp_down (f : State → State) {s : State} (h : s.up = false) : whileUp s f = .next s := by
  simp [whileUp, h]

@[simp] theorem whileLeads_down (f : State → State) {s : State} (h : s.up = false) : whileLeads s f = .next s := by
  simp [whileLeads, whileUp, h]

end Sys2Proof.Machine
end

