-- ==== Sys2Proof/Laws/Bytes.lean ====
section
/-! SUPPORT. Small lemmas about bytes: lengths, and what a field of a run of fields reads as. -/

set_option Elab.async false -- one thread for the whole file: a thread per theorem runs out of address space

namespace Sys2Proof.Machine

@[simp] theorem length_leBytes (n v : Nat) : (leBytes n v).length = n := by
  induction n generalizing v with
  | zero => rfl
  | succ n ih => simp [leBytes, ih]

@[simp] theorem leNat_leBytes (n v : Nat) : leNat (leBytes n v) = v % 256 ^ n := by
  induction n generalizing v with
  | zero => simp [leBytes, leNat, Nat.mod_one]
  | succ n ih =>
    have h := Nat.mod_mul (x := v) (a := 256) (b := 256 ^ n)
    rw [← Nat.pow_succ'] at h
    simp only [leBytes, leNat, ih, BitVec.toNat_ofNat]
    exact h.symm

theorem leNat_leBytes_of_lt {n v : Nat} (h : v < 256 ^ n) : leNat (leBytes n v) = v := by
  rw [leNat_leBytes, Nat.mod_eq_of_lt h]

@[simp] theorem length_slice (l : List Byte) (o n : Nat) : (slice l o n).length = n := by
  simp only [slice, List.length_append, List.length_take, List.length_drop, List.length_replicate]; omega

/-- The field at the head of a run. -/
theorem slice_head (l r : List Byte) : slice (l ++ r) 0 l.length = l := by simp [slice]

/-- A slice past a prefix is one of the rest. -/
theorem slice_skip (l r : List Byte) {o n : Nat} (h : l.length ≤ o) : slice (l ++ r) o n = slice r (o - l.length) n := by
  simp only [slice, List.drop_append, List.drop_eq_nil_of_le h, List.nil_append]

/-- A slice that starts and ends in a prefix. -/
theorem slice_left (l r : List Byte) {o n : Nat} (h : o + n ≤ l.length) : slice (l ++ r) o n = slice l o n := by
  unfold slice
  rw [List.drop_append_of_le_length (by omega), List.take_append_of_le_length (by simp; omega)]

theorem slice_all (l : List Byte) : slice l 0 l.length = l := by simp [slice]

theorem slice_of_length {l : List Byte} {n : Nat} (h : l.length = n) : slice l 0 n = l := h ▸ slice_all l

theorem fieldAt_head (n v : Nat) (r : List Byte) : fieldAt (leBytes n v ++ r) 0 n = v % 256 ^ n := by
  have := slice_head (leBytes n v) r
  rw [length_leBytes] at this
  rw [fieldAt, this, leNat_leBytes]

theorem fieldAt_skip (l r : List Byte) {o n : Nat} (h : l.length ≤ o) : fieldAt (l ++ r) o n = fieldAt r (o - l.length) n := by
  rw [fieldAt, fieldAt, slice_skip l r h]

/-- A signed number in range reads back from its two bytes. -/
theorem signed_leInt {v : Int} (h1 : -2 ^ 15 ≤ v) (h2 : v < 2 ^ 15) : signed 16 (leNat (leInt 2 v)) = v := by
  simp only [leInt, leNat_leBytes, signed]
  have : (v % ((256 ^ 2 : Nat) : Int)).toNat < 65536 := by omega
  split <;> omega

end Sys2Proof.Machine
end

