-- ==== Sys2Proof/Laws/Shared.lean ====
section
/-! SUPPORT. What the operations that several rows share can do: a direct register write, a doorbell, a function reset, a head's
message. Each is a list of cases that leaves none out. -/

set_option Elab.async false -- one thread for the whole file: a thread per theorem runs out of address space

namespace Sys2Proof.Machine

variable {s : State}

@[simp] theorem whileUp_up (f : State → State) (h : s.up = true) : whileUp s f = .next (f s) := by simp [whileUp, h]

theorem whileLeads_up (f : State → State) (h : s.up = true) (hr : s.pair.role ≠ .shadow) : whileLeads s f = .next (f s) := by
  simp [whileLeads, whileUp, h, hr]

theorem whileLeads_shadow (f : State → State) (h : s.up = true) (hr : s.pair.role = .shadow) : whileLeads s f = .next s := by
  simp [whileLeads, whileUp, h, hr]

/-! Readings that do not look at the time are the same at a later tick. -/

section
variable (s : State) (t : Nat)
@[simp] theorem State.at_queue (n : Nat) : (s.at t).queue n = s.queue n := rfl
@[simp] theorem State.at_loop (n : Nat) : (s.at t).loop n = s.loop n := rfl
@[simp] theorem State.at_drive (n : Nat) : (s.at t).drive n = s.drive n := rfl
@[simp] theorem State.at_axis (n : Nat) : (s.at t).axis n = s.axis n := rfl
@[simp] theorem State.at_group (n : Nat) : (s.at t).group n = s.group n := rfl
@[simp] theorem State.at_encoder (n : Nat) : (s.at t).encoder n = s.encoder n := rfl
@[simp] theorem State.at_hvCh (n : Nat) : (s.at t).hvCh n = s.hvCh n := rfl
@[simp] theorem State.at_zone (n : Nat) : (s.at t).zone n = s.zone n := rfl
@[simp] theorem State.at_therm (n : Nat) : (s.at t).therm n = s.therm n := rfl
@[simp] theorem State.at_engine (n : Nat) : (s.at t).engine n = s.engine n := rfl
@[simp] theorem State.at_channel (n : Nat) : (s.at t).channel n = s.channel n := rfl
@[simp] theorem State.at_bank (n : Nat) : (s.at t).bank n = s.bank n := rfl
@[simp] theorem State.at_afeChan (n : Nat) : (s.at t).afeChan n = s.afeChan n := rfl
@[simp] theorem State.at_station (n : Nat) : (s.at t).station n = s.station n := rfl
@[simp] theorem State.at_scan (n : Nat) : (s.at t).scan n = s.scan n := rfl
@[simp] theorem State.at_pll (n : Nat) : (s.at t).pll n = s.pll n := rfl
@[simp] theorem State.at_pipe (n : Nat) : (s.at t).pipe n = s.pipe n := rfl
@[simp] theorem State.at_plans (n : Nat) : (s.at t).plans n = s.plans n := rfl
@[simp] theorem State.at_link (n : Nat) : (s.at t).link n = s.link n := rfl
@[simp] theorem State.at_inReset (f : Nat) : (s.at t).inReset f = s.inReset f := rfl
@[simp] theorem State.at_sheet? (i : Nat) : (s.at t).sheet? i = s.sheet? i := rfl
@[simp] theorem State.at_band? (i j : Nat) : (s.at t).band? i j = s.band? i j := rfl
@[simp] theorem State.at_onPath (i : Nat) : (s.at t).onPath i = s.onPath i := rfl
@[simp] theorem State.at_inSpan (q v : Nat) : (s.at t).inSpan q v = s.inSpan q v := rfl
@[simp] theorem State.at_slotFor (k i : Nat) : (s.at t).slotFor k i = s.slotFor k i := rfl
@[simp] theorem State.at_hvSlot (n : Nat) : (s.at t).hvSlot n = s.hvSlot n := rfl
@[simp] theorem State.at_members (g : Nat) : (s.at t).members g = s.members g := rfl
@[simp] theorem State.at_latched (c : Nat) : (s.at t).latched c = s.latched c := rfl
@[simp] theorem State.at_lineDots (n : Nat) : (s.at t).lineDots n = s.lineDots n := rfl
@[simp] theorem State.at_capacity (n : Nat) : (s.at t).capacity n = s.capacity n := rfl
@[simp] theorem State.at_running? (n : Nat) : (s.at t).running? n = s.running? n := rfl
@[simp] theorem State.at_zcInterval (d : Nat) : (s.at t).zcInterval d = s.zcInterval d := rfl
@[simp] theorem State.at_fast (d : Nat) : (s.at t).fast d = s.fast d := rfl
@[simp] theorem State.at_destsOn (n : Nat) : (s.at t).destsOn n = s.destsOn n := rfl
@[simp] theorem State.at_overPeak (n v : Nat) : (s.at t).overPeak n v = s.overPeak n v := rfl
@[simp] theorem State.at_groupHeads (g : Nat) : (s.at t).groupHeads g = s.groupHeads g := rfl
@[simp] theorem State.at_stepReady (x : StepTrack) : (s.at t).stepReady x = s.stepReady x := rfl
@[simp] theorem State.at_locking (n : Nat) : (s.at t).locking n = s.locking n := rfl
@[simp] theorem State.at_lockDue (n : Nat) : (s.at t).lockDue n = s.lockDue n := rfl
@[simp] theorem State.at_region (r : Nat) : (s.at t).region r = s.region r := rfl
@[simp] theorem State.at_dmaHeld : (s.at t).dmaHeld = s.dmaHeld := rfl
@[simp] theorem State.at_dmaRuns : (s.at t).dmaRuns = s.dmaRuns := rfl
@[simp] theorem State.at_noRise : (s.at t).noRise = s.noRise := rfl
@[simp] theorem State.at_lease : (s.at t).lease = s.lease := rfl
@[simp] theorem State.at_planCopy : (s.at t).planCopy = s.planCopy := rfl
@[simp] theorem State.at_syncedLead : (s.at t).syncedLead = s.syncedLead := rfl
@[simp] theorem State.at_mirrors : (s.at t).mirrors = s.mirrors := rfl
@[simp] theorem State.at_linked : (s.at t).linked = s.linked := rfl
@[simp] theorem State.at_pathStopped : (s.at t).pathStopped = s.pathStopped := rfl
@[simp] theorem State.at_gated : (s.at t).gated = s.gated := rfl
@[simp] theorem State.at_memLive : (s.at t).memLive = s.memLive := rfl
end

/-! A direct write of a register (01 R14, 24 R479). -/

theorem State.portWrite_unplaced {a m w : Nat} (h : posOf a = none) : s.portWrite a m w = (s.refuse, false) := by
  simp [State.portWrite, h]

theorem State.portWrite_discarded {a m w : Nat} {q : Pos} (h : posOf a = some q) (hd : s.discards q m w = true) :
    s.portWrite a m w = (s.refuse, false) := by
  simp [State.portWrite, h, hd]

theorem State.portWrite_taken {a m w : Nat} {q : Pos} (h : posOf a = some q) (hd : s.discards q m w = false) :
    s.portWrite a m w = ((s.effect q a w).mirrorOn (.config (.register a (BitVec.ofNat 32 w))), true) := by
  simp [State.portWrite, h, hd]

theorem State.busWrite_foreign {m a size : Nat} {w : Word} (h : s.key.holder ≠ m) : s.busWrite m a size w = s.refuse := by
  simp [State.busWrite, h]

theorem State.busWrite_shadow {m a size : Nat} {w : Word} (h : s.pair.role = .shadow) : s.busWrite m a size w = s.refuse := by
  simp [State.busWrite, h]

/-- A write that its register takes has the register's effect. -/
theorem State.busWrite_taken {m a : Nat} {w : Word} {q : Pos} (hk : s.key.holder = m) (hr : s.pair.role ≠ .shadow)
    (ha : a % 4 = 0) (hl : a < 0x80000) (hq : posOf a = some q) (hd : s.discards q (2 ^ 32 - 1) w.toNat = false) :
    s.busWrite m a 4 w = (s.effect q a w.toNat).mirrorOn (.config (.register a w)) := by
  have : ¬(s.key.holder ≠ m ∨ s.pair.role = .shadow ∨ (4 : Nat) ≠ 4 ∨ a % 4 ≠ 0 ∨ 0x80000 ≤ a) := by
    simp [hk, hr, ha, hl]
  rw [State.busWrite, if_neg this, State.portWrite_taken hq hd, BitVec.ofNat_toNat, BitVec.setWidth_eq]

/-- A register at a place of its own takes the words that State.acceptsWord lets through. -/
theorem State.busWrite_accepted {m a : Nat} {w : Word} {q : Pos} (hk : s.key.holder = m) (hr : s.pair.role ≠ .shadow)
    (ha : a % 4 = 0) (hl : a < 0x80000) (hq : posOf a = some q) (hw : s.acceptsWord a w = true) :
    s.busWrite m a 4 w = (s.effect q a w.toNat).mirrorOn (.config (.register a w)) :=
  State.busWrite_taken hk hr ha hl hq (by simpa [State.acceptsWord, hq] using hw)

/-! A doorbell (03 R60, R498). -/

theorem State.ring_off {q v : Nat} (h : s.queueOn q = false) : s.ring q v = s.setStat q 1 := by simp [State.ring, h]

theorem State.ring_unused {q v : Nat} (h : s.queueOn q = true) (ht : s.queueType q = Ty.UNUSED) :
    s.ring q v = s.setStat q 0 := by simp [State.ring, h, ht]

theorem State.ring_submission {q v : Nat} (h : s.queueOn q = true) (ht : s.queueType q = Ty.SUBMISSION) :
    s.ring q v = if v < s.queueSize q then (s.setQueue q fun Q => { Q with tail := v }).rung q else s.setStat q 0 := by
  simp [State.ring, h, ht, Ty.SUBMISSION, Ty.UNUSED]

theorem State.ring_written {q v : Nat} (h : s.queueOn q = true) (hs : s.queueType q ≠ Ty.SUBMISSION)
    (hu : s.queueType q ≠ Ty.UNUSED) :
    s.ring q v =
      if s.inSpan q v then ((s.setQueue q fun Q => { Q with head := v }).rung q).flush else s.setStat q 0 := by
  simp [State.ring, h, hs, hu]

/-! A function reset (05 R117). -/

theorem State.resetStep_kept {f : Nat} {force : Bool} {tick : Nat} (h : s.up = true)
    (hk : s.offStation f = true ∨ s.needsForce force f = true) : s.resetStep f force tick = .next s := by
  simp [State.resetStep, h, hk]

theorem State.resetStep_taken {f : Nat} {force : Bool} {tick : Nat} (h : s.up = true) (ho : s.offStation f = false)
    (hn : s.needsForce force f = false) : s.resetStep f force tick = .next ((s.at tick).beginReset f) := by
  simp [State.resetStep, h, ho, hn]

theorem State.beginReset_running {f : Nat} (h : s.inReset f = true) : s.beginReset f = s := by simp [State.beginReset, h]

theorem State.beginReset_calm {f : Nat} (h : s.inReset f = false) (hp : s.mode ≠ .printing ∨ f ≠ Fn.MOTION ∧ f ≠ Fn.HV) :
    s.beginReset f = ((s.enterReset f).resetEffect f).watchHold := by
  rw [State.beginReset, if_neg (by simp [h])]
  simp only []
  rw [if_neg]
  rintro ⟨hf, hm⟩
  rcases hp with hp | ⟨h1, h2⟩
  · exact hp hm
  · exact hf.elim h1 h2

theorem State.beginReset_forced {f : Nat} (h : s.inReset f = false) (hp : s.mode = .printing)
    (hf : f = Fn.MOTION ∨ f = Fn.HV) :
    s.beginReset f = (((s.enterReset f).resetEffect f).watchHold).halt Halt.FORCED_RESET := by
  rw [State.beginReset, if_neg (by simp [h])]
  simp only []
  rw [if_pos ⟨hf, hp⟩]

/-! A head's message (13 R276). -/

theorem receive_good {n type : Nat} {payload : List Byte} {crc tick : Nat} {f : State → State} (h : s.up = true)
    (hh : s.hears n) (hc : headCrc type payload = crc) :
    receive n type payload crc tick f s = .next (f (s.heard n tick)) := by
  simp only [receive, whileUp_up _ h]
  rw [if_neg (by simp [hh.1, hh.2]), if_pos hc]; rfl

theorem receive_bad {n type : Nat} {payload : List Byte} {crc tick : Nat} {f : State → State} (h : s.up = true)
    (hh : s.hears n) (hc : headCrc type payload ≠ crc) :
    receive n type payload crc tick f s = .next (s.misheard n tick) := by
  simp only [receive, whileUp_up _ h]
  rw [if_neg (by simp [hh.1, hh.2]), if_neg hc]; rfl

theorem receive_deaf {n type : Nat} {payload : List Byte} {crc tick : Nat} {f : State → State} (h : s.up = true)
    (hh : (s.station n).powered = false ∨ (s.link n).state = .down) : receive n type payload crc tick f s = .next s := by
  simp only [receive, whileUp_up _ h]
  rw [if_pos hh]

@[simp] theorem State.heard_link_state (n tick m : Nat) : ((s.heard n tick).link m).state = (s.link m).state := by
  simp only [State.heard, State.setLink, State.link, State.station, State.setStation, State.at, List.getD_eq_getElem?_getD,
    List.getElem?_modify]
  split
  · cases h : s.stations[m]? <;> simp
  · simp

end Sys2Proof.Machine
end

