-- ==== Sys2Proof/Laws/Store.lean ====
section
/-! SUPPORT. The canonical form of addressed stores: every operation keeps it, and what a store reads as after a write. -/

set_option Elab.async false -- one thread for the whole file: a thread per theorem runs out of address space

namespace Sys2Proof.Machine

variable {α : Type} [DecidableEq α] {d : Nat → α}

/-- Below the first entry a canonical store reads as its default. -/
theorem Store.get_below : ∀ {l : List (Nat × α)} {lo a : Nat}, Store.from d (some lo) l = true → a ≤ lo → Store.get d l a = d a
  | [], _, _, _, _ => rfl
  | (b, v) :: l, lo, a, h, ha => by
    simp only [Store.from, Bool.and_eq_true, decide_eq_true_eq] at h
    have hb : b ≠ a := by omega
    simp only [Store.get, hb, if_false]
    exact Store.get_below h.2 (by omega)

theorem Store.from_lower : ∀ {l : List (Nat × α)} {lo lo' : Nat}, Store.from d (some lo) l = true → lo' ≤ lo →
    Store.from d (some lo') l = true
  | [], _, _, _, _ => rfl
  | (b, v) :: l, lo, lo', h, hl => by
    simp only [Store.from, Bool.and_eq_true, decide_eq_true_eq] at *
    exact ⟨⟨by omega, h.1.2⟩, h.2⟩

theorem Store.put_from : ∀ {l : List (Nat × α)} {lo a : Nat} {v : α}, Store.from d (some lo) l = true → lo < a →
    Store.from d (some lo) (Store.put d l a v) = true
  | [], lo, a, v, _, ha => by
    unfold Store.put
    split
    · rfl
    · simp_all [Store.from]
  | (b, w) :: l, lo, a, v, h, ha => by
    have h' := h
    simp only [Store.from, Bool.and_eq_true, decide_eq_true_eq] at h
    unfold Store.put
    split
    · split
      · exact h'
      · simp_all [Store.from]
    · split
      · split
        · exact Store.from_lower h.2 (by omega)
        · rename_i hab hv
          subst hab
          simp_all [Store.from]
      · simp only [Store.from, Bool.and_eq_true, decide_eq_true_eq]
        exact ⟨h.1, Store.put_from h.2 (by omega)⟩

/-- Every canonical store is canonical above a bound below its first entry. -/
theorem Store.wf_cons {b : Nat} {w : α} {l : List (Nat × α)} (h : Store.wf d ((b, w) :: l) = true) :
    w ≠ d b ∧ Store.from d (some b) l = true := by
  simpa [Store.wf, Store.from] using h

theorem Store.wf_of_from {l : List (Nat × α)} {lo : Nat} (h : Store.from d (some lo) l = true) : Store.wf d l = true := by
  cases l with
  | nil => rfl
  | cons c l => simp_all [Store.wf, Store.from]

/-- A write keeps the canonical form. -/
theorem Store.put_wf {l : List (Nat × α)} {a : Nat} {v : α} (h : Store.wf d l = true) : Store.wf d (Store.put d l a v) = true := by
  match l with
  | [] =>
    unfold Store.put
    split
    · rfl
    · simp_all [Store.wf, Store.from]
  | (b, w) :: l =>
    have hc := Store.wf_cons h
    unfold Store.put
    split
    · split
      · exact h
      · simp_all [Store.wf, Store.from]
    · split
      · split
        · exact Store.wf_of_from hc.2
        · rename_i hab hv
          subst hab
          simp_all [Store.wf, Store.from]
      · simp only [Store.wf, Store.from, Bool.and_eq_true, decide_eq_true_eq]
        exact ⟨hc.1, Store.put_from hc.2 (by omega)⟩

/-- Several writes keep the canonical form. -/
theorem Store.putAll_wf : ∀ {ws l : List (Nat × α)}, Store.wf d l = true → Store.wf d (Store.putAll d l ws) = true
  | [], _, h => h
  | (a, v) :: ws, l, h => by
    unfold Store.putAll
    exact Store.putAll_wf (Store.put_wf h)

theorem Store.filter_from (p : Nat × α → Bool) : ∀ {l : List (Nat × α)} {lo : Nat}, Store.from d (some lo) l = true →
    Store.from d (some lo) (l.filter p) = true
  | [], _, _ => rfl
  | (b, w) :: l, lo, h => by
    simp only [Store.from, Bool.and_eq_true, decide_eq_true_eq] at h
    by_cases hp : p (b, w) = true
    · simp only [List.filter_cons, hp, if_true, Store.from, Bool.and_eq_true, decide_eq_true_eq]
      exact ⟨h.1, Store.filter_from p h.2⟩
    · simp only [List.filter_cons, hp]
      exact Store.from_lower (Store.filter_from p h.2) (by omega)

/-- Dropping addresses keeps the canonical form. -/
theorem Store.drop_wf {l : List (Nat × α)} {p : Nat → Bool} (h : Store.wf d l = true) : Store.wf d (Store.drop p l) = true := by
  match l with
  | [] => rfl
  | (b, w) :: l =>
    have hc := Store.wf_cons h
    by_cases hp : p b = true
    · simp only [Store.drop, List.filter_cons, hp, Bool.not_true, Bool.false_eq_true, if_false]
      exact Store.wf_of_from (Store.filter_from _ hc.2)
    · simp only [Store.drop, List.filter_cons, hp, Bool.not_false, if_true, Store.wf, Store.from, Bool.and_eq_true,
        decide_eq_true_eq]
      exact ⟨hc.1, Store.filter_from _ hc.2⟩

theorem Store.get_put_from : ∀ {l : List (Nat × α)} {lo a : Nat} {v : α} {b : Nat}, Store.from d (some lo) l = true → lo < a →
    Store.get d (Store.put d l a v) b = if b = a then v else Store.get d l b
  | [], lo, a, v, b, _, _ => by
    unfold Store.put
    split
    · rename_i hv
      simp only [Store.get]; split <;> simp_all
    · by_cases hb : b = a
      · simp [Store.get, hb]
      · have hb' : a ≠ b := fun e => hb e.symm
        simp [Store.get, hb, hb']
  | (c, w) :: l, lo, a, v, b, h, ha => by
    have h' := h
    simp only [Store.from, Bool.and_eq_true, decide_eq_true_eq] at h
    unfold Store.put
    split
    · rename_i hac
      have hlow : Store.get d ((c, w) :: l) a = d a := by
        have hne : c ≠ a := by omega
        simp only [Store.get, hne, if_false]
        exact Store.get_below h.2 (by omega)
      split
      · rename_i hv
        split
        · rename_i hb; rw [hb, hlow, hv]
        · rfl
      · by_cases hb : b = a
        · simp [Store.get, hb]
        · have hb' : a ≠ b := fun e => hb e.symm
          simp [Store.get, hb, hb']
    · split
      · rename_i hac
        subst hac
        split
        · rename_i hv
          by_cases hb : b = a
          · rw [if_pos hb, hb, hv]; exact Store.get_below h.2 (by omega)
          · have hb' : a ≠ b := fun e => hb e.symm
            simp [Store.get, hb, hb']
        · by_cases hb : b = a
          · simp [Store.get, hb]
          · have hb' : a ≠ b := fun e => hb e.symm
            simp [Store.get, hb, hb']
      · rename_i hac hne
        simp only [Store.get]
        by_cases hcb : c = b
        · have : b ≠ a := by omega
          simp [hcb, this]
        · simp only [hcb, if_false]
          exact Store.get_put_from h.2 (by omega)

/-- What a canonical store reads as after a write. -/
theorem Store.get_put {l : List (Nat × α)} {a : Nat} {v : α} {b : Nat} (h : Store.wf d l = true) :
    Store.get d (Store.put d l a v) b = if b = a then v else Store.get d l b := by
  match l with
  | [] =>
    unfold Store.put
    split
    · simp only [Store.get]; split <;> simp_all
    · by_cases hb : b = a
      · simp [Store.get, hb]
      · have hb' : a ≠ b := fun e => hb e.symm
        simp [Store.get, hb, hb']
  | (c, w) :: l =>
    have hc := Store.wf_cons h
    by_cases hac : a < c
    · have hlow : Store.get d ((c, w) :: l) a = d a := by
        have hne : c ≠ a := by omega
        simp only [Store.get, hne, if_false]
        exact Store.get_below hc.2 (by omega)
      simp only [Store.put, hac, if_true]
      split
      · rename_i hv
        split
        · rename_i hb; rw [hb, hlow, hv]
        · rfl
      · by_cases hb : b = a
        · simp [Store.get, hb]
        · have hb' : a ≠ b := fun e => hb e.symm
          simp [Store.get, hb, hb']
    · by_cases hac' : a = c
      · subst hac'
        simp only [Store.put, Nat.lt_irrefl, if_false, if_true]
        split
        · rename_i hv
          by_cases hb : b = a
          · rw [if_pos hb, hb, hv]; exact Store.get_below hc.2 (by omega)
          · have hb' : a ≠ b := fun e => hb e.symm
            simp [Store.get, hb, hb']
        · by_cases hb : b = a
          · simp [Store.get, hb]
          · have hb' : a ≠ b := fun e => hb e.symm
            simp [Store.get, hb, hb']
      · simp only [Store.put, hac, hac', if_false, Store.get]
        by_cases hcb : c = b
        · have : b ≠ a := by omega
          simp [hcb, this]
        · simp only [hcb, if_false]
          exact Store.get_put_from hc.2 (by omega)

/-- Addresses that no write names read as before. -/
theorem Store.get_putAll_ne : ∀ {ws l : List (Nat × α)} {b : Nat}, Store.wf d l = true → (∀ w ∈ ws, w.1 ≠ b) →
    Store.get d (Store.putAll d l ws) b = Store.get d l b
  | [], _, _, _, _ => rfl
  | (a, v) :: ws, l, b, h, hw => by
    have ha : b ≠ a := fun e => hw (a, v) (by simp) e.symm
    simp only [Store.putAll]
    rw [Store.get_putAll_ne (Store.put_wf h) fun w m => hw w (by simp [m]), Store.get_put h, if_neg ha]

theorem reset_regs_wf : Store.wf resetWord State.reset.regs = true ∧ Store.wf resetWord State.reset.live = true := ⟨rfl, rfl⟩

/-- What a register reads as after a write of one. -/
theorem State.setReg_reg (s : State) (a b : Nat) (w : Word) (h : Store.wf resetWord s.regs = true) :
    (s.setReg a w).reg b = if b = a then w else s.reg b := Store.get_put h

theorem State.setLiveReg_liveReg (s : State) (a b : Nat) (w : Word) (h : Store.wf resetWord s.live = true) :
    (s.setLiveReg a w).liveReg b = if b = a then w else s.liveReg b := Store.get_put h

end Sys2Proof.Machine
end

