-- ==== Sys2Proof/Machine/BeamLink.lean ====
section
/-! DEFINITION. What the transmit lanes of a beam link carry (13 R264-R270, R275, R283): the blocks of each part of the stream, their places
among IDLE blocks and alignment markers, the lanes, the scrambler, and the bits as they leave (log entry 42). -/

namespace Sys2Proof.Machine

/-! Blocks (13 R264, R266). -/

structure Block where
  control : Bool
  payload : List Byte
  deriving DecidableEq, Repr

/-- A control block: TYPE, and bytes 1 to 7. -/
def controlBlock (type : Nat) (b : List Byte) : Block := ⟨true, ((leBytes 1 type ++ b) ++ List.replicate 8 0).take 8⟩

def idleBlock : Block := controlBlock 0x1E []

/-- The alignment marker of a lane. -/
def markerBlock (lane : Nat) : Block := controlBlock 0x4B (leBytes 1 lane ++ [0x4C#8, 0x4D#8, 0x46#8, 0x35#8, 0x30#8, 0x32#8])

def dataBlocks (b : List Byte) : List Block := (List.range (b.length / 8)).map fun i => ⟨false, (b.drop (8 * i)).take 8⟩

/-- The 24 bytes of a slot: the code of lane i at bits 6i to 6i + 5 (13 R269). -/
def packSlot (lanes : List (Nat × List Nat)) (p : Nat) : List Byte :=
  leBytes 24 (lanes.foldl (fun m x => m + x.2.getD p 0 % 64 * 2 ^ (6 * x.1)) 0)

def slotBytes (lanes : List (Nat × List Nat)) (count : Nat) : List Byte := (List.range count).flatMap (packSlot lanes)

/-- The blocks of a part, without the IDLE blocks that fall among them (13 R266, R267). -/
def BeamPart.blocks : BeamPart → List Block
  | .training => []
  | .trainDone => List.replicate 16 (controlBlock 0xB4 [])
  | .sof sync sweep => [controlBlock 0x33 (leBytes 1 (if sync then 1 else 0) ++ leBytes 4 sweep)]
  | .header b => dataBlocks b ++ [controlBlock 0x55 (leBytes 4 (crc32c b).toNat)]
  | .slots _ _ count codes => dataBlocks (slotBytes codes count)
  | .segEnd j sweep codes =>
    [controlBlock 0x78 (leBytes 1 j ++ leBytes 4 (crc32c (slotBytes codes 1024)).toNat ++ leBytes 2 sweep)]
  | .time start sweep coast dotUi =>
    let t := leBytes 4 start ++ leBytes 2 sweep ++ leBytes 1 (if coast then 1 else 0)
    [controlBlock 0x66 t, ⟨false, leBytes 4 dotUi ++ leBytes 2 (crc16 (t ++ leBytes 4 dotUi)).toNat ++ leBytes 2 0⟩]
  | .program sweep b =>
    [controlBlock 0x87 []] ++ dataBlocks b ++ [controlBlock 0x99 (leBytes 4 (crc32c b).toNat ++ leBytes 2 sweep)]
  | .syncOff sweep => [controlBlock 0xAA (leBytes 2 sweep)]

/-! The stream of a station (13 R265, R266). -/

/-- A stream as it grows: its blocks, the newest first, how many, and the data blocks since the last control block. -/
structure Stream where
  blocks : List Block
  count  : Nat
  data   : Nat

/-- A block goes into the stream; an IDLE block stands before the 769th data block in a row. -/
def Stream.push (r : Stream) (b : Block) : Stream :=
  if b.control then ⟨b :: r.blocks, r.count + 1, 0⟩
  else if r.data = 768 then ⟨b :: idleBlock :: r.blocks, r.count + 2, 1⟩
  else ⟨b :: r.blocks, r.count + 1, r.data + 1⟩

/-- IDLE blocks up to place `n`. -/
def Stream.idleTo (r : Stream) (n : Nat) : Stream :=
  if n ≤ r.count then r else ⟨List.replicate (n - r.count) idleBlock ++ r.blocks, n, 0⟩

/-- Whether place `q` of every lane holds an alignment marker: in training after each 64 blocks, from UP on after each 4,096 (13 R265, R275). -/
def isMarker (up : Option Nat) (q : Nat) : Bool :=
  match up with
  | some u => if q < u then q % 65 = 64 else (q - u) % 4097 = 4096
  | none => q % 65 = 64

/-- Stream blocks that each lane has sent before its place `q`. -/
def blocksBefore (up : Option Nat) (q : Nat) : Nat :=
  match up with
  | some u => if q ≤ u then q - q / 65 else u - u / 65 + ((q - u) - (q - u) / 4097)
  | none => q - q / 65

/-- Places of a lane begun by a tick: 125 UI to a tick, 66 to a block. -/
def State.laneSlots (s : State) (n tick : Nat) : Nat := (125 * (tick - (s.link n).blocksAt) + 65) / 66

/-- The place of the lanes at which the link came UP. -/
def State.upSlot (s : State) (n : Nat) : Option Nat :=
  if (s.link n).state = .up then some (s.laneSlots n (s.link n).upAt) else none

/-- The parts sent since the last training began. -/
def State.beamParts (s : State) (n : Nat) : List (Nat × BeamPart) :=
  s.outbox.foldl (fun l o =>
    match o with
    | .beam m t p => if m ≠ n then l else if p = .training then [] else l ++ [(t, p)]
    | _ => l) []

/-- A part goes into the stream at the first place free at its tick. -/
def State.placePart (s : State) (n : Nat) (r : Stream) (x : Nat × BeamPart) : Stream :=
  x.2.blocks.foldl Stream.push (r.idleTo (4 * blocksBefore (s.upSlot n) (s.laneSlots n x.1)))

/-- The blocks of a station's stream up to now, in order. -/
def State.blockStream (s : State) (n : Nat) : List Block :=
  let upTo := 4 * blocksBefore (s.upSlot n) (s.laneSlots n s.now)
  ((((s.beamParts n).foldl (s.placePart n) ⟨[], 0, 0⟩).idleTo upTo).blocks.reverse).take upTo

/-! Lanes and bits (13 R264, R265). -/

/-- The sync header as it leaves, bit 0 first: 01 for data, 10 for control. -/
def Block.sync (b : Block) : List Bool := if b.control then [false, true] else [true, false]

/-- The payload bits as they leave: byte 0 first, each from bit 0 on. -/
def Block.bits (b : Block) : List Bool := b.payload.flatMap fun x => (List.range 8).map fun i => x.getLsbD i

/-- The self-synchronising scrambler x^58 + x^39 + 1. Its state holds the last 58 scrambled bits, the newest in bit 0. -/
def scramble : BitVec 58 → List Bool → List Bool × BitVec 58
  | g, [] => ([], g)
  | g, b :: bs =>
    let y := b ^^ (g.getLsbD 38 ^^ g.getLsbD 57)
    let r := scramble ((g <<< 1) ||| BitVec.ofNat 58 y.toNat) bs
    (y :: r.1, r.2)

/-- What undoes it at the head. -/
def descramble : BitVec 58 → List Bool → List Bool
  | _, [] => []
  | g, y :: ys => (y ^^ (g.getLsbD 38 ^^ g.getLsbD 57)) :: descramble ((g <<< 1) ||| BitVec.ofNat 58 y.toNat) ys

/-- The bits of a lane from its place `q` on. A marker is not scrambled and does not advance the scrambler. -/
def laneFrom (up : Option Nat) (lane : Nat) : Nat → BitVec 58 → List Block → List Bool
  | _, _, [] => []
  | q, g, b :: bs =>
    let mark : Bool := isMarker up q
    let am := markerBlock lane
    let r := scramble g b.bits
    (if mark then am.sync ++ am.bits else []) ++ b.sync ++ r.1 ++ laneFrom up lane (if mark then q + 2 else q + 1) r.2 bs

/-- The blocks of a stream that go to lane `i`: each run of four goes to lanes 0 to 3. -/
def striped (l : List Block) (i : Nat) : List Block := (List.range (l.length / 4)).map fun r => l.getD (4 * r + i) idleBlock

/-- PRBS31: x^31 + x^28 + 1 (PRESUMED, log entry 42). -/
def prbs31 : Nat → BitVec 31 → List Bool
  | 0, _ => []
  | k + 1, g =>
    let y := g.getLsbD 30 ^^ g.getLsbD 27
    y :: prbs31 k ((g <<< 1) ||| BitVec.ofNat 31 y.toNat)

/-- The bits that have left on lane TXn_i since the last training began, before polarity: blocks, or PRBS31 in a loopback. -/
def State.laneBits (s : State) (n i : Nat) : List Bool :=
  match (s.link n).state with
  | .down | .t0 => []
  | .loopback => prbs31 (125 * (s.now - (s.link n).since)) (Config.prbs n i)
  | _ => laneFrom (s.upSlot n) i 0 (Config.scrambler n i) (striped (s.blockStream n) i)

/-- The levels on the lane: inverted where TX_INV says so (13 R284). -/
def State.laneLevels (s : State) (n i : Nat) : List Bool := (s.laneBits n i).map (· ^^ bit (s.link n).txCfg (8 + i))

/-- Launch swing in mV peak to peak, and de-emphasis in 0.5 dB, as in force (13 R284). -/
def State.launch (s : State) (n : Nat) : Nat × Nat := (400 + 40 * ((s.link n).txCfg % 16), (s.link n).txCfg / 16 % 16)

end Sys2Proof.Machine
end

