-- ==== Sys2Proof/Safety.lean ====
section
/-! DEFINITION. What counts as a safe run. The model has no fault and refuses nothing by itself, so a run is safe when
every step answers a next state. -/

namespace Sys2Proof

open Machine

/-- A step that goes on. -/
def StepSafe (s : State) : Prop := ∃ t, step s = .next t

/-- Every state that `n` steps lead to goes on. -/
def RunSafe : Nat → State → Prop
  | 0, _ => True
  | n + 1, s => ∃ t, step s = .next t ∧ RunSafe n t

end Sys2Proof
end

