-- ==== Sys2Proof/WellFormed.lean ====
section
/-! DEFINITION. Well-formed commands: instance numbers that exist (00 R7), fields that fit their width (03 R64), frames
and blocks of the length the manual gives them. -/

namespace Sys2Proof

/-- A packet whose fields fit the layout of 03 R64 and whose master exists (04 R84). -/
def Packet.wf (p : Packet) : Bool :=
  p.master < 3 && p.sq < 32 && p.index < 4096 && p.tag < 1024 && p.cq < 256 && p.target < 65536 && p.params.length = 48

def HostAccess.wf : HostAccess → Bool
  | .fetch q | .post q => q < 32
  | .args m t | .result m t => m < 3 && t < 1024
  | .index l => l < 2031616

def MemReader.wf : MemReader → Bool
  | .window n | .lookahead n => n < 5
  | .engine e => e < 12
  | .dma c => c < 16
  | .command m t => m < 3 && t < 1024
  | .load n e => n < 5 && e < 34
  | .mirror | .scrubber => true

def JournalChange.wf : JournalChange → Bool
  | .state s c => s < 24 && c < 7
  | .stamp s b => s < 24 && b < 18
  | .gap s _ | .retries s _ | .free s => s < 24
  | .failover n i => n < 5 && i < 36
  | .slow n e _ => n < 5 && e < 34
  | .eventSeq seq => seq < 2 ^ 32
  | .gate s g => s < 24 && g < 2
  | .mode c => c < 6

def ConfigChange.wf : ConfigChange → Bool
  | .register a _ => a < 0x80000 && a % 4 = 0
  | .applied g i => 1 ≤ g && g ≤ 9 && i < 32
  | .trim n e s c => n < 5 && e < 34 && s + c.length ≤ 32768
  | .plan n s _ => n < 5 && s < 36

/-- Instances in range, and lengths as the manual gives them. -/
def Instr.wf : Instr → Bool
  | .nop p | .getInfo p | .getMode p | .setMode p | .safeStop p | .clearHalt p
  | .functionReset p | .claimKey p | .handKey p | .keyTouch p | .getKey p | .serviceChallenge p
  | .serviceResponse p | .serviceEnd p | .cfgWrite p | .cfgRead p | .apply p | .profileLoad p
  | .sheetSubmit p | .sheetCancel p | .sheetClearReg p | .sheetQuery p | .dmaStart p | .dmaStop p
  | .dmaResume p | .dmaStatus p | .driveStart p | .driveSpeed p | .driveBrake p | .move p
  | .groupMove p | .home p | .stop p | .emergencyStop p | .motionStatus p | .loopLoad p
  | .loopClose p | .loopOpen p | .profileRun p | .loopStatus p | .hvSet p | .hvEnable p
  | .fuserSet p | .fuserEnable p | .supplyStatus p | .afeCalibrate p | .bandSurvey p | .planLoad p
  | .planSwitch p | .trimLoad p | .trimWrite p | .headCal p | .calStatus p | .initMemory p
  | .memStatus p | .pairStatus p | .pairSync p | .pairSwitch p | .storeProfile p | .storeTrim p
  | .storePlan p | .patchLoad p | .fuseWrite p | .fuseRead p | .auditRead p | .countersRead p
  | .traceStart p | .traceStop p | .capture p | .linkLoopback p | .eventMask p => p.wf
  | .packetFetch q raws _ => q < 32 && 0 < raws.length && raws.length ≤ 8 && raws.all fun r => r.1.length = 64
  | .doorbellTail q _ _ => q < 32
  | .doorbellHead q _ _ => q < 32
  | .queueEnable master q _ => master < 3 && q < 32
  | .queueDisable master q _ => master < 3 && q < 32
  | .coalTimeExpiry q => q < 32
  | .hostAccessError a _ => a.wf
  | .mgmtSubmit _ _ _ _ _ => true
  | .mgmtFetch _ _ _ => true
  | .mgmtUnknownFrame _ => true
  | .registerWrite master _ size _ _ => master < 3 && (size = 1 || size = 2 || size = 4 || size = 8)
  | .lowWordRead master _ => master < 3
  | .tumblerApply master _ _ => master < 3
  | .tumblerLand group inst _ => 1 ≤ group && group ≤ 9 && inst < 32
  | .tumblerTimeout group inst => 1 ≤ group && group ≤ 9 && inst < 32
  | .segSwap master station _ => master < 3 && station < 5
  | .segSwapLand station => station < 5
  | .segPhaseWrite master station _ => master < 3 && station < 5
  | .dctDataWrite master station _ => master < 3 && station < 5
  | .coefDataWrite master slot _ => master < 3 && slot < 24
  | .afeChDataWrite master _ => master < 3
  | .emitMark master station _ => master < 3 && station < 5
  | .emitFailClear master station _ _ => master < 3 && station < 5
  | .magWrite master station _ => master < 3 && station < 5
  | .masterStnWrite master _ => master < 3
  | .keyCfgWrite master _ => master < 3
  | .busCfgWrite master _ => master < 3
  | .pairCfgWrite master _ => master < 3
  | .chopperClear master _ _ => master < 3
  | .stnPowerDown master _ _ => master < 3
  | .stnPowerUp master _ _ => master < 3
  | .stnDomainOff station => station < 5
  | .powerWaitExpiry station => station < 5
  | .capArm master drive _ => master < 3 && drive < 12
  | .stnStatClr master station _ => master < 3 && station < 5
  | .drvStatClr master drive _ => master < 3 && drive < 12
  | .afeStatClr master _ => master < 3
  | .hostqReset _ => true
  | .dmaReset _ => true
  | .decompReset _ => true
  | .stationReset station _ => station < 5
  | .motionReset _ _ => true
  | .loopsReset _ => true
  | .hvReset _ _ => true
  | .fuserReset _ => true
  | .afeReset _ => true
  | .nvstoreReset _ => true
  | .pairlinkReset _ => true
  | .functionResetDone function => function < 15
  | .loopRearmExpiry => true
  | .claimWindowClose => true
  | .keyLapse => true
  | .challengeExpiry => true
  | .credentialLockoutEnd => true
  | .orderlyStop _ => true
  | .orderlyStopRest _ => true
  | .safeStopRest _ => true
  | .safeStopMaxExpiry => true
  | .warmingStepDone _ _ => true
  | .settleHoldExpiry => true
  | .warmMaxExpiry => true
  | .loadDone => true
  | .initMemoryDone => true
  | .overlayCopyDone => true
  | .resetnAssert _ => true
  | .resetnRelease _ _ => true
  | .bootRun => true
  | .electionTimeout => true
  | .wake _ => true
  | .wakeDone => true
  | .vinRise _ => true
  | .brownoutWarning _ _ => true
  | .brownoutOff => true
  | .brownoutRecovery _ => true
  | .telemetrySample _ _ _ _ _ _ => true
  | .chopDetectExpiry => true
  | .hvdieLinkLost _ => true
  | .hvdieLinkUp _ => true
  | .interlockOpen _ => true
  | .interlockClosed => true
  | .overtempTrip _ => true
  | .overtempRelease => true
  | .pickGate slot _ => slot < 24
  | .pickWaitMaxExpiry => true
  | .hingeGate slot _ => slot < 24
  | .hinge slot _ => slot < 24
  | .regHoldMaxExpiry slot => slot < 24
  | .sensorLeadEdge sensor _ => sensor < 64
  | .sensorTrailEdge sensor _ => sensor < 64
  | .jamWindowClose slot sensor => slot < 25 && sensor < 64
  | .trailMaxExpiry slot sensor => slot < 25 && sensor < 64
  | .pathStepFire slot step => slot < 25 && step < 16
  | .bdEdge station _ _ _ _ => station < 5
  | .spuriousEdge station _ => station < 5
  | .missingSweep station => station < 5
  | .syncWindowOpen station => station < 5
  | .lineStart station _ => station < 5
  | .endOfActiveScan station _ => station < 5
  | .speedChangeHold _ => true
  | .speedChangeResume _ => true
  | .dutySubwindowEnd station _ _ _ => station < 5
  | .pllLock station _ _ => station < 5
  | .pllUnlock station _ _ _ => station < 5
  | .relockMaxExpiry station => station < 5
  | .bandSurveyDone station _ _ => station < 5
  | .hello station vendor model fw emitters caps crc _ =>
    station < 5 && vendor < 65536 && model < 65536 && fw < 65536 && emitters < 256 && caps < 256 && crc < 65536
  | .readyMsg station crc _ => station < 5 && crc < 65536
  | .retrain station reason crc _ => station < 5 && reason < 256 && crc < 65536
  | .apcSample station sweep emitter sample crc _ =>
    station < 5 && emitter < 34 && sweep < 65536 && sample < 65536 && crc < 65536
  | .emitterFault station emitter kind sweep crc _ =>
    station < 5 && emitter < 34 && kind < 256 && sweep < 2 ^ 32 && crc < 65536
  | .segError station sweep mask reason crc _ =>
    station < 5 && sweep < 2 ^ 32 && mask < 2 ^ 32 && reason < 256 && crc < 65536
  | .statusMsg station temp flags seq crc _ =>
    station < 5 && -128 ≤ temp && temp < 128 && flags < 256 && seq < 65536 && crc < 65536
  | .headFault station cause crc _ => station < 5 && cause < 256 && crc < 65536
  | .loopResult station _ _ _ _ crc _ => station < 5 && crc < 65536
  | .retTimeout station _ => station < 5
  | .retAlignLost station _ => station < 5
  | .trainingT0End station => station < 5
  | .trainingStepTimeout station => station < 5
  | .trainingRetry station => station < 5
  | .blockDispatch _ => true
  | .engineVerdict engine _ _ => engine < 12
  | .engineTimeout engine => engine < 12
  | .dataRequestPost _ => true
  | .stagingFirstLine channel line _ => channel < 16 && line.length = 64
  | .bandStaged channel _ _ => channel < 16
  | .descriptorFetch channel raw => channel < 16 && raw.length = 32
  | .descriptorDone channel _ _ => channel < 16
  | .dmaBusError channel _ _ => channel < 16
  | .completionTimeout channel => channel < 16
  | .dmaChannelsRestart => true
  | .memCheckFail _ data check reader _ => reader.wf && data.length = 64 && check < 65536
  | .lineCorrected _ _ => true
  | .scrubStep data check => data.length = 64 && check < 65536
  | .drivePwmPeriod drive _ _ => drive < 12
  | .observerImplausible drive _ => drive < 12
  | .bemfZeroCross drive _ _ => drive < 12
  | .zcMissing drive _ => drive < 12
  | .encTrustRestore drive => drive < 12
  | .phaseOpen drive _ => drive < 12
  | .listenEnd drive _ _ _ => drive < 12
  | .alignDone drive => drive < 12
  | .handoverTimeout drive _ => drive < 12
  | .startRetry drive => drive < 12
  | .pendingStart drive _ _ => drive < 12
  | .driveMoveDone drive => drive < 12
  | .brakeDone drive => drive < 12
  | .axisPwmPeriod axis _ _ _ => axis < 24
  | .axisCurrentUpdate axis _ => axis < 24
  | .axisMoveEnd axis => axis < 24
  | .groupMoveStart group _ => group < 8
  | .stall axis => axis < 24
  | .encReversal encoder _ => encoder < 8
  | .loopSample slot _ => slot < 24
  | .hvPwmPeriod channel _ => channel < 24
  | .hvSettled channel => channel < 24
  | .hvSettleTimeout channel => channel < 24
  | .arcOffExpiry channel => channel < 24
  | .zeroCrossing _ => true
  | .zcLost => true
  | .fuserRiseCheck zone => zone < 4
  | .afeFrameEnd bank _ _ _ _ => bank < 3
  | .sliceCalDone bank _ _ _ _ => bank < 3
  | .calPeriodExpiry bank => bank < 3
  | .autozero channel _ => channel < 160
  | .headCalDone station => station < 5
  | .captureDone station => station < 5
  | .storeDone outcome raws peer => outcome < 3 && raws.length < 0x1000 && peer < 0x10000
  | .auditFlush => true
  | .heartbeat _ _ => true
  | .heartbeatSend _ => true
  | .peerLost _ _ => true
  | .arbMsg _ _ p _ => p.wf
  | .configMsg c => c.wf
  | .journalMsg c _ => c.wf
  | .postMsg _ _ => true
  | .postedMsg _ _ => true
  | .loopin slot _ _ _ => slot < 24
  | .digest _ => true
  | .snapshotMsg _ => true
  | .relayMsg _ _ _ _ => true
  | .ack _ => true
  | .ackTimeout => true
  | .fenceWaitExpiry => true
  | .pairSynced => true
  | .syncMaxExpiry => true
  | .deadboltAssert _ => true
  | .deadboltRelease => true
  | .quadratureEdge encoder _ _ _ => encoder < 8
  | .encIndexEdge encoder _ => encoder < 8
  | .halfCycleTimer => true
  | .loopbackDurationEnd station => station < 5
  | .loopResultTimeout station => station < 5
  | .stnDomainOn station => station < 5
  | .digestSend => true
  | .predictedSweep station _ => station < 5
  | .tckEdge _ _ => true

end Sys2Proof
end

