-- ==== Sys2Proof/Tests/Slice0.lean ====
section
/-! SUPPORT. Tests: ill-formed commands that WellFormed refuses, single steps on small states, and for each statement with
hypotheses a state and operands that meet them. -/

set_option Elab.async false -- one thread for the whole file: a thread per theorem runs out of address space

namespace Sys2Proof.Tests

open Machine

/-! Small states. -/

/-- In RUN and STANDBY, master 0 holding the key at epoch 1 with service access. -/
def up0 : State :=
  { State.reset with
    boot := { Boot.reset with phase := 5 }, key := { Key.reset with holder := 0, epoch := 1, service := true } }

/-- In a mode, with memory initialised. -/
def inMode (m : Mode) : State := { up0 with modes := { Modes.reset with mode := m, memReady := true } }

def setLiv (f : FieldRef) (v : Nat) (s : State) : State := s.setLiveReg f.addr (wordWith (s.liveReg f.addr) f v)

/-- A packet of master 0 at epoch 1. -/
def pk (target : Nat) (bytes : List Byte) : Packet :=
  { master := 0, sq := 0, index := 0, tag := 1, epoch := 1, fence := false, cq := 0, target,
    params := (bytes ++ List.replicate 48 0).take 48, args := none, tick := 0 }

def argPacket (target : Nat) (bytes args : List Byte) : Packet := { pk target bytes with args := some args }

def aCmd (op : Nat) (p : Packet) : Cmd := ⟨op, p, 0, [], true, false⟩

def auditUp : State := { up0 with nv := { Nv.reset with readable := true } }
def freeKey : State := { up0 with key := { Key.reset with epoch := 1 } }
def aClaim : Claim := ⟨0, 0, aCmd Op.CLAIM_KEY (pk 0xFFFF [])⟩
def claimed : State :=
  { freeKey with
    key := { freeKey.key with windowOpen := true, windowEnds := 100, claims := [aClaim] }, running := [aClaim.cmd] }
def challenged : State :=
  { up0 with cred := { Credential.reset with live := true, master := 0, epoch := 1, nextPart := 1 } }
def lockedOut : State := { up0 with cred := { Credential.reset with lockout := some 7 } }

def aPlan : Plan := ⟨0x3F, 32, 1, 1, [0], [0], [], 0, 0, []⟩
def planOn (n slot : Nat) (s : State) : State :=
  s.setStation n fun st => { st with
    plans := { st.plans with slots := st.plans.slots.set slot ⟨some aPlan, true, true⟩ } }
/-- Lanes 0 to 31 in order, one pass of 32 lines. -/
def planBytes : List Byte :=
  let b := leBytes 6 0xFF0400014E50 ++ leBytes 6 0x006400010120 ++ leBytes 4 (up0.ofsCrc 4) ++ leBytes 4 1 ++ leBytes 12 0 ++
    (List.range 32).map (BitVec.ofNat 8) ++ List.replicate 32 0
  b ++ leBytes 4 (crc32c b).toNat
def warmable : State := planOn 0 0 (inMode .standby)
def stored : State :=
  { up0 with nv := { Nv.reset with readable := true, regions := List.replicate 9 ⟨true, 1, 0, 0, [], [], 0⟩ } }
def flashOn (m : Mode) : State :=
  { inMode m with nv := { Nv.reset with readable := true }, supply := { Supply.reset with vin := 480 } }

def aSheet (st : SheetState) : Sheet :=
  { state := st, id := 7, job := 0, stations := 1, indexAddr := 0, order := 0, bands := [], causes := [], linesLost := 0,
    retries := 0, gap := 0, tPick := 0, tHinge := 0, tClose := 0, location := 0xFE, cancel := false, jammed := false,
    everPicked := st ≠ .accepted, pastHinge := false, shed := false, schedHinge := 0, proj := 0, gateFail := none, registered := 0,
    diverted := none, cfg := [0, 0, 0, 0], tracks := [], steps := [], imaging := [], finalState := 0 }
def putSheet (sh : Sheet) (s : State) : State :=
  { s with sheets := { s.sheets with slots := s.sheets.slots.set 3 (some sh) } }
def withSheet (m : Mode) (st : SheetState) : State := putSheet (aSheet st) (inMode m)
def withBlank : State := { inMode .ready with sheets := { SheetPlane.reset with blank := some (aSheet .registered) } }

/-- An index of one band of one line on station 0, and the submission that names it. -/
def indexBytes : List Byte :=
  let head := leBytes 4 7 ++ leBytes 4 1 ++ leBytes 1 1 ++ leBytes 1 1 ++ leBytes 2 0
  let entry := leBytes 4 40 ++ leBytes 1 0 ++ leBytes 1 1 ++ leBytes 1 2 ++ leBytes 1 0
  head ++ leBytes 4 (crc32c (head ++ entry)).toNat ++ entry
def submitPacket : Packet :=
  argPacket 0xFFFF (leBytes 4 7 ++ leBytes 4 0 ++ leBytes 1 1 ++ leBytes 3 0 ++ leBytes 8 0 ++ leBytes 4 24) indexBytes
def submitState : State := planOn 0 0 (inMode .ready)

def driveOn (st : DriveState) : State :=
  setLiv (Fld.DRV_EN 11) 1 ((inMode .service).setDrive 11 fun D => { D with state := st })
def axisOn : State := setLiv (Fld.AXS_EN 23) 1 ((inMode .service).setAxis 23 fun a => { a with homed := true })
def groupOn : State := setLiv (Fld.AXS_SCALE 22) 1000 <| setLiv (Fld.AXS_SCALE 23) 1000 <| setLiv (Fld.AXS_GROUP 23) 7 (setLiv (Fld.AXS_GROUP 22) 7 (setLiv (Fld.AXS_EN 22) 1 axisOn))
def loopOn (st : LoopState) : State := up0.setLoop 23 fun L => { L with state := st }
def loopImage : Packet :=
  let b := List.replicate 0x340 (0 : Byte)
  argPacket 23 [] (b ++ leBytes 4 (crc32c b).toNat)
def tracking (m : Mode) : State := (inMode m).setStation 4 fun st => { st with scan := { st.scan with state := .track } }
def linkIn (st : LinkState) : State :=
  (inMode .ready).setStation 4 fun x => { x with link := { x.link with state := st, retLocked := true } }
def loopable : State := (inMode .service).setStation 4 fun x => { x with link := { x.link with caps := 4 } }
def looping (e : Nat) : State :=
  (inMode .service).setStation 4 fun x => { x with link := { x.link with state := .loopback, loopEnds := e } }
def switchable (m : Mode) : State := planOn 4 1 (inMode m)
def leadOf (synced : Bool) : State :=
  { up0 with pair := { Pair.reset with role := .lead, paired := true, lanes := 2, peerRole := 2, synced := synced } }
def shadowUp : State := { up0 with pair := { Pair.reset with role := .shadow, paired := true, lanes := 2, peerRole := 1 } }

def slotted : State := (loopOn .opened).setImm (Fld.FZ_SLOT 3) 23
def storedPlans : State :=
  { inMode .service with nv := { stored.nv with plans := [[(0, [1])], []] } }
def unread : State := { inMode .standby with supply := { Supply.reset with vin := 480 } }

/-! Queues and the management port. -/

def subUp : State := up0.setImm (Fld.QUE_ENABLE 0) 1
def compUp : State := up0.setImm (Fld.QUE_ENABLE 8) 1
def coalUp : State :=
  ((compUp.setImm (Fld.QUE_IRQ_EN 8) 1).setImm (Fld.QUE_COAL_TIME 8) 5).setQueue 8 fun Q => { Q with oldest := some 5 }
def anEvent : Entry := .event ⟨1, 1, 0xFF, 1, 0, 1, 0xFF, []⟩
def mgmtUp : State := { up0 with mgmt := ⟨[anEvent], none, 0⟩ }
def goodFrame : List Byte :=
  let b := [0xA5, 0x40] ++ List.replicate 64 (0 : Byte)
  b ++ leBytes 2 (crc16 b).toNat

/-! Tumbler, domains, stops, boot. -/

def anApply : Apply := ⟨1, 31, [], [], 50, none, false⟩
def waitingApply : State := { up0 with tumbler := { Tumbler.reset with waiting := [anApply] } }
def goingDown : State := up0.setStation 4 fun st => { st with pending := some 3 }
def wentDown : State := up0.setStation 4 fun st => { st with powered := false }
def inResetOf (f : Nat) : State := { up0 with resets := ⟨2 ^ f, List.replicate 15 0, []⟩ }
def drainingUp : State := { inMode .ready with modes := { (inMode .ready).modes with draining := true } }
def stoppingUp (k : Stopping) : State := { inMode .ready with modes := { (inMode .ready).modes with stopping := k } }
def printDrain : State := { inMode .printing with modes := { (inMode .printing).modes with draining := true } }
def standbyStop : State := { inMode .standby with modes := { (inMode .standby).modes with stopping := .safe } }
def allWarm : State :=
  { inMode .warming with modes := { (inMode .warming).modes with warmDone := warmSteps, allHeld := some 5 } }
def initCmd : Cmd := { aCmd Op.INIT_MEMORY (pk 0xFFFF []) with notes := [4, 4, 4, 4, 4, 8] }
def initialising : State := { up0 with running := [initCmd] }
def heldDown : State := { State.reset with pins := { Pins.reset with resetn := false } }
def booting : State := { State.reset with boot := { Boot.reset with phase := 4 } }
def electing : State := { up0 with pair := { Pair.reset with paired := true } }
def dormantUp : State := { up0 with modes := { Modes.reset with mode := .dormant } }
def wakingUp : State := { up0 with modes := { Modes.reset with mode := .dormant, waking := true } }
def supplyOff : State := { State.reset with supply := { Supply.reset with on := false } }
def warned : State := { up0 with supply := { Supply.reset with warning := true } }
def linkDown : State := { up0 with bus := { Bus.reset with linkUp := false } }

/-! Sheets and the path. -/

def starving : State := { withSheet .ready .accepted with sheets := { (withSheet .ready .accepted).sheets with starved := some 5 } }
def atGate : State := setLiv (Fld.STN_PERIOD_NOM 0) 100000 (withSheet .printing .registered)
def gatePassed : State :=
  { withSheet .printing .registered with sheets := { (withSheet .printing .registered).sheets with hingeReady := some 3 } }
def heldSheet : Sheet := { aSheet .registered with gateFail := some 5 }
def gateFailed : State := putSheet heldSheet (inMode .printing)
def trackWord : Word := wordWith 0 (Fld.SS_ROLE 0) 2
def pickFailing : State := { withSheet .ready .accepted with run := { Run.reset with slowStep := 1 } }
def watchedUp : State := (inMode .ready).setImm (Fld.SS_ROLE 63) 2
def awaitedTrack : Track := ⟨5, trackWord, wordWith 0 (Fld.SS_EXP 0) 10, none, none⟩
def awaitedSheet : Sheet := { aSheet .picked with tracks := [awaitedTrack] }
def awaitedCentre : Nat := 100000
def awaited : State := putSheet awaitedSheet (inMode .printing)
def coveredTrack : Track := { awaitedTrack with lead := some 7 }
def coveredSheet : Sheet := { aSheet .picked with tracks := [coveredTrack] }
def cover (s : State) : State := { s with path := { s.path with level := s.path.level.set 5 true } }
def covered : State := cover (putSheet coveredSheet (inMode .printing))
def coveredService : State := cover (inMode .service)
def aStep : StepTrack := ⟨2, wordWith 0 (Fld.PATH_AXIS 0) 23, 0, 0, some (5, 0), 0, false⟩
def stepSheet : Sheet := { aSheet .picked with steps := [aStep] }
def stepDue : State := putSheet stepSheet (setLiv (Fld.AXS_EN 23) 1 (inMode .printing))

/-! Stations. -/


def windowOpen : State :=
  (tracking .ready).setStation 4 fun st => { st with scan := { st.scan with window := true } }
def withPll (f : Pll → Pll) : State := (inMode .ready).setStation 4 fun st => { st with pll := f st.pll }
def lockable : State :=
  (((withPll fun p => { p with enabled := true, trying := true, started := 9 }).setImm (Fld.STN_BAND_VALID 4 0) 1).setImm (Fld.STN_BAND_LO 4 0) 0).setImm
    (Fld.STN_BAND_HI 4 0) 4095
def lockedUp : State := withPll fun p => { p with enabled := true, locked := true }
def aLockApply : Apply := ⟨Grp.STN_LINE, 4, [], [], 50, none, true⟩
def lockWait : State := { up0 with tumbler := { Tumbler.reset with waiting := [aLockApply] } }
def surveying : State := withPll fun p => { p with survey := true }
def slowUp (k : Nat) : State := { inMode .printing with run := { Run.reset with slowStep := k, slowN := 16 } }
def sampled : State :=
  (inMode .service).setStation 4 fun st => { st with
    pipe := { st.pipe with calMask := 2, calSamples := List.replicate 8 (1, 100) } }
def aJob : CaptureJob := ⟨4, 9, 0, 1, 1, 0, 0, 64, true, 1, 0, 1, 0, 0, false, []⟩
def captured : State := { inMode .ready with captures := [aJob] }

/-! Feed and DMA. -/

/-- A RAW block of one line of `bpd` bits a dot. -/
def rawBlock (dots bpd : Nat) (orig : List Byte) : List Byte :=
  let h := leBytes 2 0x5853 ++ leBytes 1 1 ++ leBytes 1 3 ++ leBytes 2 dots ++ leBytes 1 1 ++ leBytes 1 bpd ++
    leBytes 4 orig.length ++ leBytes 4 (orig.length + 32) ++ leBytes 4 (crc32c orig).toNat ++ leBytes 1 0 ++ leBytes 1 0 ++
    leBytes 2 0 ++ leBytes 4 7 ++ leBytes 2 0
  h ++ leBytes 2 (crc16 h).toNat ++ orig
def goodOrig : List Byte := List.replicate 128 0
def goodBlock : List Byte := rawBlock 1024 1 goodOrig
def freshBand : Band := ⟨0, 0, 0, 1, 160, true, true, .waiting, 0, 0, none, [], []⟩
def goodBand : Band := { freshBand with state := .decoding, block := goodBlock }
def bandSheet (b : Band) : Sheet := { aSheet .accepted with bands := [b] }
def lineSet (s : State) : State := setLiv (Fld.STN_PERIOD_NOM 0) 100000 (setLiv (Fld.STN_LINE_KDOTS 0) 1 s)
def bandUp (b : Band) : State := lineSet (planOn 0 0 (putSheet (bandSheet b) (inMode .ready)))
def waitingBand : State := bandUp freshBand
def waitingKey : Int × Nat × Nat := ((waitingBand.inOrder fun b => b.state = .waiting).headD (0, 0, 0))
def stagedBand : State := bandUp { freshBand with state := .staged }
def decodingSheet : Sheet := bandSheet goodBand
def decoding : State := (bandUp goodBand).setEngine 11 fun E => { E with job := some (3, 0) }
def redoLost : State := (bandUp freshBand).setEngine 11 fun E => { E with job := some (3, 0), redo := true }
def aDesc : List Byte :=
  let b := leBytes 8 64 ++ leBytes 4 0 ++ leBytes 4 64 ++ leBytes 8 0 ++ leBytes 2 0xE8 ++ leBytes 2 5
  b ++ leBytes 4 (crc32c b).toNat
def aList : DmaList := ⟨aCmd Op.DMA_START (pk 15 []), 0, 1, 0, 0⟩
def listed : State :=
  { (inMode .ready).setChannel 15 (fun C => { C with lists := [aList] }) with feed := { Feed.reset with winMiB := List.replicate 5 4 } }
def withDesc (d : Desc) (s : State) : State := s.setChannel 15 fun C => { C with lists := [aList], cur := some d }
def scratchDesc : Desc := ⟨64, 0, 64, 0, 0xE8, 5, false, none, 0, [], false⟩
def movingUp : State := withDesc scratchDesc (inMode .ready)
def outDesc : Desc := { scratchDesc with flags := 0xE9 }
def heldDma : State := { inMode .ready with dma := { Dma.reset with stopped := true } }
def aLanding : Landing := ⟨3, 0, 1, []⟩
def landingUp : State := (inMode .ready).setChannel 15 fun C => { C with landing := [aLanding] }
def requestedBand : Band :=
  { freshBand with state := .requested, lines := 1, comp := 544, reqSeq := 1 }
def requestedSheet : Sheet := bandSheet requestedBand
def stageLine : List Byte := (rawBlock 1024 4 (List.replicate 512 0)).take 64
def stageDesc : Desc := ⟨64, 0, 544, 0, 0, 5, false, none, 0, [], false⟩
def stagingUp : State :=
  withDesc stageDesc { bandUp requestedBand with
    feed := { Feed.reset with ring := [⟨3, 0, 7, 0, 576, 0, false⟩] } }
def takenDesc : Desc := { stageDesc with target := some (3, 0) }
def takenUp : State := withDesc takenDesc (bandUp requestedBand)

/-! Drives, axes, high voltage, the fuser, measurement. -/

def quietInput : DriveInput := ⟨0, 0, 0, 0, 0, 0, 0, 0, 0, 0⟩
def onDrive (f : Drive → Drive) : State := (driveOn .run).setDrive 11 f
def implausibleUp : State := onDrive fun D => { D with speed := 16 * 30000, failTicks := [sec 10, 0, 0, 0] }
def slowImplausible : State :=
  (onDrive fun D => { D with failTicks := [sec 10, 0, 0, 0] }).setImm (Fld.DRV_ZC_MIN 11) 1
def bridgeOn : State := onDrive fun D => { D with bridge := true }
def loudInput : DriveInput := { quietInput with ia := 100000 }
def missedOne : State := onDrive fun D => { D with state := .fallback, missed := 1, zcTimes := [0, 1] }
def secondStart : State := ((onDrive fun D => { D with state := .start, attempts := 1 }).setImm (Fld.DRV_ACC 11) 1000).setImm (Fld.DRV_HANDOVER 11) 1
def aStopMove : SpeedMove := ⟨0, 0, 0, 0, true, false⟩
def stoppedDrive : State := onDrive fun D => { D with move := some aStopMove }
def distrusted : State := onDrive fun D => { D with distrust := true, encAgree := ms 64 }
def openPhase : State := onDrive fun D => { D with bridge := true, lowPhase := 256 }
def aligningUp : State := onDrive fun D => { D with state := .start, aligning := true }
def retrying : State := onDrive fun D => { D with state := .start, waiting := true }
def pendingUp : State := onDrive fun D => { D with state := .off, pending := true }
def aSpeedMove : SpeedMove := ⟨0, 0, 0, 0, false, false⟩
def movingDrive : State := onDrive fun D => { D with move := some aSpeedMove }
def braking : State :=
  { (onDrive fun D => { D with state := .fluxBrake, restSince := some 7 }) with running := [aCmd Op.DRIVE_BRAKE (pk 11 [])] }
def energised : State := axisOn.setAxis 23 fun a => { a with energised := true, state := .hold }
def groupWaits : State :=
  let m : AxisMove := ⟨.member 7, 100, some 3, 0, 0, 0, 0, 0, 0, []⟩
  (groupOn.setAxis 22 fun a => { a with queue := [m] }).setAxis 23 fun a => { a with queue := [m] }
def groupFast : State :=
  setLiv (Fld.AXS_SCALE 22) 1000000 <| setLiv (Fld.AXS_SCALE 23) 1000000 <| setLiv (Fld.AXS_PERIOD 22) 1000 <| setLiv (Fld.AXS_PERIOD 23) 1000 <| groupWaits.setImm (Fld.GRP_V 7) 0xFFFFFFFF
def stalling : State := axisOn.setAxis 23 fun a => { a with stall1 := some 7 }
def reversing : State := up0.setEncoder 7 fun e => { e with high := 10000 }
def sampling : State := setLiv (Fld.LOOP_SAMPLE 23) 100 (loopOn .closed)
/-- The loop drives the bridge of drive 0, which is off. -/
def destOff : State :=
  (setLiv (Fld.LOOP_NY 23) 1 sampling).setLiveReg (Reg.LOOP_OUTSEL 23) 0x20
def rearming : State :=
  { up0.setLoop 23 (fun L => { L with state := .opened }) with resets := ⟨0, List.replicate 15 0, [(23, 0)]⟩ }
def hvOn : State := (inMode .ready).setHv 23 fun h => { h with en := true, rampEnd := some 5, inSince := some 6 }
def arced : State := (inMode .ready).setHv 23 fun h => { h with en := true, arcPause := true }
def fuserReset : State := inResetOf Fn.FUSER
def noMains : State := { up0 with safety := { Safety.reset with zcLost := true } }
def heating : State := up0.setZone 3 fun Z => { Z with highFrom := some (7, -2000) }
def coldZone : State := up0.setZone 3 fun Z => { Z with highFrom := some (7, 2000) }
def slicing : State := up0.setBank 2 fun B => { B with calSlice := 4 }
def zeroing : State := { up0 with now := sec 60, key := { up0.key with renewed := sec 60 }, running := [aCmd Op.AFE_CALIBRATE (pk 23 [1])] }
def storingTrim : State := { flashOn .standby with nv := { (flashOn .standby).nv with storing := some (4, 4) } }
def storingUp : State := { flashOn .standby with nv := { (flashOn .standby).nv with storing := some (2, 2) } }

/-! The pair. -/

def unackedUp : State := { leadOf true with pair := { (leadOf true).pair with unacked := [(1, 5)] } }
def fencing : State := { leadOf false with pair := { (leadOf false).pair with fenceFrom := some 7 } }
def convergedUp : State := { shadowUp with pair := { shadowUp.pair with axes := true } }
def syncingUp : State := { leadOf false with pair := { (leadOf false).pair with syncing := true } }


/-! Claims, fetches, records. -/

def claimA : Claim := ⟨1, 2, { aCmd Op.CLAIM_KEY (pk 0xFFFF [2]) with seq := 4 }⟩
def claimB : Claim := ⟨0, 5, { aCmd Op.CLAIM_KEY (pk 0xFFFF [5]) with seq := 6 }⟩
def twoClaims : State :=
  { freeKey with
    key := { freeKey.key with windowOpen := true, windowEnds := 100, claims := [claimA, claimB] } }
def fetchable : State := subUp.setQueue 0 fun Q => { Q with tail := 1 }
def aRecord : Record := ⟨3, 1, 2, 7, 8, 9, 10, 11, 12, 0, 0, 0, 0, -5, 1, 1⟩
def aRequest : DataRequest := ⟨1, 2, 3, 4, 5, 6, 7, 8, 9, 0⟩

/-! Ill-formed commands: one for each check of WellFormed, all refused. -/

theorem test_wf_packet_fields :
    (Packet.wf { pk 0 [] with master := 3 } || Packet.wf { pk 0 [] with sq := 32 } || Packet.wf { pk 0 [] with index := 4096 } ||
      Packet.wf { pk 0 [] with tag := 1024 } || Packet.wf { pk 0 [] with cq := 256 } || Packet.wf (pk 65536 []) ||
      Packet.wf { pk 0 [] with params := [0] }) = false ∧ (pk 65535 []).wf = true := by decide +kernel

theorem test_wf_accesses :
    ([HostAccess.fetch 32, .post 32, .args 3 0, .result 0 1024, .index 2031616].any HostAccess.wf ||
      [MemReader.window 5, .lookahead 5, .engine 12, .dma 16, .command 3 0, .command 0 1024, .load 5 0, .load 0 34].any MemReader.wf)
      = false := by decide +kernel

theorem test_wf_mirrored_changes :
    ([JournalChange.state 24 0, .state 0 7, .stamp 0 18, .gap 24 0, .retries 24 0, .free 24, .failover 5 0, .failover 0 36,
        .slow 5 0 0, .slow 0 34 0, .mode 6].any JournalChange.wf ||
      [ConfigChange.register 0x80000 0, .register 2 0, .applied 0 0, .applied 10 0, .applied 1 32, .trim 5 0 0 [], .trim 0 34 0 [],
        .trim 0 0 32768 [0], .plan 5 0 [], .plan 0 36 []].any ConfigChange.wf) = false := by decide +kernel

theorem test_wf_queues_and_registers :
    ([Instr.packetFetch 32 [(List.replicate 64 0, none)] 0, .packetFetch 0 [] 0, .packetFetch 0 [([], none)] 0,
      .packetFetch 0 (List.replicate 9 (List.replicate 64 0, none)) 0, .doorbellTail 32 0 0, .doorbellHead 32 0 0,
      .queueEnable 3 0 0, .queueEnable 0 32 0, .queueDisable 3 0 0, .queueDisable 0 32 0, .coalTimeExpiry 32,
      .hostAccessError (.fetch 32) 0, .registerWrite 3 0 4 0 0, .registerWrite 0 0 3 0 0, .lowWordRead 3 0, .tumblerApply 3 0 0,
      .tumblerLand 0 0 0, .tumblerLand 10 0 0, .tumblerTimeout 1 32].any Instr.wf) = false := by decide +kernel

theorem test_wf_register_rows :
    ([Instr.segSwap 3 0 0, .segSwap 0 5 0, .segSwapLand 5, .segPhaseWrite 0 5 0, .dctDataWrite 0 5 0, .coefDataWrite 0 24 0,
      .afeChDataWrite 3 0, .emitMark 0 5 0, .emitFailClear 0 5 0 0, .magWrite 0 5 0, .masterStnWrite 3 0, .keyCfgWrite 3 0,
      .busCfgWrite 3 0, .pairCfgWrite 3 0, .chopperClear 3 0 0, .stnPowerDown 3 0 0, .stnPowerUp 3 0 0, .stnDomainOff 5,
      .powerWaitExpiry 5, .capArm 0 12 0, .stnStatClr 0 5 0, .drvStatClr 0 12 0, .afeStatClr 3 0, .stationReset 5 0,
      .functionResetDone 15].any Instr.wf) = false := by decide +kernel

theorem test_wf_sheet_and_station_rows :
    ([Instr.pickGate 24 0, .hingeGate 24 0, .hinge 24 0, .regHoldMaxExpiry 24, .sensorLeadEdge 64 0, .sensorTrailEdge 64 0,
      .jamWindowClose 25 0, .jamWindowClose 0 64, .trailMaxExpiry 25 0, .pathStepFire 0 16, .bdEdge 5 0 0 true 20, .spuriousEdge 5 0,
      .missingSweep 5, .syncWindowOpen 5, .lineStart 5 [], .endOfActiveScan 5 [], .pllLock 5 0 0,
      .pllUnlock 5 [] none 0, .relockMaxExpiry 5, .readyMsg 5 0 0, .readyMsg 0 65536 0, .apcSample 0 0 34 0 0 0,
      .segError 0 0 (2 ^ 32) 0 0 0, .statusMsg 0 128 0 0 0 0, .retTimeout 5 0, .retAlignLost 5 0, .headCalDone 5,
      .captureDone 5, .stnDomainOn 5].any Instr.wf) = false := by decide +kernel

theorem test_wf_engine_and_motion_rows :
    ([Instr.engineVerdict 12 none 0, .engineTimeout 12, .stagingFirstLine 16 (List.replicate 64 0) 0, .stagingFirstLine 0 [] 0,
      .bandStaged 16 [] 0, .descriptorFetch 0 [], .descriptorDone 16 [] 0, .dmaBusError 16 true 0, .completionTimeout 16,
      .memCheckFail 0 (List.replicate 64 0) 0 (.engine 12) 0, .memCheckFail 0 [] 0 .mirror 0, .scrubStep [] 0, .bemfZeroCross 12 0 0, .alignDone 12, .axisMoveEnd 24, .groupMoveStart 8 0, .stall 24,
      .encReversal 8 0, .axisCurrentUpdate 24 0, .loopSample 24 0, .hvSettled 24, .arcOffExpiry 24, .fuserRiseCheck 4, .calPeriodExpiry 3, .autozero 160 0,
      .storeDone 3 [] 0, .loopin 24 [] 0 0, .arbMsg 0 0 { pk 0 [] with master := 3 } 0, .configMsg (.plan 5 0 []),
      .journalMsg (.free 24) none, .journalMsg (.gate 0 2) none, .encIndexEdge 8 0].any Instr.wf) = false := by decide +kernel

/-- The state after the front command of the queue. -/
def afterStep (s : State) : State := match step s with | .next t => t | _ => s
def run1 (i : Instr) (s : State) : State := afterStep { s with pending := [i] }

/-! Checks and layouts, by the values the manual gives. -/

/-- 03 R65: the CRC-32C of "123456789" is 0xE3069283. -/
theorem test_crc32c : crc32c [0x31, 0x32, 0x33, 0x34, 0x35, 0x36, 0x37, 0x38, 0x39] = 0xE3069283 := by decide +kernel

/-- 24 R490: STN0_PIX_RATE is at 0x1_0114, dword index 0x4045. -/
theorem test_pix_rate_address : Reg.STN_PIX_RATE 0 = 0x10114 ∧ Reg.STN_PIX_RATE 0 / 4 = 0x4045 := by decide

/-- 16: PATH5_TRIG is at 0x0_667C, PATH5_DELAY and PATH5_VALUE at 0x0_66C0 and 0x0_66C4. -/
theorem test_path5_addresses :
    Reg.PATH_TRIG 5 = 0x667C ∧ Reg.PATH_DELAY 5 = 0x66C0 ∧ Reg.PATH_VALUE 5 = 0x66C4 := by decide

/-- 24 R490: the entry 0x0780_4045, 0x0000_0973 sets MAG 2,419 on S0. -/
theorem test_cfg_write_mag :
    let t := run1 (.cfgWrite (pk 0xFFFF ([1, 0, 0, 0] ++ leBytes 4 0x07804045 ++ leBytes 4 0x973))) up0
    t.imm (Fld.STN_MAG 0) = 2419 ∧ t.refused = 0 := by decide +kernel

/-! The block decoded by hand (07). -/

/-- The lengths of its tokens. -/
theorem test_tokens_by_hand :
    tokenLength 62 [0x25, 0x00] = some (100, [0x00]) ∧ tokenLength 3 [0x21] = some (4, [0x21]) ∧
      tokenLength 63 [0x59, 0x06, 0x88] = some (1944, [0x88]) ∧ tokenLength 62 [0x29] = some (104, []) ∧
      tokenLength 63 [0x56, 0x06] = some (1941, []) := by decide

/-- Its two lines with the long runs of level 8 cut short: W 108, REP of 4, UP1 of 104, UP1 of 1. -/
theorem test_lines_by_hand :
    (decodeTokens 108 216 216 ([0x7E, 0x25, 0x00, 0x03, 0x21, 0x43, 0x65, 0x87, 0x43, 0x88, 0xBE, 0x29, 0x02, 0x98, 0xA9, 0x98,
        0x80]) []).map List.reverse =
      some (List.replicate 100 0 ++ [0x21, 0x43, 0x65, 0x87, 0x88, 0x88, 0x88, 0x88] ++
        List.replicate 100 0 ++ [0x21, 0x43, 0x65, 0x87, 0x98, 0xA9, 0x98, 0x88]) := by decide +kernel

def handHeader : BlockHeader :=
  readHeader ([0x53, 0x58, 1, 0, 0, 0x10, 2, 4, 0, 0x10, 0, 0, 0x35, 0, 0, 0, 0, 0, 0, 0, 2, 0, 7, 0, 0x66, 0, 0, 0, 0x0E, 0, 0, 0])

theorem test_header_by_hand :
    handHeader.dots = 4096 ∧ handHeader.lines = 2 ∧ handHeader.bpd = 4 ∧ handHeader.origLen = 4096 ∧ handHeader.compLen = 53 ∧
      handHeader.station = 2 ∧ handHeader.band = 7 ∧ handHeader.sheetId = 102 ∧ handHeader.first = 14 ∧
      handHeader.width = 2048 := by decide

/-- R148: an UP1 token in the first line is malformed, and so is a payload left over. -/
theorem test_malformed_tokens :
    decodeTokens 4 8 8 [0x80] [] = none ∧ decodeTokens 4 4 4 [0x43, 0x11, 0x00] [] = none ∧
      decodeTokens 4 8 8 [0x43, 0x11, 0x83] [] = some (List.replicate 8 0x11) := by decide

/-! Plans (11). -/

def resetOffsets (e : Nat) : Nat := e
def straightPlan : Plan :=
  { aPlan with n := 32, cycle := 1, passes := 1, lanes := List.range 32, phases := List.replicate 32 0 }
/-- The speed-changing alternate for E30 of the manual: E0 to E29, E31 and E32 at N 25. -/
def altPlan : Plan :=
  let lanes := List.range 30 ++ [31, 32]
  let rest (e : Nat) : Nat := if [0, 25, 1, 26, 2, 27, 3, 28, 4, 29, 6, 31, 7, 32].contains e then 128 else 0
  { aPlan with n := 25, cycle := 2, passes := 1, lanes, phases := List.replicate 32 0 ++ lanes.map rest }

/-- A sheet of 42,496 lines takes sweeps 0 to 1,327, and the reach is 47 lines. -/
theorem test_straight_plan :
    straightPlan.reach resetOffsets = 47 ∧ straightPlan.firstK resetOffsets 42496 = 0 ∧
      straightPlan.lastK resetOffsets 42496 = 1327 := by decide +kernel

/-- Its reach is 48 lines, its first sweep k = 0; E7 writes line 7 in sweep 0; every line is written once. -/
theorem test_alternate_plan :
    altPlan.reach resetOffsets = 48 ∧ altPlan.firstK resetOffsets 42496 = 0 ∧
      altPlan.writesOf resetOffsets 7 = [(7, 0)] ∧ planPasses altPlan resetOffsets = none := by decide +kernel

/-- The reference engine: at N′ = 25 the sweep still holds a line, at N′ = 24 it does not; the polygon turns at 28,347 rpm. -/
def refEngine : State :=
  setLiv (Fld.STN_FACETS 0) 8 <| setLiv (Fld.STN_START_DOTS 0) 2764 <| setLiv (Fld.STN_LINE_KDOTS 0) 32 <|
    ((up0.setImm (Fld.STN_SYNC_LEAD 0) 512).setImm (Fld.STN_BD_WIN 0) 16).setImm (Fld.DRV_RUN_RPM 0) 22146

theorem test_reference_engine :
    refEngine.retraceFits 0 36571 = true ∧ refEngine.retraceFits 0 35109 = false ∧ refEngine.run.baseN = 32 ∧
      refEngine.polygonRpm 0 25 = 28347 := by decide +kernel

/-! Single steps. -/

/-- 05 R108: SAFE_STOP in STANDBY only latches HOST_STOP. -/
theorem test_safe_stop_in_standby :
    let t := run1 (.safeStop (pk 0xFFFF [])) up0
    t.modes.haltMask = 1 ∧ t.mode = .standby ∧ t.modes.stopping = .none := by decide +kernel

/-- 04 R88: a command of a master without the key completes NOT_OWNER; the completion waits for a live COMPLETION queue. -/
theorem test_not_owner :
    let t := run1 (.safeStop { pk 0xFFFF [] with master := 1 }) up0
    t.modes.haltMask = 0 ∧ t.arbSeq = 1 := by decide +kernel

/-- 03 R60: TAIL moves on a doorbell within the queue's size; a value beyond it only sets DOORBELL_ERR. -/
theorem test_doorbell_tail :
    ((run1 (.doorbellTail 0 1 9) subUp).queue 0).tail = 1 ∧
      ((run1 (.doorbellTail 0 0xFFFF 9) subUp).queue 0).stat % 2 = 1 := by decide +kernel

/-- 04 R91: the first claim of a free key opens the window. -/
theorem test_claim_opens_window :
    let t := run1 (.claimKey (pk 0xFFFF [3])) freeKey
    t.key.holder = 3 ∧ t.key.windowOpen = true ∧ t.key.claims.map Claim.prio = [3] := by decide +kernel

/-- 17 R369: an interlock that opens latches INTERLOCK and holds the lasers off. -/
theorem test_interlock :
    let t := run1 (.interlockOpen 9) (inMode .ready)
    t.modes.haltMask.getLsbD Halt.INTERLOCK = true ∧ t.modes.stopping ≠ .none := by decide +kernel

/-- 24 R479: a direct write of a read-only register is discarded and counted; a plain one is stored. -/
theorem test_register_writes :
    (run1 (.registerWrite 0 (Reg.STN_PIX_RATE 0) 4 2419 9) up0).imm (Fld.STN_MAG 0) = 2419 ∧
      (run1 (.registerWrite 0 (Reg.STN_PIX_RATE 0) 2 2419 9) up0).refused = 1 := by decide +kernel

/-- A command of the model's queue leaves the others in order. -/
theorem test_queue_order :
    (afterStep { up0 with pending := [.wakeDone, .zcLost, .keyLapse] }).pending = [.zcLost, .keyLapse] := by decide +kernel

/-! For each statement with hypotheses, states and operands that meet them. -/

theorem witness_ReportsComplete :
    (∃ (s : State) (p : Packet), s.admits Op.NOP .observer p ∧ p.target = 0xFFFF ∧ onlyParams p [] = true) ∧
    (∃ (s : State) (p : Packet), s.admits Op.GET_INFO .observer p ∧ p.target = 0xFFFF ∧ onlyParams p [(0, 1)] = true ∧ par p
      0 1 ≤ 6) ∧
    (∃ (s : State) (p : Packet), s.admits Op.GET_MODE .observer p ∧ p.target = 0xFFFF ∧ onlyParams p [] = true) ∧
    (∃ (s : State) (p : Packet), s.admits Op.GET_KEY .observer p ∧ p.target = 0xFFFF ∧ onlyParams p [] = true) ∧
    (∃ (s : State) (p : Packet), s.admits Op.SHEET_QUERY .observer p ∧ p.target < 24 ∧ onlyParams p [] = true) ∧
    (∃ (s : State) (p : Packet) (i : Nat), s.admits Op.SHEET_QUERY .observer p ∧ p.target = 0xFFFF ∧ onlyParams p [(0, 4)] =
      true ∧ s.slotOf (par p 0 4) = some i) ∧
    (∃ (s : State) (p : Packet), s.admits Op.DMA_STATUS .observer p ∧ (p.target < 16 ∨ p.target = 0xFFFF) ∧ onlyParams p [] =
      true) ∧
    (∃ (s : State) (p : Packet), s.admits Op.MOTION_STATUS .observer p ∧ (par p 0 1 = 0 ∧ p.target < 24 ∨ par p 0 1 = 1 ∧
      p.target < 8 ∨ par p 0 1 = 2 ∧ p.target < 12) ∧ onlyParams p [(0, 1)] = true) ∧
    (∃ (s : State) (p : Packet), s.admits Op.LOOP_STATUS .observer p ∧ p.target < 24 ∧ onlyParams p [] = true) ∧
    (∃ (s : State) (p : Packet), s.admits Op.SUPPLY_STATUS .observer p ∧ (par p 0 1 < 2 ∧ p.target = 0xFFFF ∨ par p 0 1 = 2 ∧
      p.target < 24 ∨ par p 0 1 = 3 ∧ p.target < 4) ∧ onlyParams p [(0, 1)] = true) ∧
    (∃ (s : State) (p : Packet), s.admits Op.CAL_STATUS .observer p ∧ (par p 0 1 = 0 ∧ p.target = 0xFFFF ∨ par p 0 1 = 1 ∧
      p.target < 3 ∨ par p 0 1 = 2 ∧ p.target < 5) ∧ onlyParams p [(0, 1)] = true) ∧
    (∃ (s : State) (p : Packet), s.admits Op.MEM_STATUS .observer p ∧ (par p 0 1 < 2 ∧ p.target = 0xFFFF) ∧ onlyParams p [(0,
      1)] = true) ∧
    (∃ (s : State) (p : Packet), s.admits Op.PAIR_STATUS .observer p ∧ par p 0 1 ≤ 2 ∧ p.target = 0xFFFF ∧ onlyParams p [(0,
      1)] = true) ∧
    (∃ (s : State) (p : Packet), s.admits Op.FUSE_READ .observer p ∧ p.target = 0xFFFF ∧ onlyParams p [(0, 2)] = true ∧ 1 ≤
      par p 0 1 ∧ par p 0 1 ≤ 8 ∧ (par p 0 1 = 3 ∧ par p 1 1 ≤ 4 ∨ par p 0 1 ≠ 3 ∧ par p 1 1 = 0)) ∧
    (∃ (s : State) (p : Packet), s.admits Op.FUSE_READ .observer p ∧ p.target = 0xFFFF ∧ onlyParams p [(0, 2)] = true ∧ 1 ≤
      par p 0 1 ∧ par p 0 1 ≤ 8 ∧ (par p 0 1 = 3 ∧ par p 1 1 ≤ 4 ∨ par p 0 1 ≠ 3 ∧ par p 1 1 = 0)) :=
  ⟨⟨up0, pk 0xFFFF [], by decide +kernel⟩,
    ⟨up0, pk 0xFFFF [6], by decide +kernel⟩,
    ⟨up0, pk 0xFFFF [], by decide +kernel⟩,
    ⟨up0, pk 0xFFFF [], by decide +kernel⟩,
    ⟨up0, pk 23 [], by decide +kernel⟩,
    ⟨withSheet .ready .accepted, pk 0xFFFF [7], 3, by decide +kernel⟩,
    ⟨up0, pk 15 [], by decide +kernel⟩,
    ⟨up0, pk 11 [2], by decide +kernel⟩,
    ⟨up0, pk 23 [], by decide +kernel⟩,
    ⟨up0, pk 3 [3], by decide +kernel⟩,
    ⟨up0, pk 4 [2], by decide +kernel⟩,
    ⟨up0, pk 0xFFFF [1], by decide +kernel⟩,
    ⟨up0, pk 0xFFFF [2], by decide +kernel⟩,
    ⟨up0, pk 0xFFFF [3, 4], by decide +kernel⟩,
    ⟨up0, pk 0xFFFF [5], by decide +kernel⟩⟩

theorem witness_RecordingComplete :
    (∃ (s : State) (p : Packet), s.admits Op.CFG_READ .observer p ∧ p.target = 0xFFFF ∧ par p 0 8 % 4 = 0 ∧ readSels p ≠ 0 ∧
      (par p 0 8 = 0 → readSels p = 1) ∧ (List.range 10).all (fun i => if i < readSels p then bitsOf (readSel p i) 19 12 = 0
      else readSel p i = 0) = true) ∧
    (∃ (s : State) (p : Packet), s.admits Op.CFG_READ .observer p ∧ p.target = 0xFFFF ∧ par p 0 8 % 4 = 0 ∧ readSels p ≠ 0 ∧
      (par p 0 8 = 0 → readSels p = 1) ∧ (List.range 10).all (fun i => if i < readSels p then bitsOf (readSel p i) 19 12 = 0
      else readSel p i = 0) = true) ∧
    (∃ (s : State) (p : Packet), s.admits Op.COUNTERS_READ .observer p ∧ 1 ≤ par p 0 1 ∧ par p 0 1 ≤ 9 ∧ par p 1 1 = 0 ∧ (par
      p 0 1 = 1 → (s.station p.target).powered = true ∧ (s.station p.target).pending = none) ∧ if par p 0 1 ≤ 7 then p.target
      < (counterBlocks.getD (par p 0 1 - 1) (0, 0, 0, 0)).1 else p.target = 0xFFFF ∧ onlyParams p [(0, 2), (8, 8)] = true ∧
      par p 8 8 ≠ 0 ∧ par p 8 8 % 4 = 0) ∧
    (∃ (s : State) (p : Packet), s.admits Op.COUNTERS_READ .observer p ∧ 1 ≤ par p 0 1 ∧ par p 0 1 ≤ 9 ∧ par p 1 1 = 0 ∧ (par
      p 0 1 = 1 → (s.station p.target).powered = true ∧ (s.station p.target).pending = none) ∧ if par p 0 1 ≤ 7 then p.target
      < (counterBlocks.getD (par p 0 1 - 1) (0, 0, 0, 0)).1 else p.target = 0xFFFF ∧ onlyParams p [(0, 2), (8, 8)] = true ∧
      par p 8 8 ≠ 0 ∧ par p 8 8 % 4 = 0) ∧
    (∃ (s : State) (p : Packet), s.admits Op.AUDIT_READ .observer p ∧ p.target = 0xFFFF ∧ onlyParams p [(0, 8)] = true ∧ 1 ≤
      par p 4 4 ∧ par p 4 4 ≤ 4096 ∧ (findQueue fun q => s.queueType q = Ty.AUDIT).isSome = true) ∧
    (∃ (s : State) (p : Packet), s.admits Op.TRACE_START .owner p ∧ s.trace.running = false ∧ p.target = 0xFFFF ∧ onlyParams
      p [(0, 7)] = true ∧ par p 0 4 ≤ 0xFF ∧ par p 4 1 ≤ 31 ∧ par p 5 1 ≤ 23 ∧ par p 6 1 ≤ 1) ∧
    (∃ (s : State) (p : Packet), s.admits Op.TRACE_STOP .owner p ∧ p.target = 0xFFFF ∧ onlyParams p [(0, 12)] = true ∧ par p
      0 8 % 4 = 0) ∧
    (∃ (s : State) (p : Packet), s.admits Op.TRACE_STOP .owner p ∧ p.target = 0xFFFF ∧ onlyParams p [(0, 12)] = true ∧ par p
      0 8 % 4 = 0) ∧
    (∃ (s : State) (p : Packet), s.admits Op.EVENT_MASK .owner p ∧ p.target = 0xFFFF) :=
  ⟨⟨up0, pk 0xFFFF [0, 0, 0, 0, 0, 0, 0, 0, 0, 0, 0, 0x80], by decide +kernel⟩,
    ⟨up0, pk 0xFFFF [4, 0, 0, 0, 0, 0, 0, 0, 0, 0, 0, 0x80, 1, 0, 0, 0x80], by decide +kernel⟩,
    ⟨up0, pk 0xFFFF [9, 0, 0, 0, 0, 0, 0, 0, 4], by decide +kernel⟩,
    ⟨up0, pk 4 [1, 0, 0, 0, 0, 0, 0, 0, 4], by decide +kernel⟩,
    ⟨auditUp, pk 0xFFFF [0, 0, 0, 0, 0, 0x10], by decide +kernel⟩,
    ⟨up0, pk 0xFFFF [0xFF, 0, 0, 0, 31, 23, 1], by decide +kernel⟩,
    ⟨up0, pk 0xFFFF [], by decide +kernel⟩,
    ⟨up0, pk 0xFFFF [4], by decide +kernel⟩,
    ⟨up0, pk 0xFFFF [0xFF], by decide +kernel⟩⟩

theorem witness_ModeCommandsRun :
    (∃ (s : State) (p : Packet), s.admits Op.SET_MODE .owner p ∧ par p 0 1 = 1 ∧ s.pair.role ≠ .shadow ∧ p.target = 0xFFFF ∧
      onlyParams p [(0, 1)] = true ∧ s.mode = .standby) ∧
    (∃ (s : State) (p : Packet), s.admits Op.SET_MODE .owner p ∧ par p 0 1 = 1 ∧ s.pair.role ≠ .shadow ∧ p.target = 0xFFFF ∧
      onlyParams p [(0, 1)] = true ∧ (s.mode = .ready ∨ s.mode = .warming) ∧ s.modes.stopping = .none ∧ s.modes.draining =
      false) ∧
    (∃ (s : State) (p : Packet), s.admits Op.SET_MODE .owner p ∧ par p 0 1 = 1 ∧ s.pair.role ≠ .shadow ∧ p.target = 0xFFFF ∧
      onlyParams p [(0, 1)] = true ∧ s.mode = .printing ∧ s.modes.stopping = .none ∧ s.modes.draining = false) ∧
    (∃ (s : State) (p : Packet), s.admits Op.SET_MODE .owner p ∧ par p 0 1 = 1 ∧ s.pair.role ≠ .shadow ∧ p.target = 0xFFFF ∧
      onlyParams p [(0, 1)] = true ∧ s.mode = .service ∧ s.modes.stopping = .none ∧ s.modes.draining = false) ∧
    (∃ (s : State) (p : Packet), s.admits Op.SET_MODE .owner p ∧ par p 0 1 = 3 ∧ s.pair.role ≠ .shadow ∧ p.target = 0xFFFF ∧
      onlyParams p [(0, 1)] = true ∧ (s.mode = .warming ∨ s.mode = .ready ∨ s.mode = .printing) ∧ s.modes.stopping ≠ .orderly
      ∧ s.modes.draining = false ∧ s.modes.haltMask = 0) ∧
    (∃ (s : State) (p : Packet), s.admits Op.SET_MODE .owner p ∧ par p 0 1 = 1 ∧ s.pair.role ≠ .shadow ∧ p.target = 0xFFFF ∧
      onlyParams p [(0, 1)] = true ∧ s.mode ≠ .standby ∧ (s.modes.stopping ≠ .none ∨ s.modes.draining = true)) ∧
    (∃ (s : State) (p : Packet), s.admits Op.SET_MODE .owner p ∧ par p 0 1 = 1 ∧ s.pair.role ≠ .shadow ∧ p.target = 0xFFFF ∧
      onlyParams p [(0, 1)] = true ∧ s.mode ≠ .standby ∧ (s.modes.stopping ≠ .none ∨ s.modes.draining = true)) ∧
    (∃ (s : State) (p : Packet), s.admits Op.SET_MODE .owner p ∧ par p 0 1 = 3 ∧ s.pair.role ≠ .shadow ∧ p.target = 0xFFFF ∧
      onlyParams p [(0, 1)] = true ∧ s.modes.stopping = .orderly ∧ s.modes.haltMask = 0) ∧
    (∃ (s : State) (p : Packet), s.admits Op.SET_MODE .owner p ∧ par p 0 1 = 3 ∧ s.pair.role ≠ .shadow ∧ p.target = 0xFFFF ∧
      onlyParams p [(0, 1)] = true ∧ s.mode = .printing ∧ s.modes.stopping ≠ .orderly ∧ s.modes.draining = true ∧
      s.modes.haltMask = 0) ∧
    (∃ (s : State) (p : Packet), s.admits Op.SET_MODE .owner p ∧ par p 0 1 = 3 ∧ s.pair.role ≠ .shadow ∧ p.target = 0xFFFF ∧
      onlyParams p [(0, 1)] = true ∧ (s.mode = .standby ∨ s.mode = .service) ∧ s.modes.stopping ≠ .none ∧ s.modes.stopping ≠
      .orderly ∧ s.modes.draining = false ∧ s.modes.haltMask = 0) ∧
    (∃ (s : State) (p : Packet), s.admits Op.SET_MODE .owner p ∧ par p 0 1 = 3 ∧ s.pair.role ≠ .shadow ∧ p.target = 0xFFFF ∧
      onlyParams p [(0, 1)] = true ∧ (s.mode = .standby ∨ s.mode = .service) ∧ s.modes.stopping = .none ∧ s.modes.draining =
      false ∧ s.modes.haltMask = 0 ∧ s.modes.memReady = true ∧ s.safety.interlock = false ∧ s.supply.warning = false ∧
      (s.seen Op.SET_MODE .owner p).masterReady = true) ∧
    (∃ (s : State) (p : Packet), s.admits Op.SET_MODE .service p ∧ par p 0 1 = 5 ∧ s.pair.role ≠ .shadow ∧ p.target = 0xFFFF
      ∧ onlyParams p [(0, 1)] = true ∧ s.mode = .service ∧ s.modes.haltMask = 0) ∧
    (∃ (s : State) (p : Packet), s.admits Op.SET_MODE .service p ∧ par p 0 1 = 5 ∧ s.pair.role ≠ .shadow ∧ p.target = 0xFFFF
      ∧ onlyParams p [(0, 1)] = true ∧ (s.mode = .standby ∨ s.mode = .ready) ∧ s.modes.stopping = .none ∧ s.modes.draining =
      false ∧ s.modes.haltMask = 0 ∧ (s.slotsWhere fun _ => true) = []) ∧
    (∃ (s : State) (p : Packet), s.admits Op.SAFE_STOP .owner p ∧ p.target = 0xFFFF ∧ onlyParams p [] = true ∧ s.mode =
      .standby) ∧
    (∃ (s : State) (p : Packet), s.admits Op.SAFE_STOP .owner p ∧ p.target = 0xFFFF ∧ onlyParams p [] = true ∧ s.mode ≠
      .standby) ∧
    (∃ (s : State) (p : Packet), s.admits Op.CLEAR_HALT .owner p ∧ p.target = 0xFFFF ∧ onlyParams p [] = true) ∧
    (∃ (s : State) (p : Packet), s.admits Op.FUNCTION_RESET .owner p ∧ (functions (par p 0 2)).all (fun f => !s.inReset f &&
      !s.offStation f && !s.needsForce (bit (par p 2 1) 0) f) = true ∧ p.target = 0xFFFF ∧ onlyParams p [(0, 3)] = true ∧ 0 <
      par p 0 2 ∧ par p 0 2 < 2 ^ 15 ∧ par p 2 1 ≤ 1) :=
  ⟨⟨up0, pk 0xFFFF [1], by decide +kernel⟩,
    ⟨inMode .ready, pk 0xFFFF [1], by decide +kernel⟩,
    ⟨inMode .printing, pk 0xFFFF [1], by decide +kernel⟩,
    ⟨inMode .service, pk 0xFFFF [1], by decide +kernel⟩,
    ⟨inMode .ready, pk 0xFFFF [3], by decide +kernel⟩,
    ⟨stoppingUp .safe, pk 0xFFFF [1], by decide +kernel⟩,
    ⟨drainingUp, pk 0xFFFF [1], by decide +kernel⟩,
    ⟨stoppingUp .orderly, pk 0xFFFF [3], by decide +kernel⟩,
    ⟨printDrain, pk 0xFFFF [3], by decide +kernel⟩,
    ⟨standbyStop, pk 0xFFFF [3], by decide +kernel⟩,
    ⟨warmable, pk 0xFFFF [3], by decide +kernel⟩,
    ⟨inMode .service, pk 0xFFFF [5], by decide +kernel⟩,
    ⟨inMode .ready, pk 0xFFFF [5], by decide +kernel⟩,
    ⟨up0, pk 0xFFFF [], by decide +kernel⟩,
    ⟨inMode .ready, pk 0xFFFF [], by decide +kernel⟩,
    ⟨up0, pk 0xFFFF [], by decide +kernel⟩,
    ⟨up0, pk 0xFFFF [0xFF, 0x7F, 1], by decide +kernel⟩⟩

theorem witness_KeyCommandsRun :
    (∃ (s : State) (p : Packet), s.admits Op.CLAIM_KEY .observer p ∧ p.target = 0xFFFF ∧ onlyParams p [(0, 1)] = true ∧ par p
      0 1 ≤ 7 ∧ s.key.holder = p.master) ∧
    (∃ (s : State) (p : Packet), s.admits Op.CLAIM_KEY .observer p ∧ p.target = 0xFFFF ∧ onlyParams p [(0, 1)] = true ∧ par p
      0 1 ≤ 7 ∧ s.key.holder ≠ p.master ∧ s.key.holder ≠ 3 ∧ s.key.lapsed = false) ∧
    (∃ (s : State) (p : Packet), s.admits Op.CLAIM_KEY .observer p ∧ p.target = 0xFFFF ∧ onlyParams p [(0, 1)] = true ∧ par p
      0 1 ≤ 7 ∧ s.key.holder ≠ p.master ∧ (s.key.holder = 3 ∨ s.key.lapsed = true) ∧ (s.key.windowOpen = true ∨ s.imm
      Fld.KEY_CLAIM_WINDOW ≠ 0)) ∧
    (∃ (s : State) (p : Packet), s.admits Op.CLAIM_KEY .observer p ∧ p.target = 0xFFFF ∧ onlyParams p [(0, 1)] = true ∧ par p
      0 1 ≤ 7 ∧ s.key.holder ≠ p.master ∧ (s.key.holder = 3 ∨ s.key.lapsed = true) ∧ (s.key.windowOpen = true ∨ s.imm
      Fld.KEY_CLAIM_WINDOW ≠ 0)) ∧
    (∃ (s : State) (p : Packet), s.admits Op.HAND_KEY .owner p ∧ p.target = 0xFFFF ∧ onlyParams p [(0, 1)] = true ∧ par p 0 1
      < 3 ∧ par p 0 1 ≠ p.master ∧ (par p 0 1 = 2 → s.syncedLead = true ∧ s.on Fld.RELAY_EN = true)) ∧
    (∃ (s : State) (p : Packet), s.admits Op.HAND_KEY .owner p ∧ p.target = 0xFFFF ∧ onlyParams p [(0, 1)] = true ∧ par p 0 1
      < 3 ∧ par p 0 1 ≠ p.master ∧ (par p 0 1 = 2 → s.syncedLead = true ∧ s.on Fld.RELAY_EN = true)) ∧
    (∃ (s : State) (p : Packet), s.admits Op.HAND_KEY .owner p ∧ p.target = 0xFFFF ∧ onlyParams p [(0, 1)] = true ∧ par p 0 1
      = 0xFF ∧ p.master ≠ 0xFF) ∧
    (∃ (s : State) (p : Packet), s.admits Op.KEY_TOUCH .owner p ∧ p.target = 0xFFFF ∧ onlyParams p [] = true) ∧
    (∃ (s : State) (p : Packet), s.admits Op.SERVICE_CHALLENGE .owner p ∧ s.cred.lockout = none ∧ p.target = 0xFFFF ∧
      onlyParams p [] = true) ∧
    (∃ (s : State) (p : Packet), s.admits Op.SERVICE_RESPONSE .owner p ∧ p.target = 0xFFFF ∧ onlyParams p [(0, 1), (4, 44)] =
      true ∧ par p 0 1 < 2 ∧ s.cred.live = true ∧ s.cred.master = p.master ∧ s.cred.epoch = s.key.epoch ∧ s.cred.nextPart =
      par p 0 1) ∧
    (∃ (s : State) (p : Packet), s.admits Op.SERVICE_RESPONSE .owner p ∧ p.target = 0xFFFF ∧ onlyParams p [(0, 1), (4, 44)] =
      true ∧ par p 0 1 = 2 ∧ par p 44 4 = 0 ∧ s.cred.live = true ∧ s.cred.master = p.master ∧ s.cred.epoch = s.key.epoch ∧
      s.cred.nextPart = par p 0 1) ∧
    (∃ (s : State) (p : Packet), s.admits Op.SERVICE_RESPONSE .owner p ∧ p.target = 0xFFFF ∧ onlyParams p [(0, 1), (4, 44)] =
      true ∧ par p 0 1 ≤ 2 ∧ (par p 0 1 = 2 → par p 44 4 = 0) ∧ (s.cred.live = false ∨ s.cred.master ≠ p.master ∨
      s.cred.epoch ≠ s.key.epoch ∨ s.cred.nextPart ≠ par p 0 1)) ∧
    (∃ (s : State) (p : Packet), s.admits Op.SERVICE_END .service p ∧ p.target = 0xFFFF ∧ onlyParams p [] = true) :=
  ⟨⟨up0, pk 0xFFFF [7], by decide +kernel⟩,
    ⟨up0, { pk 0xFFFF [7] with master := 1 }, by decide +kernel⟩,
    ⟨freeKey, pk 0xFFFF [7], by decide +kernel⟩,
    ⟨claimed, { pk 0xFFFF [7] with master := 1 }, by decide +kernel⟩,
    ⟨up0, pk 0xFFFF [1], by decide +kernel⟩,
    ⟨(leadOf true).setImm Fld.RELAY_EN 1, pk 0xFFFF [2], by decide +kernel⟩,
    ⟨up0, pk 0xFFFF [0xFF], by decide +kernel⟩,
    ⟨up0, pk 0xFFFF [], by decide +kernel⟩,
    ⟨up0, pk 0xFFFF [], by decide +kernel⟩,
    ⟨challenged, pk 0xFFFF [1], by decide +kernel⟩,
    ⟨{ challenged with cred := { challenged.cred with nextPart := 2 } }, pk 0xFFFF [2], by decide +kernel⟩,
    ⟨up0, pk 0xFFFF [2], by decide +kernel⟩,
    ⟨up0, pk 0xFFFF [], by decide +kernel⟩⟩

theorem witness_ConfigCommandsRun :
    (∃ (s : State) (p : Packet), s.admits Op.CFG_WRITE .owner p ∧ (cfgEntries p).all (fun e => !s.gatedAt e.1 && !e.2.2.2) =
      true ∧ p.target = 0xFFFF ∧ 1 ≤ par p 0 1 ∧ par p 0 1 ≤ 5 ∧ onlyParams p [(0, 1), (4, 8 * par p 0 1)] = true) ∧
    (∃ (s : State) (p : Packet), s.admits Op.APPLY .owner p ∧ firstFail (applyChecks (s.seen Op.APPLY .owner p) (par p 0 1)
      p.target |>.take 4) = none ∧ onlyParams p [(0, 1)] = true ∧ firstFail (applyChecks (s.accept Op.APPLY .owner p) (par p
      0 1) p.target) = none) ∧
    (∃ (s : State) (p : Packet), s.admits Op.APPLY .owner p ∧ firstFail (applyChecks (s.seen Op.APPLY .owner p) (par p 0 1)
      p.target |>.take 4) = none ∧ onlyParams p [(0, 1)] = true ∧ firstFail (applyChecks (s.accept Op.APPLY .owner p) (par p
      0 1) p.target) = some St.TUMBLER_INCONSISTENT) ∧
    (∃ (s : State) (p : Packet), s.admits Op.PROFILE_LOAD .owner p ∧ (s.mode = .standby ∨ s.mode = .service) ∧
      s.tumbler.profile = none ∧ p.target = 0xFFFF ∧ onlyParams p [(0, 1)] = true ∧ par p 0 1 ≤ 1 ∧ s.nv.readable = true ∧
      s.regionGood (Rgn.PROFILE0 + par p 0 1) = true) :=
  ⟨⟨up0, pk 0xFFFF [1, 0, 0, 0, 0x58, 0, 0x80, 0x0F, 5], by decide +kernel⟩,
    ⟨up0, pk 31 [1], by decide +kernel⟩,
    ⟨up0.setImm (Fld.QUE_TYPE 31) 7, pk 31 [1], by decide +kernel⟩,
    ⟨stored, pk 0xFFFF [1], by decide +kernel⟩⟩

theorem witness_SheetCommandsRun :
    (∃ (s : State) (p : Packet), s.admits Op.SHEET_SUBMIT .owner p ∧ (s.mode = .warming ∨ s.mode = .ready ∨ s.mode =
      .printing) ∧ s.modes.memReady = true ∧ p.target = 0xFFFF ∧ onlyParams p [(0, 9), (0x0C, 12)] = true ∧ submitRange p =
      true ∧ (s.seen Op.SHEET_SUBMIT .owner p).slotFree = true ∧ s.slotOf (par p 0 4) = none ∧ s.stationsReady (par p 8 1) =
      true ∧ s.indexOk p = true ∧ s.entriesHeld + (submitBands p).length ≤ 1048576 ∧ s.fitsPitch (par p 8 1) (submitBands p)
      = true) ∧
    (∃ (s : State) (p : Packet) (i : Nat) (sh : Sheet), s.admits Op.SHEET_CANCEL .owner p ∧ p.target = 0xFFFF ∧ onlyParams p
      [(0, 4)] = true ∧ s.slotOf (par p 0 4) = some i ∧ s.cancelLate i = false ∧ s.sheet? i = some sh) ∧
    (∃ (s : State) (p : Packet) (i : Nat) (sh : Sheet), s.admits Op.SHEET_CANCEL .owner p ∧ p.target = 0xFFFF ∧ onlyParams p
      [(0, 4)] = true ∧ s.slotOf (par p 0 4) = some i ∧ s.cancelLate i = false ∧ s.sheet? i = some sh) ∧
    (∃ (s : State) (p : Packet), s.admits Op.SHEET_CLEAR_REG .owner p ∧ (s.mode = .ready ∨ s.mode = .printing) ∧
      s.sheets.blankRun = false ∧ p.target = 0xFFFF ∧ onlyParams p [] = true ∧ s.sheets.blank.isSome = true) :=
  ⟨⟨submitState, submitPacket, by decide +kernel⟩,
    ⟨withSheet .ready .accepted, pk 0xFFFF [7], 3, aSheet .accepted, by decide +kernel⟩,
    ⟨withSheet .ready .picked, pk 0xFFFF [7], 3, aSheet .picked, by decide +kernel⟩,
    ⟨withBlank, pk 0xFFFF [], by decide +kernel⟩⟩

theorem witness_DmaCommandsRun :
    (∃ (s : State) (p : Packet), s.admits Op.DMA_START .owner p ∧ s.modes.memReady = true ∧ s.inReset Fn.DMA = false ∧
      (s.channel p.target).lists.length < 8 ∧ p.target < 16 ∧ onlyParams p [(0, 8), (8, 4)] = true ∧ par p 0 8 % 32 = 0 ∧ 0 <
      par p 8 4 ∧ par p 8 4 ≤ 1048575) ∧
    (∃ (s : State) (p : Packet), s.admits Op.DMA_STOP .owner p ∧ p.target < 16 ∧ onlyParams p [] = true) ∧
    (∃ (s : State) (p : Packet), s.admits Op.DMA_RESUME .owner p ∧ s.modes.memReady = true ∧ p.target = 0xFFFF ∧ onlyParams p
      [] = true) :=
  ⟨⟨inMode .ready, pk 15 [32, 0, 0, 0, 0, 0, 0, 0, 1], by decide +kernel⟩,
    ⟨up0, pk 15 [], by decide +kernel⟩,
    ⟨inMode .ready, pk 0xFFFF [], by decide +kernel⟩⟩

theorem witness_DriveCommandsRun :
    (∃ (s : State) (p : Packet), s.admits Op.DRIVE_START .owner p ∧ s.mode = .service ∧ s.modes.haltMask = 0 ∧ (s.drive
      p.target).free = true ∧ p.target < 12 ∧ s.livOn (Fld.DRV_EN p.target) = true ∧ onlyParams p [(0, 5)] = true ∧ par p 4 1
      ≤ 1) ∧
    (∃ (s : State) (p : Packet), s.admits Op.DRIVE_SPEED .owner p ∧ s.mode = .service ∧ s.modes.haltMask = 0 ∧ (s.drive
      p.target).running = true ∧ p.target < 12 ∧ s.livOn (Fld.DRV_EN p.target) = true ∧ onlyParams p [(0, 4)] = true) ∧
    (∃ (s : State) (p : Packet), s.admits Op.DRIVE_BRAKE .owner p ∧ (s.mode = .standby ∨ s.mode = .service) ∧ (s.drive
      p.target).state ≠ .tripped ∧ p.target < 12 ∧ s.livOn (Fld.DRV_EN p.target) = true ∧ onlyParams p [] = true) ∧
    (∃ (s : State) (p : Packet), s.admits Op.DRIVE_BRAKE .owner p ∧ (s.mode = .standby ∨ s.mode = .service) ∧ (s.drive
      p.target).state ≠ .tripped ∧ p.target < 12 ∧ s.livOn (Fld.DRV_EN p.target) = true ∧ onlyParams p [] = true) :=
  ⟨⟨driveOn .off, pk 11 [0, 0, 0, 0, 1], by decide +kernel⟩,
    ⟨driveOn .run, pk 11 [100], by decide +kernel⟩,
    ⟨driveOn .run, pk 11 [], by decide +kernel⟩,
    ⟨driveOn .off, pk 11 [], by decide +kernel⟩⟩

theorem witness_AxisCommandsRun :
    (∃ (s : State) (p : Packet), s.admits Op.MOVE .owner p ∧ (s.mode = .ready ∨ s.mode = .printing ∨ s.mode = .warming ∨
      s.mode = .service) ∧ s.modes.haltMask = 0 ∧ s.axisBusy p.target = false ∧ p.target < 24 ∧ s.livOn (Fld.AXS_EN p.target)
      = true ∧ onlyParams p [(0, 1), (4, 8)] = true ∧ par p 0 1 ≤ 2 ∧ (par p 0 1 = 1 → (s.axis p.target).homed = true)) ∧
    (∃ (s : State) (p : Packet), s.admits Op.HOME .owner p ∧ (s.mode = .ready ∨ s.mode = .printing ∨ s.mode = .warming ∨
      s.mode = .service) ∧ s.modes.haltMask = 0 ∧ s.axisBusy p.target = false ∧ p.target < 24 ∧ s.livOn (Fld.AXS_EN p.target)
      = true ∧ onlyParams p [(0, 2), (4, 12)] = true ∧ par p 0 1 ≤ 71 ∧ par p 1 1 ≤ 1) ∧
    (∃ (s : State) (p : Packet), s.admits Op.GROUP_MOVE .owner p ∧ (s.mode = .ready ∨ s.mode = .printing ∨ s.mode = .warming
      ∨ s.mode = .service) ∧ s.modes.haltMask = 0 ∧ (s.members p.target).any (fun n => s.axisBusy n) = false ∧ p.target < 8 ∧
      s.members p.target ≠ [] ∧ onlyParams p [(4, 24)] = true ∧ (List.range 6).all (fun i => i < (s.members p.target).length
      || par p (4 + 4 * i) 4 = 0) = true) ∧
    (∃ (s : State) (p : Packet), s.admits Op.STOP .owner p ∧ par p 0 1 = 0 ∧ p.target < 24 ∧ s.livOn (Fld.AXS_EN p.target) =
      true ∧ onlyParams p [(0, 1)] = true) ∧
    (∃ (s : State) (p : Packet), s.admits Op.STOP .owner p ∧ par p 0 1 = 1 ∧ p.target < 8 ∧ s.members p.target ≠ [] ∧
      onlyParams p [(0, 1)] = true) ∧
    (∃ (s : State) (p : Packet), s.admits Op.STOP .owner p ∧ par p 0 1 = 2 ∧ p.target < 12 ∧ s.livOn (Fld.DRV_EN p.target) =
      true ∧ onlyParams p [(0, 1)] = true) ∧
    (∃ (s : State) (p : Packet), s.admits Op.EMERGENCY_STOP .owner p ∧ par p 0 1 = 0 ∧ p.target < 24 ∧ s.livOn (Fld.AXS_EN
      p.target) = true ∧ onlyParams p [(0, 1)] = true) ∧
    (∃ (s : State) (p : Packet), s.admits Op.EMERGENCY_STOP .owner p ∧ par p 0 1 = 1 ∧ p.target < 8 ∧ s.members p.target ≠ []
      ∧ onlyParams p [(0, 1)] = true) ∧
    (∃ (s : State) (p : Packet), s.admits Op.EMERGENCY_STOP .owner p ∧ par p 0 1 = 2 ∧ p.target < 12 ∧ s.livOn (Fld.DRV_EN
      p.target) = true ∧ onlyParams p [(0, 1)] = true) :=
  ⟨⟨axisOn, pk 23 [2], by decide +kernel⟩,
    ⟨axisOn, pk 23 [71, 1], by decide +kernel⟩,
    ⟨groupOn, pk 7 [0, 0, 0, 0, 9], by decide +kernel⟩,
    ⟨axisOn, pk 23 [0], by decide +kernel⟩,
    ⟨groupOn, pk 7 [1], by decide +kernel⟩,
    ⟨driveOn .run, pk 11 [2], by decide +kernel⟩,
    ⟨axisOn, pk 23 [0], by decide +kernel⟩,
    ⟨groupOn, pk 7 [1], by decide +kernel⟩,
    ⟨driveOn .run, pk 11 [2], by decide +kernel⟩⟩

set_option maxRecDepth 1000000 in
theorem witness_LoopCommandsRun :
    (∃ (s : State) (p : Packet), s.admits Op.LOOP_LOAD .owner p ∧ s.mode ≠ .dormant ∧ p.target < 24 ∧ onlyParams p [(0, 8)] =
      true ∧ par p 0 4 % 4 = 0 ∧ 836 ≤ (argBytes p).length ∧ p.args.isSome = true ∧ badImage (argBytes p) = false) ∧
    (∃ (s : State) (p : Packet), s.admits Op.LOOP_CLOSE .owner p ∧ s.modes.haltMask = 0 ∧ s.destUnready p.target = false ∧
      p.target < 24 ∧ (s.loop p.target).state ≠ .off ∧ onlyParams p [(0, 1)] = true ∧ par p 0 1 ≤ 2) ∧
    (∃ (s : State) (p : Packet), s.admits Op.LOOP_OPEN .owner p ∧ (s.mode = .standby ∨ s.mode = .service ∨ s.runsDrive
      p.target = false ∨ s.livOn (Fld.LOOP_EN p.target) = false) ∧ p.target < 24 ∧ onlyParams p [(0, 1)] = true ∧ par p 0 1 ≤
      1) ∧
    (∃ (s : State) (p : Packet), s.admits Op.PROFILE_RUN .owner p ∧ p.target < 24 ∧ s.liv (Fld.LOOP_REF_MODE p.target) = 0 ∧
      s.feedsDrive p.target = false ∧ (s.loop p.target).state = .closed ∧ onlyParams p [(0, 4)] = true) :=
  ⟨⟨up0, loopImage, by decide +kernel⟩,
    ⟨loopOn .opened, pk 23 [2], by decide +kernel⟩,
    ⟨loopOn .closed, pk 23 [1], by decide +kernel⟩,
    ⟨loopOn .closed, pk 23 [100], by decide +kernel⟩⟩

theorem witness_PowerCommandsRun :
    (∃ (s : State) (p : Packet), s.admits Op.HV_SET .owner p ∧ s.hvSlot p.target = false ∧ p.target < 24 ∧ onlyParams p [(0,
      4)] = true ∧ par p 0 2 ≤ s.imm (Fld.HV_FULL p.target) ∧ 0 < par p 2 2) ∧
    (∃ (s : State) (p : Packet), s.admits Op.HV_SET .owner p ∧ s.hvSlot p.target = false ∧ p.target < 24 ∧ onlyParams p [(0,
      4)] = true ∧ par p 0 2 ≤ s.imm (Fld.HV_FULL p.target) ∧ 0 < par p 2 2) ∧
    (∃ (s : State) (p : Packet), s.admits Op.HV_ENABLE .owner p ∧ bit (par p 3 1) 0 = true ∧ par p 3 1 ≤ 3 ∧ s.mode ≠
      .dormant ∧ s.mode ≠ .standby ∧ s.noRise = false ∧ p.target = 0xFFFF ∧ onlyParams p [(0, 4)] = true) ∧
    (∃ (s : State) (p : Packet), s.admits Op.HV_ENABLE .owner p ∧ bit (par p 3 1) 0 = false ∧ par p 3 1 ≤ 3 ∧ s.mode ≠
      .dormant ∧ p.target = 0xFFFF ∧ onlyParams p [(0, 4)] = true) ∧
    (∃ (s : State) (p : Packet), s.admits Op.FUSER_SET .owner p ∧ s.mode ≠ .dormant ∧ p.target < 4 ∧ onlyParams p [(0, 5)] =
      true ∧ par p 4 1 ≤ 1 ∧ -32768 ≤ parInt p 0 4 ∧ parInt p 0 4 ≤ 32767 ∧ (s.setInForce (par p 4 1) = false ∨ (s.zone
      p.target).enabled = false)) ∧
    (∃ (s : State) (p : Packet), s.admits Op.FUSER_SET .owner p ∧ s.mode ≠ .dormant ∧ p.target < 4 ∧ onlyParams p [(0, 5)] =
      true ∧ par p 4 1 ≤ 1 ∧ -32768 ≤ parInt p 0 4 ∧ parInt p 0 4 ≤ 32767 ∧ s.setInForce (par p 4 1) = true ∧ (s.zone
      p.target).enabled = true) ∧
    (∃ (s : State) (p : Packet), s.admits Op.FUSER_ENABLE .owner p ∧ p.target = 0xFFFF ∧ onlyParams p [(0, 2)] = true ∧ par p
      0 1 ≤ 15 ∧ par p 1 1 = 0) ∧
    (∃ (s : State) (p : Packet), s.admits Op.FUSER_ENABLE .owner p ∧ p.target = 0xFFFF ∧ onlyParams p [(0, 2)] = true ∧ par p
      0 1 ≤ 15 ∧ par p 1 1 = 1 ∧ s.noRise = false ∧ s.zoneUnslotted (par p 0 1) = false) ∧
    (∃ (s : State) (p : Packet), s.admits Op.FUSER_ENABLE .owner p ∧ p.target = 0xFFFF ∧ onlyParams p [(0, 2)] = true ∧ par p
      0 1 ≤ 15 ∧ par p 1 1 = 1 ∧ s.noRise = false ∧ s.zoneUnslotted (par p 0 1) = false) :=
  ⟨⟨up0, pk 23 [0, 0, 1], by decide +kernel⟩,
    ⟨hvOn, pk 23 [0, 0, 1], by decide +kernel⟩,
    ⟨inMode .ready, pk 0xFFFF [0, 0, 0x80, 1], by decide +kernel⟩,
    ⟨up0, pk 0xFFFF [0, 0, 0x80, 2], by decide +kernel⟩,
    ⟨up0, pk 3 [10, 0, 0, 0, 1], by decide +kernel⟩,
    ⟨up0.setZone 3 fun Z => { Z with enabled := true }, pk 3 [10, 0, 0, 0, 1], by decide +kernel⟩,
    ⟨up0, pk 0xFFFF [15], by decide +kernel⟩,
    ⟨up0, pk 0xFFFF [0, 1], by decide +kernel⟩,
    ⟨slotted, pk 0xFFFF [8, 1], by decide +kernel⟩⟩

theorem witness_ServiceJobsRun :
    (∃ (s : State) (p : Packet), s.admits Op.AFE_CALIBRATE .owner p ∧ par p 0 1 = 0 ∧ (p.target < 3 ∨ p.target = 0xFFFF) ∧
      onlyParams p [(0, 1), (4, 4)] = true) ∧
    (∃ (s : State) (p : Packet), s.admits Op.AFE_CALIBRATE .owner p ∧ par p 0 1 = 1 ∧ p.target < 160 ∧ (s.seen
      Op.AFE_CALIBRATE .owner p).zeroHolds p.target = true ∧ onlyParams p [(0, 1), (4, 4)] = true) ∧
    (∃ (s : State) (p : Packet), s.admits Op.AFE_CALIBRATE .owner p ∧ par p 0 1 = 2 ∧ s.mode = .service ∧ (p.target < 120 ∨
      128 ≤ p.target ∧ p.target < 160) ∧ onlyParams p [(0, 1), (4, 4)] = true) ∧
    (∃ (s : State) (p : Packet), s.admits Op.AFE_CALIBRATE .owner p ∧ par p 0 1 = 3 ∧ s.mode = .service ∧ p.target < 8 ∧
      onlyParams p [(0, 1), (4, 4)] = true) ∧
    (∃ (s : State) (p : Packet), s.admits Op.BAND_SURVEY .service p ∧ s.mode = .service ∧ p.target < 5 ∧ (s.station
      p.target).powered = true ∧ (s.station p.target).pending = none ∧ (s.scan p.target).state = .off ∧ (s.pll
      p.target).survey = false ∧ onlyParams p [] = true) ∧
    (∃ (s : State) (p : Packet), s.admits Op.HEAD_CAL .service p ∧ s.mode = .service ∧ p.target < 5 ∧ (s.station
      p.target).powered = true ∧ (s.station p.target).pending = none ∧ (s.scan p.target).state = .track ∧ (s.pipe
      p.target).calMask = 0 ∧ onlyParams p [(0, 5)] = true ∧ par p 0 5 < 2 ^ 34) ∧
    (∃ (s : State) (p : Packet), s.admits Op.LINK_LOOPBACK .service p ∧ s.mode = .service ∧ p.target < 5 ∧ (s.station
      p.target).powered = true ∧ (s.station p.target).pending = none ∧ (s.scan p.target).state = .off ∧ (s.link
      p.target).state ≠ .loopback ∧ bit (s.link p.target).caps 2 = true ∧ onlyParams p [(0, 1)] = true ∧ par p 0 1 ≠ 0) ∧
    (∃ (s : State) (p : Packet), s.admits Op.CAPTURE .owner p ∧ (s.mode = .ready ∨ s.mode = .printing ∨ s.mode = .service) ∧
      s.modes.memReady = true ∧ p.target < 5 ∧ (s.station p.target).powered = true ∧ (s.station p.target).pending = none ∧
      s.captures.any (fun j => j.station = p.target) = false ∧ onlyParams p [(0, 1), (4, 6), (0x0C, 16)] = true ∧ par p 0 1 ≤
      1 ∧ par p 4 4 ≠ 0 ∧ 0 < par p 8 2 ∧ par p 8 2 ≤ 4096 ∧ par p 0x10 8 % 64 = 0 ∧ par p 0x18 4 % 64 = 0 ∧ p.params.length
      = 48 ∧ par p 0x0C 4 = 0) ∧
    (∃ (s : State) (p : Packet) (i : Nat) (sh : Sheet), s.admits Op.CAPTURE .owner p ∧ (s.mode = .ready ∨ s.mode = .printing
      ∨ s.mode = .service) ∧ s.modes.memReady = true ∧ p.target < 5 ∧ (s.station p.target).powered = true ∧ (s.station
      p.target).pending = none ∧ s.captures.any (fun j => j.station = p.target) = false ∧ onlyParams p [(0, 1), (4, 6),
      (0x0C, 16)] = true ∧ par p 0 1 ≤ 1 ∧ par p 4 4 ≠ 0 ∧ 0 < par p 8 2 ∧ par p 8 2 ≤ 4096 ∧ par p 0x10 8 % 64 = 0 ∧ par p
      0x18 4 % 64 = 0 ∧ p.params.length = 48 ∧ par p 0x0C 4 ≠ 0 ∧ s.slotOf (par p 0x0C 4) = some i ∧ s.sheet? i = some sh ∧
      (sh.on p.target).all (fun m => !m.started) = true) :=
  ⟨⟨up0, pk 2 [0], by decide +kernel⟩,
    ⟨zeroing, pk 23 [1], by decide +kernel⟩,
    ⟨inMode .service, pk 159 [2], by decide +kernel⟩,
    ⟨inMode .service, pk 7 [3], by decide +kernel⟩,
    ⟨inMode .service, pk 4 [], by decide +kernel⟩,
    ⟨tracking .service, pk 4 [1], by decide +kernel⟩,
    ⟨loopable, pk 4 [1], by decide +kernel⟩,
    ⟨inMode .ready, pk 4 [1, 0, 0, 0, 1, 0, 0, 0, 0, 0x10], by decide +kernel⟩,
    ⟨withSheet .ready .accepted, pk 4 [1, 0, 0, 0, 1, 0, 0, 0, 0, 0x10, 0, 0, 7], 3, aSheet .accepted, by decide +kernel⟩⟩

set_option maxRecDepth 1000000 in
theorem witness_PlanTrimCommandsRun :
    (∃ (s : State) (p : Packet), s.admits Op.PLAN_LOAD .owner p ∧ (par p 0 1 = 0 → s.mode = .standby ∨ s.mode = .service) ∧
      s.modes.memReady = true ∧ p.target < 5 ∧ (s.station p.target).powered = true ∧ (s.station p.target).pending = none ∧
      s.slotBusy p.target (par p 0 1) = false ∧ onlyParams p [(0, 2), (4, 8), (0x0C, 4)] = true ∧ par p 0 1 ≤ 35 ∧ par p 1 1
      = 0 ∧ par p 4 8 % 4 = 0 ∧ p.args.isSome = true ∧ par p 0x0C 4 ≤ (argBytes p).length) ∧
    (∃ (s : State) (p : Packet), s.admits Op.PLAN_LOAD .owner p ∧ (par p 0 1 = 0 → s.mode = .standby ∨ s.mode = .service) ∧
      s.modes.memReady = true ∧ p.target < 5 ∧ (s.station p.target).powered = true ∧ (s.station p.target).pending = none ∧
      s.slotBusy p.target (par p 0 1) = false ∧ onlyParams p [(0, 2), (4, 8), (0x0C, 4)] = true ∧ par p 0 1 ≤ 35 ∧ par p 1 1
      = 1 ∧ par p 4 8 = 0 ∧ par p 0x0C 4 ≤ 179 ∧ (s.accept Op.PLAN_LOAD .owner p).planImage p ≠ []) ∧
    (∃ (s : State) (p : Packet), s.admits Op.PLAN_SWITCH .owner p ∧ s.modes.memReady = true ∧ p.target < 5 ∧ (s.station
      p.target).powered = true ∧ (s.station p.target).pending = none ∧ (s.plans p.target).switchWait = false ∧ onlyParams p
      [] = true ∧ s.planUnreadable p.target 0 = false ∧ s.planUnreadable p.target 1 = false ∧ s.switchBad p.target = none ∧
      (s.mode = .standby ∨ s.mode = .service)) ∧
    (∃ (s : State) (p : Packet), s.admits Op.PLAN_SWITCH .owner p ∧ s.modes.memReady = true ∧ p.target < 5 ∧ (s.station
      p.target).powered = true ∧ (s.station p.target).pending = none ∧ (s.plans p.target).switchWait = false ∧ onlyParams p
      [] = true ∧ s.planUnreadable p.target 0 = false ∧ s.planUnreadable p.target 1 = false ∧ s.switchBad p.target = none ∧
      s.mode ≠ .standby ∧ s.mode ≠ .service) ∧
    (∃ (s : State) (p : Packet), s.admits Op.TRIM_LOAD .owner p ∧ (s.mode = .standby ∨ s.mode = .ready ∨ s.mode = .service) ∧
      s.modes.memReady = true ∧ p.target < 5 ∧ (s.station p.target).powered = true ∧ (s.station p.target).pending = none ∧
      onlyParams p [(0, 5)] = true ∧ par p 0 5 < 2 ^ 34 ∧ (maskEmitters (par p 0 5)).any (fun e => (s.failingTrim p.target
      e).any fun f => f.2 = 0xFF) = false) ∧
    (∃ (s : State) (p : Packet), s.admits Op.TRIM_WRITE .service p ∧ (s.mode = .standby ∨ s.mode = .ready ∨ s.mode =
      .service) ∧ s.modes.memReady = true ∧ p.target < 5 ∧ onlyParams p [(0, 1), (2, 2), (4, 4), (8, 8)] = true ∧ par p 0 1 ≤
      33 ∧ par p 2 2 ≤ 32767 ∧ 0 < par p 4 4 ∧ par p 2 2 + par p 4 4 ≤ 32768 ∧ p.args.isSome = true ∧ par p 4 4 ≤ (argBytes
      p).length ∧ ((argBytes p).take (par p 4 4)).all (fun b => b.toNat < 64) = true ∧ (s.failingTrim p.target (par p 0
      1)).any (fun f => f.2 = 0xFF) = false) ∧
    (∃ (s : State) (p : Packet), s.admits Op.INIT_MEMORY .owner p ∧ (s.mode = .standby ∨ s.mode = .service) ∧
      s.modes.initBusy = false ∧ p.target = 0xFFFF ∧ onlyParams p [] = true ∧ s.requestedMiB.sum + 16 ≤ 108) :=
  ⟨⟨inMode .standby, argPacket 4 ([1, 0, 0, 0] ++ leBytes 8 0 ++ leBytes 4 100) planBytes, by decide +kernel⟩,
    ⟨storedPlans, pk 4 [1, 1], by decide +kernel⟩,
    ⟨switchable .standby, pk 4 [], by decide +kernel⟩,
    ⟨switchable .ready, pk 4 [], by decide +kernel⟩,
    ⟨inMode .ready, pk 4 [0, 0, 0, 0, 2], by decide +kernel⟩,
    ⟨inMode .ready, argPacket 4 [33, 0, 0xFF, 0x7F, 1] [63], by decide +kernel⟩,
    ⟨up0, pk 0xFFFF [], by decide +kernel⟩⟩

theorem witness_StoreCommandsRun :
    (∃ (s : State) (p : Packet), s.admits Op.STORE_PROFILE .owner p ∧ storeModes s.mode = true ∧ s.nv.storing = none ∧
      s.supplyLow = false ∧ p.target = 0xFFFF ∧ onlyParams p [(0, 1)] = true ∧ (par p 0 1 ≤ 1 ∨ par p 0 1 = 0xFF) ∧
      s.nv.readable = true) ∧
    (∃ (s : State) (p : Packet), s.admits Op.STORE_PROFILE .owner p ∧ storeModes s.mode = true ∧ s.nv.storing = none ∧
      s.supplyLow = false ∧ p.target = 0xFFFF ∧ onlyParams p [(0, 1)] = true ∧ (par p 0 1 ≤ 1 ∨ par p 0 1 = 0xFF) ∧
      s.nv.readable = true) ∧
    (∃ (s : State) (p : Packet), s.admits Op.STORE_TRIM .service p ∧ storeModes s.mode = true ∧ s.nv.storing = none ∧
      s.supplyLow = false ∧ p.target = 0xFFFF ∧ onlyParams p [] = true ∧ s.nv.readable = true ∧ s.modes.memReady = true ∧
      s.trimUnreadable = false) ∧
    (∃ (s : State) (p : Packet), s.admits Op.STORE_PLAN .service p ∧ storeModes s.mode = true ∧ s.nv.storing = none ∧
      s.supplyLow = false ∧ p.target = 0xFFFF ∧ onlyParams p [(0, 1)] = true ∧ par p 0 1 ≤ 31 ∧ s.nv.readable = true ∧
      s.modes.memReady = true ∧ s.plansUnreadable (par p 0 1) = false) ∧
    (∃ (s : State) (p : Packet), s.admits Op.PATCH_LOAD .owner p ∧ storeModes s.mode = true ∧ s.nv.storing = none ∧
      s.supplyLow = false ∧ p.target = 0xFFFF ∧ onlyParams p [(0, 8), (8, 4)] = true ∧ par p 8 4 ≤ 2 * 1024 * 1024 - 64 ∧
      p.args.isSome = true ∧ par p 8 4 ≤ (argBytes p).length ∧ s.nv.readable = true) ∧
    (∃ (s : State) (p : Packet), s.admits Op.STORE_PROFILE .owner p ∧ storeModes s.mode = true ∧ s.nv.storing = none ∧
      s.supplyLow = false ∧ p.target = 0xFFFF ∧ onlyParams p [(0, 1)] = true ∧ (par p 0 1 ≤ 1 ∨ par p 0 1 = 0xFF) ∧
      s.nv.readable = false) ∧
    (∃ (s : State) (p : Packet), s.admits Op.STORE_TRIM .service p ∧ storeModes s.mode = true ∧ s.nv.storing = none ∧
      s.supplyLow = false ∧ p.target = 0xFFFF ∧ onlyParams p [] = true ∧ s.nv.readable = false) ∧
    (∃ (s : State) (p : Packet), s.admits Op.STORE_PLAN .service p ∧ storeModes s.mode = true ∧ s.nv.storing = none ∧
      s.supplyLow = false ∧ p.target = 0xFFFF ∧ onlyParams p [(0, 1)] = true ∧ par p 0 1 ≤ 31 ∧ s.nv.readable = false) ∧
    (∃ (s : State) (p : Packet), s.admits Op.PATCH_LOAD .owner p ∧ storeModes s.mode = true ∧ s.nv.storing = none ∧
      s.supplyLow = false ∧ p.target = 0xFFFF ∧ onlyParams p [(0, 8), (8, 4)] = true ∧ par p 8 4 ≤ 2 * 1024 * 1024 - 64 ∧
      p.args.isSome = true ∧ par p 8 4 ≤ (argBytes p).length ∧ s.nv.readable = false) ∧
    (∃ (s : State) (p : Packet), s.admits Op.FUSE_WRITE .service p ∧ s.mode = .service ∧ p.target = 0xFFFF ∧ onlyParams p
      ([(0, 2), (4, 4)] ++ if par p 0 1 = 5 then [(8, 8)] else []) = true ∧ 1 ≤ par p 0 1 ∧ par p 0 1 ≤ 7 ∧ (par p 0 1 = 3 ∧
      par p 1 1 ≤ 4 ∨ par p 0 1 ≠ 3 ∧ par p 1 1 = 0) ∧ (par p 0 1 = 5 → p.args.isSome = true ∧ 32 ≤ (argBytes p).length) ∧
      ((if par p 0 1 = 5 then par p 4 4 = 0 ∧ slice (argBytes p) 0 32 = s.keyHash s.nv.keySlots.length else par p 4 4 =
      s.fuseValue (par p 0 1) (par p 1 1)))) ∧
    (∃ (s : State) (p : Packet), s.admits Op.FUSE_WRITE .service p ∧ s.mode = .service ∧ p.target = 0xFFFF ∧ onlyParams p
      ([(0, 2), (4, 4)] ++ if par p 0 1 = 5 then [(8, 8)] else []) = true ∧ 1 ≤ par p 0 1 ∧ par p 0 1 ≤ 7 ∧ (par p 0 1 = 3 ∧
      par p 1 1 ≤ 4 ∨ par p 0 1 ≠ 3 ∧ par p 1 1 = 0) ∧ (par p 0 1 = 5 → p.args.isSome = true ∧ 32 ≤ (argBytes p).length) ∧ (¬
      (if par p 0 1 = 5 then par p 4 4 = 0 ∧ slice (argBytes p) 0 32 = s.keyHash s.nv.keySlots.length else par p 4 4 =
      s.fuseValue (par p 0 1) (par p 1 1))) ∧ fuseRange (par p 0 1) (par p 4 4) = true ∧ (par p 0 1 = 6 → s.fuseValue 6 0 ≤
      par p 4 4 ∧ par p 4 4 ≤ s.boot.patchVer) ∧ s.slotsLeft (par p 0 1) (par p 1 1) ≠ 0 ∧ s.nv.readable = true) ∧
    (∃ (s : State) (p : Packet), s.admits Op.PAIR_SYNC .owner p ∧ s.shadowThere = true ∧ s.pair.syncing = false ∧ p.target =
      0xFFFF ∧ onlyParams p [] = true) ∧
    (∃ (s : State) (p : Packet), s.admits Op.PAIR_SYNC .owner p ∧ s.shadowThere = true ∧ s.pair.syncing = false ∧ p.target =
      0xFFFF ∧ onlyParams p [] = true) ∧
    (∃ (s : State) (p : Packet), s.admits Op.PAIR_SWITCH .owner p ∧ s.pair.synced = true ∧ (s.mode = .standby ∨ s.mode =
      .ready ∨ s.mode = .service) ∧ p.target = 0xFFFF ∧ onlyParams p [] = true) :=
  ⟨⟨flashOn .standby, pk 0xFFFF [1], by decide +kernel⟩,
    ⟨flashOn .standby, pk 0xFFFF [0xFF], by decide +kernel⟩,
    ⟨flashOn .standby, pk 0xFFFF [], by decide +kernel⟩,
    ⟨flashOn .standby, pk 0xFFFF [31], by decide +kernel⟩,
    ⟨flashOn .standby, argPacket 0xFFFF [] [], by decide +kernel⟩,
    ⟨unread, pk 0xFFFF [1], by decide +kernel⟩,
    ⟨unread, pk 0xFFFF [], by decide +kernel⟩,
    ⟨unread, pk 0xFFFF [31], by decide +kernel⟩,
    ⟨unread, argPacket 0xFFFF [] [], by decide +kernel⟩,
    ⟨inMode .service, pk 0xFFFF [2, 0, 0, 0, 5], by decide +kernel⟩,
    ⟨flashOn .service, pk 0xFFFF [2, 0, 0, 0, 4], by decide +kernel⟩,
    ⟨leadOf false, pk 0xFFFF [], by decide +kernel⟩,
    ⟨leadOf true, pk 0xFFFF [], by decide +kernel⟩,
    ⟨leadOf true, pk 0xFFFF [], by decide +kernel⟩⟩

theorem witness_QueueRowsRun :
    (∃ (s : State) (q : Nat) (value : Word), s.up = true ∧ s.queueOn q = true ∧ s.queueType q = Ty.SUBMISSION ∧ value.toNat <
      s.queueSize q) ∧
    (∃ (s : State) (q : Nat) (value : Word), s.up = true ∧ s.queueOn q = true ∧ s.queueType q ≠ Ty.SUBMISSION ∧ s.queueType q
      ≠ Ty.UNUSED ∧ s.inSpan q value.toNat = true) ∧
    (∃ (s : State) (q : Nat), s.up = true ∧ s.mayFetch q = true) ∧
    (∃ (s : State) (master : Nat) (q : Nat) (value : Word), s.up = true ∧ q < 32 ∧ s.key.holder = master ∧ s.pair.role ≠
      .shadow ∧ bit value.toNat 0 = true ∧ s.acceptsWord (Reg.QUE_CTL q) value = true) ∧
    (∃ (s : State) (master : Nat) (q : Nat) (value : Word), s.up = true ∧ q < 32 ∧ s.key.holder = master ∧ s.pair.role ≠
      .shadow ∧ s.queueOn q = true ∧ bit value.toNat 0 = false ∧ s.acceptsWord (Reg.QUE_CTL q) value = true) ∧
    (∃ (s : State) (master : Nat) (q : Nat) (value : Word), s.up = true ∧ q < 32 ∧ s.key.holder = master ∧ s.pair.role ≠
      .shadow ∧ s.queueOn q = false ∧ bit value.toNat 0 = false ∧ s.acceptsWord (Reg.QUE_CTL q) value = true) ∧
    (∃ (s : State) (q : Nat) (t : Nat), s.up = true ∧ (s.queue q).oldest = some t ∧ s.on (Fld.QUE_IRQ_EN q) = true ∧ s.imm
      (Fld.QUE_COAL_TIME q) ≠ 0) ∧
    (∃ (s : State) (q : Nat), s.up = true ∧ s.queueOn q = true ∧ s.queueType q = Ty.SUBMISSION) ∧
    (∃ (s : State) (q : Nat), s.up = true ∧ s.queueOn q = true ∧ s.queueType q ≠ Ty.UNUSED) ∧
    (∃ (s : State) (q : Nat), s.up = true ∧ s.queueOn q = true ∧ s.queueType q ≠ Ty.UNUSED) ∧
    (∃ (s : State), s.up = true) ∧
    (∃ (s : State), s.up = true) ∧
    (∃ (s : State), s.up = true) :=
  ⟨⟨subUp, 0, 15, by decide +kernel⟩,
    ⟨compUp, 8, 0, by decide +kernel⟩,
    ⟨fetchable, 0, by decide +kernel⟩,
    ⟨up0, 0, 31, 1, by decide +kernel⟩,
    ⟨compUp, 0, 8, 0, by decide +kernel⟩,
    ⟨up0, 0, 8, 0, by decide +kernel⟩,
    ⟨coalUp, 8, 5, by decide +kernel⟩,
    ⟨subUp, 0, by decide +kernel⟩,
    ⟨compUp, 8, by decide +kernel⟩,
    ⟨subUp, 0, by decide +kernel⟩,
    ⟨up0, by decide +kernel⟩,
    ⟨up0, by decide +kernel⟩,
    ⟨up0, by decide +kernel⟩⟩

theorem witness_MgmtRowsRun :
    (∃ (s : State) (frame : List Byte) (whole : Bool) (gapOk : Bool), s.up = true ∧ fieldAt frame 0 1 = 0xA5 ∧ submitGood
      frame whole gapOk = true) ∧
    (∃ (s : State) (frame : List Byte) (whole : Bool) (gapOk : Bool), s.up = true ∧ fieldAt frame 0 1 = 0xA5 ∧ submitGood
      frame whole gapOk = false) ∧
    (∃ (s : State) (e : Entry), s.up = true ∧ s.mgmt.items.head? = some e) ∧
    (∃ (s : State), s.up = true ∧ s.mgmt.items = []) ∧
    (∃ (s : State), s.up = true) ∧
    (∃ (s : State) (frame : List Byte), s.up = true ∧ unknownFrame frame = true) :=
  ⟨⟨up0, goodFrame, true, true, by decide +kernel⟩,
    ⟨up0, goodFrame, true, false, by decide +kernel⟩,
    ⟨mgmtUp, anEvent, by decide +kernel⟩,
    ⟨up0, by decide +kernel⟩,
    ⟨mgmtUp, by decide +kernel⟩,
    ⟨up0, [0x11], by decide +kernel⟩⟩

theorem witness_RegisterWritesRun :
    (∃ (s : State) (master : Nat) (addr : Nat) (tick : Nat) (value : Word) (q : Pos), s.up = true ∧ s.key.holder = master ∧
      s.pair.role ≠ .shadow ∧ addr % 4 = 0 ∧ addr < 0x80000 ∧ posOf addr = some q ∧ (s.at tick).discards q (2 ^ 32 - 1)
      value.toNat = false) ∧
    (∃ (s : State), s.up = true) ∧
    (∃ (s : State) (master : Nat) (value : Word) (tick : Nat), s.up = true ∧ s.key.holder = master ∧ s.pair.role ≠ .shadow ∧
      (s.at tick).acceptsWord Reg.SYS_TUMBLER_APPLY value = true) ∧
    (∃ (s : State) (master : Nat) (station : Nat) (value : Word), s.up = true ∧ station < 5 ∧ s.key.holder = master ∧
      s.pair.role ≠ .shadow ∧ s.acceptsWord (Reg.STN_SEG_CTL station) value = true) ∧
    (∃ (s : State) (master : Nat) (station : Nat) (value : Word), s.up = true ∧ station < 5 ∧ s.key.holder = master ∧
      s.pair.role ≠ .shadow ∧ s.acceptsWord (Reg.STN_SEG_PHASE station) value = true) ∧
    (∃ (s : State) (master : Nat) (station : Nat) (value : Word), s.up = true ∧ station < 5 ∧ s.key.holder = master ∧
      s.pair.role ≠ .shadow ∧ s.acceptsWord (Reg.STN_DCT_DATA station) value = true) ∧
    (∃ (s : State) (master : Nat) (slot : Nat) (value : Word), s.up = true ∧ slot < 24 ∧ s.key.holder = master ∧ s.pair.role
      ≠ .shadow ∧ s.acceptsWord (Reg.LOOP_COEF_DATA slot) value = true) ∧
    (∃ (s : State) (master : Nat) (value : Word), s.up = true ∧ s.key.holder = master ∧ s.pair.role ≠ .shadow ∧ s.acceptsWord
      (Reg.AFE_CH_DATA) value = true) ∧
    (∃ (s : State) (master : Nat) (station : Nat) (value : Word), s.up = true ∧ station < 5 ∧ s.key.holder = master ∧
      s.pair.role ≠ .shadow ∧ s.acceptsWord (Reg.STN_EMIT_MARK station) value = true) ∧
    (∃ (s : State) (master : Nat) (station : Nat) (high : Bool) (value : Word), s.up = true ∧ station < 5 ∧ s.key.holder =
      master ∧ s.pair.role ≠ .shadow ∧ s.acceptsWord (if high then Reg.STN_EMIT_FAIL_HI station else Reg.STN_EMIT_FAIL_LO
      station) value = true) ∧
    (∃ (s : State) (master : Nat) (station : Nat) (high : Bool) (value : Word), s.up = true ∧ station < 5 ∧ s.key.holder =
      master ∧ s.pair.role ≠ .shadow ∧ s.acceptsWord (if high then Reg.STN_EMIT_FAIL_HI station else Reg.STN_EMIT_FAIL_LO
      station) value = true) ∧
    (∃ (s : State) (master : Nat) (station : Nat) (value : Word), s.up = true ∧ station < 5 ∧ s.key.holder = master ∧
      s.pair.role ≠ .shadow ∧ s.acceptsWord (Reg.STN_PIX_RATE station) value = true) ∧
    (∃ (s : State) (master : Nat) (value : Word), s.up = true ∧ s.key.holder = master ∧ s.pair.role ≠ .shadow ∧ s.acceptsWord
      (Reg.SYS_MASTER_STN) value = true) ∧
    (∃ (s : State) (master : Nat) (value : Word), s.up = true ∧ s.key.holder = master ∧ s.pair.role ≠ .shadow ∧ s.acceptsWord
      (Reg.SYS_KEY_CFG) value = true) ∧
    (∃ (s : State) (master : Nat) (value : Word), s.up = true ∧ s.key.holder = master ∧ s.pair.role ≠ .shadow ∧ s.acceptsWord
      (Reg.SYS_BUS_CFG) value = true) ∧
    (∃ (s : State) (master : Nat) (value : Word), s.up = true ∧ s.key.holder = master ∧ s.pair.role ≠ .shadow ∧ s.acceptsWord
      (Reg.SYS_PAIR_CFG) value = true) ∧
    (∃ (s : State) (master : Nat) (value : Word), s.up = true ∧ s.key.holder = master ∧ s.pair.role ≠ .shadow ∧ value = 1) ∧
    (∃ (s : State) (master : Nat) (value : Word) (tick : Nat), s.up = true ∧ s.key.holder = master ∧ s.pair.role ≠ .shadow ∧
      (s.at tick).acceptsWord Reg.SYS_DOMAIN_CTL value = true) ∧
    (∃ (s : State) (master : Nat) (value : Word) (tick : Nat), s.up = true ∧ s.key.holder = master ∧ s.pair.role ≠ .shadow ∧
      (s.at tick).acceptsWord Reg.SYS_DOMAIN_CTL value = true) ∧
    (∃ (s : State) (master : Nat) (drive : Nat) (value : Word), s.up = true ∧ drive < 12 ∧ s.key.holder = master ∧
      s.pair.role ≠ .shadow ∧ s.acceptsWord (Reg.DRV_CAP_CTL drive) value = true) ∧
    (∃ (s : State) (master : Nat) (station : Nat) (value : Word), s.up = true ∧ station < 5 ∧ s.key.holder = master ∧
      s.pair.role ≠ .shadow ∧ s.acceptsWord (Reg.STN_STAT_CLR station) value = true) ∧
    (∃ (s : State) (master : Nat) (drive : Nat) (value : Word), s.up = true ∧ drive < 12 ∧ s.key.holder = master ∧
      s.pair.role ≠ .shadow ∧ s.acceptsWord (Reg.DRV_STAT_CLR drive) value = true) ∧
    (∃ (s : State) (master : Nat) (value : Word), s.up = true ∧ s.key.holder = master ∧ s.pair.role ≠ .shadow ∧ s.acceptsWord
      (Reg.AFE_STAT_CLR) value = true) ∧
    (∃ (s : State) (addr : Nat) (a : Nat), s.up = true ∧ readAddr addr = some a) :=
  ⟨⟨up0, 0, 0x160, 9, 5, ⟨.sys, 0, 0x160, [RegMap.rw 0 32 0]⟩, by decide +kernel⟩,
    ⟨up0, by decide +kernel⟩,
    ⟨up0, 0, 0x80000001, 9, by decide +kernel⟩,
    ⟨up0, 0, 4, 1, by decide +kernel⟩,
    ⟨up0, 0, 4, 0x3FFF, by decide +kernel⟩,
    ⟨up0, 0, 4, 63, by decide +kernel⟩,
    ⟨up0, 0, 23, 7, by decide +kernel⟩,
    ⟨up0, 0, 7, by decide +kernel⟩,
    ⟨up0, 0, 4, 0x61, by decide +kernel⟩,
    ⟨up0, 0, 4, true, 3, by decide +kernel⟩,
    ⟨up0, 0, 0, false, 1, by decide +kernel⟩,
    ⟨up0, 0, 4, 0x7FFF, by decide +kernel⟩,
    ⟨up0, 0, 4, by decide +kernel⟩,
    ⟨up0, 0, 0x1080FA, by decide +kernel⟩,
    ⟨up0, 0, 0xF0E0D0C8, by decide +kernel⟩,
    ⟨up0, 0, 0x5F414645, by decide +kernel⟩,
    ⟨up0, 0, 1, by decide +kernel⟩,
    ⟨up0, 0, 0x0F, 9, by decide +kernel⟩,
    ⟨up0, 0, 0x1F, 9, by decide +kernel⟩,
    ⟨up0, 0, 11, 0x800, by decide +kernel⟩,
    ⟨up0, 0, 4, 1, by decide +kernel⟩,
    ⟨up0, 0, 11, 1, by decide +kernel⟩,
    ⟨up0, 0, 1, by decide +kernel⟩,
    ⟨up0, 0x14, 0x14, by decide +kernel⟩⟩

theorem witness_TumblerRowsRun :
    (∃ (s : State) (group : Nat) (inst : Nat), s.up = true ∧ (isStationGroup group = false ∨ (s.scan inst).state = .off)) ∧
    (∃ (s : State) (group : Nat) (inst : Nat) (a : Apply), s.up = true ∧ s.pair.role ≠ .shadow ∧ group ≠ 0 ∧ s.firstApply
      group inst = some a) ∧
    (∃ (s : State) (inst : Nat) (c : Cmd), s.up = true ∧ s.pair.role ≠ .shadow ∧ s.running.find? (switchOf inst) = some c) ∧
    (∃ (s : State) (station : Nat), s.up = true ∧ (s.scan station).state = .off) :=
  ⟨⟨up0, 2, 4, by decide +kernel⟩,
    ⟨waitingApply, 1, 31, anApply, by decide +kernel⟩,
    ⟨{ up0 with running := [aCmd Op.PLAN_SWITCH (pk 4 [])] }, 4, aCmd Op.PLAN_SWITCH (pk 4 []), by decide +kernel⟩,
    ⟨up0, 4, by decide +kernel⟩⟩

theorem witness_DomainRowsRun :
    (∃ (s : State) (station : Nat), s.up = true ∧ (s.station station).pending.isSome = true ∧ s.drained station = true) ∧
    (∃ (s : State) (station : Nat) (t : Nat), s.up = true ∧ (s.station station).pending = some t) ∧
    (∃ (s : State) (station : Nat), s.up = true ∧ bit (s.imm Fld.STN_ON) station = true ∧ (s.station station).powered =
      false) :=
  ⟨⟨goingDown, 4, by decide +kernel⟩,
    ⟨goingDown, 4, 3, by decide +kernel⟩,
    ⟨wentDown, 4, by decide +kernel⟩⟩

theorem witness_ResetRowsRun :
    (∃ (s : State), s.up = true ∧ s.inReset Fn.HOSTQ = false) ∧
    (∃ (s : State), s.up = true ∧ s.inReset Fn.DMA = false) ∧
    (∃ (s : State), s.up = true ∧ s.inReset Fn.DECOMP = false) ∧
    (∃ (s : State), s.up = true ∧ s.inReset Fn.LOOPS = false) ∧
    (∃ (s : State), s.up = true ∧ s.inReset Fn.FUSER = false) ∧
    (∃ (s : State), s.up = true ∧ s.inReset Fn.AFE = false) ∧
    (∃ (s : State), s.up = true ∧ s.inReset Fn.NVSTORE = false) ∧
    (∃ (s : State), s.up = true ∧ s.inReset Fn.PAIRLINK = false) ∧
    (∃ (s : State) (station : Nat), s.up = true ∧ station < 5 ∧ (s.station station).powered = true ∧ s.inReset (Fn.STATION +
      station) = false) ∧
    (∃ (s : State) (force : Bool), s.up = true ∧ s.inReset Fn.MOTION = false ∧ s.mode ≠ .printing ∧ s.needsForce force
      Fn.MOTION = false) ∧
    (∃ (s : State) (force : Bool), s.up = true ∧ s.inReset Fn.MOTION = false ∧ s.mode = .printing ∧ force = true) ∧
    (∃ (s : State) (force : Bool), s.up = true ∧ s.inReset Fn.HV = false ∧ s.mode ≠ .printing ∧ s.needsForce force Fn.HV =
      false) ∧
    (∃ (s : State) (force : Bool), s.up = true ∧ s.inReset Fn.HV = false ∧ s.mode = .printing ∧ force = true) ∧
    (∃ (s : State) (function : Nat), s.up = true ∧ s.inReset function = true) ∧
    (∃ (s : State) (function : Nat), s.up = true ∧ s.inReset function = true) :=
  ⟨⟨up0, by decide +kernel⟩,
    ⟨up0, by decide +kernel⟩,
    ⟨up0, by decide +kernel⟩,
    ⟨up0, by decide +kernel⟩,
    ⟨up0, by decide +kernel⟩,
    ⟨up0, by decide +kernel⟩,
    ⟨up0, by decide +kernel⟩,
    ⟨up0, by decide +kernel⟩,
    ⟨up0, 4, by decide +kernel⟩,
    ⟨up0, true, by decide +kernel⟩,
    ⟨inMode .printing, true, by decide +kernel⟩,
    ⟨up0, true, by decide +kernel⟩,
    ⟨inMode .printing, true, by decide +kernel⟩,
    ⟨inResetOf 1, 1, by decide +kernel⟩,
    ⟨inResetOf 14, 14, by decide +kernel⟩⟩

theorem witness_KeyTimersRun :
    (∃ (s : State), s.up = true ∧ s.key.windowOpen = true ∧ s.key.claims ≠ []) ∧
    (∃ (s : State) (k : Claim), s.up = true ∧ s.key.windowOpen = true ∧ s.key.claims = [k]) ∧
    (∃ (s : State), s.up = true ∧ s.key.holder ≠ 3 ∧ s.key.lapsed = false) ∧
    (∃ (s : State), s.up = true ∧ s.cred.live = true) ∧
    (∃ (s : State) (t : Nat), s.up = true ∧ s.cred.lockout = some t) :=
  ⟨⟨claimed, by decide +kernel⟩,
    ⟨claimed, aClaim, by decide +kernel⟩,
    ⟨up0, by decide +kernel⟩,
    ⟨challenged, by decide +kernel⟩,
    ⟨lockedOut, 7, by decide +kernel⟩⟩

theorem witness_StopRowsRun :
    (∃ (s : State), s.up = true ∧ s.pair.role ≠ .shadow ∧ s.modes.draining = true ∧ s.modes.stopping = .none ∧ s.pathEmpty =
      true) ∧
    (∃ (s : State), s.up = true ∧ s.pair.role ≠ .shadow ∧ s.modes.stopping = .orderly ∧ s.mechanicsAtRest = true) ∧
    (∃ (s : State), s.up = true ∧ (s.modes.stopping = .safe ∨ s.modes.stopping = .bridgesOff) ∧ s.mechanicsAtRest = true) ∧
    (∃ (s : State), s.up = true ∧ (s.modes.stopping = .safe ∨ s.modes.stopping = .bridgesOff) ∧ s.mechanicsAtRest = true) ∧
    (∃ (s : State), s.up = true ∧ (s.modes.stopping = .safe ∨ s.modes.stopping = .bridgesOff)) :=
  ⟨⟨drainingUp, by decide +kernel⟩,
    ⟨stoppingUp .orderly, by decide +kernel⟩,
    ⟨stoppingUp .safe, by decide +kernel⟩,
    ⟨stoppingUp .bridgesOff, by decide +kernel⟩,
    ⟨stoppingUp .safe, by decide +kernel⟩⟩

theorem witness_WarmRowsRun :
    (∃ (s : State) (step : WarmStep), s.up = true ∧ s.mode = .warming ∧ s.modes.stopping = .none ∧ step ≠ .load) ∧
    (∃ (s : State) (t : Nat), s.up = true ∧ s.pair.role ≠ .shadow ∧ s.mode = .warming ∧ s.modes.stopping = .none ∧
      s.modes.allHeld = some t ∧ warmSteps.all (s.at (t + ms (s.imm Fld.SETTLE_HOLD))).stepHolds = true) ∧
    (∃ (s : State), s.up = true ∧ s.pair.role ≠ .shadow ∧ s.mode = .warming ∧ s.modes.stopping = .none) ∧
    (∃ (s : State), s.up = true ∧ s.mode = .warming ∧ s.modes.stopping = .none ∧ s.modes.warmDone.contains .load = false) ∧
    (∃ (s : State) (c : Cmd), s.up = true ∧ s.running.find? (fun c => c.op = Op.INIT_MEMORY) = some c) ∧
    (∃ (s : State), s.up = true ∧ s.modes.memReady = true) :=
  ⟨⟨inMode .warming, .fuser, by decide +kernel⟩,
    ⟨allWarm, 5, by decide +kernel⟩,
    ⟨inMode .warming, by decide +kernel⟩,
    ⟨inMode .warming, by decide +kernel⟩,
    ⟨initialising, initCmd, by decide +kernel⟩,
    ⟨inMode .standby, by decide +kernel⟩⟩

theorem witness_BootRowsRun :
    (∃ (lowTicks : Nat), us 10 ≤ lowTicks) ∧
    (∃ (s : State), s.pins.resetn = false ∧ s.supply.on = true) ∧
    (∃ (s : State), s.up = true ∧ s.boot.phase < 5) ∧
    (∃ (s : State), s.up = true ∧ s.pair.paired = true ∧ s.boot.phase = 5 ∧ s.pair.role = .unpaired) ∧
    (∃ (s : State), s.pins.resetn = true ∧ s.supply.on = true ∧ s.mode = .dormant) ∧
    (∃ (s : State), s.mode = .dormant ∧ s.modes.waking = true) :=
  ⟨⟨1000, by decide +kernel⟩,
    ⟨heldDown, by decide +kernel⟩,
    ⟨booting, by decide +kernel⟩,
    ⟨electing, by decide +kernel⟩,
    ⟨dormantUp, by decide +kernel⟩,
    ⟨wakingUp, by decide +kernel⟩⟩

theorem witness_SupplyRowsRun :
    (∃ (s : State) (vin : Nat), s.supply.on = false ∧ 360 ≤ vin ∧ s.pins.resetn = true) ∧
    (∃ (s : State) (vin : Nat), s.supply.on = false ∧ 360 ≤ vin ∧ s.pins.resetn = false) ∧
    (∃ (s : State), s.up = true ∧ s.supply.warning = false ∧ s.bus.linkUp = true) ∧
    (∃ (s : State) (vin : Nat), s.up = true ∧ s.supply.warning = true ∧ 368 ≤ vin) ∧
    (∃ (s : State) (vbus : Nat), s.up = true ∧ s.pins.resetn = true ∧ s.bus.linkUp = true ∧ vbus < 10 * s.imm Fld.OV2) ∧
    (∃ (s : State), s.up = true ∧ s.pins.resetn = true ∧ s.bus.linkUp = false) ∧
    (∃ (s : State), s.pins.resetn = false) ∧
    (∃ (s : State), s.up = true ∧ s.bus.linkUp = true) ∧
    (∃ (s : State), s.up = true ∧ s.bus.linkUp = false) ∧
    (∃ (s : State), s.up = true) :=
  ⟨⟨supplyOff, 360, by decide +kernel⟩,
    ⟨{ supplyOff with pins := { Pins.reset with resetn := false } }, 360, by decide +kernel⟩,
    ⟨up0, by decide +kernel⟩,
    ⟨warned, 368, by decide +kernel⟩,
    ⟨up0, 2399, by decide +kernel⟩,
    ⟨linkDown, by decide +kernel⟩,
    ⟨heldDown, by decide +kernel⟩,
    ⟨up0, by decide +kernel⟩,
    ⟨linkDown, by decide +kernel⟩,
    ⟨up0, by decide +kernel⟩⟩

theorem witness_SafetyRowsRun :
    (∃ (s : State), s.up = true ∧ s.safety.interlock = false) ∧
    (∃ (s : State), s.up = true ∧ s.safety.overtemp = false) :=
  ⟨⟨up0, by decide +kernel⟩,
    ⟨up0, by decide +kernel⟩⟩

theorem witness_GateRowsRun :
    (∃ (s : State) (slot : Nat) (tick : Nat), s.up = true ∧ s.pair.role ≠ .shadow ∧ (s.at tick).project.pickDue slot = true ∧
      (s.at tick).project.pickPasses slot = true ∧ (s.at tick).project.sheets.pickWait = none ∧ (s.at
      tick).project.syncedLead = false) ∧
    (∃ (s : State) (slot : Nat) (tick : Nat), s.up = true ∧ s.pair.role ≠ .shadow ∧ (s.at tick).project.pickDue slot = true ∧
      (s.at tick).project.pickPasses slot = true ∧ (s.at tick).project.sheets.pickWait = none ∧ (s.at
      tick).project.syncedLead = true) ∧
    (∃ (s : State) (slot : Nat) (tick : Nat), s.up = true ∧ s.pair.role ≠ .shadow ∧ (s.at tick).project.pickDue slot = true ∧
      (s.at tick).project.pickPasses slot = false) ∧
    (∃ (s : State) (t : Nat) (slot : Nat), s.up = true ∧ s.pair.role ≠ .shadow ∧ s.sheets.starved = some t ∧ s.head = some
      slot ∧ s.sheets.starvedUp = false) ∧
    (∃ (s : State) (slot : Nat) (tick : Nat), s.up = true ∧ s.pair.role ≠ .shadow ∧ (s.at tick).project.hingeDue slot = true
      ∧ (s.at tick).project.hingePasses slot = true) ∧
    (∃ (s : State) (slot : Nat), s.up = true ∧ s.pair.role ≠ .shadow ∧ s.sheets.hingeReady = some slot ∧ s.modes.stopping =
      .none ∧ s.sheets.hingeMsg.any s.unconfirmed = false) ∧
    (∃ (s : State) (slot : Nat) (sh : Sheet), s.up = true ∧ s.pair.role ≠ .shadow ∧ s.sheet? slot = some sh ∧ sh.state =
      .registered ∧ sh.gateFail.isSome = true ∧ s.sheets.hingeReady ≠ some slot ∧ s.pathStopped = false) :=
  ⟨⟨withSheet .ready .accepted, 3, 9, by decide +kernel⟩,
    ⟨putSheet (aSheet .accepted) { leadOf true with modes := (inMode .ready).modes }, 3, 9, by decide +kernel⟩,
    ⟨pickFailing, 3, 9, by decide +kernel⟩,
    ⟨starving, 5, 3, by decide +kernel⟩,
    ⟨atGate, 3, 9, by decide +kernel⟩,
    ⟨gatePassed, 3, by decide +kernel⟩,
    ⟨gateFailed, 3, heldSheet, by decide +kernel⟩⟩

theorem witness_PathRowsRun :
    (∃ (s : State) (sensor : Nat) (tick : Nat), s.up = true ∧ s.path.level.getD sensor false = false ∧ (homeEdge sensor
      (stamp100 tick) (List.range 24) ((s.at tick).setLevel sensor true)).mode = .service) ∧
    (∃ (s : State) (sensor : Nat) (tick : Nat) (i : Nat), s.up = true ∧ s.path.level.getD sensor false = false ∧ (homeEdge
      sensor (stamp100 tick) (List.range 24) ((s.at tick).setLevel sensor true)).mode ≠ .service ∧ (homeEdge sensor (stamp100
      tick) (List.range 24) ((s.at tick).setLevel sensor true)).leadOwner sensor (stamp100 tick) = some i) ∧
    (∃ (s : State) (sensor : Nat) (tick : Nat), s.up = true ∧ s.path.level.getD sensor false = false ∧ (homeEdge sensor
      (stamp100 tick) (List.range 24) ((s.at tick).setLevel sensor true)).mode ≠ .service ∧ (homeEdge sensor (stamp100 tick)
      (List.range 24) ((s.at tick).setLevel sensor true)).leadOwner sensor (stamp100 tick) = none ∧ (homeEdge sensor
      (stamp100 tick) (List.range 24) ((s.at tick).setLevel sensor true)).watched sensor = true ∧ (homeEdge sensor (stamp100
      tick) (List.range 24) ((s.at tick).setLevel sensor true)).pathStopped = false) ∧
    (∃ (s : State) (sensor : Nat), s.up = true ∧ s.path.level.getD sensor false = true ∧ s.mode = .service) ∧
    (∃ (s : State) (sensor : Nat) (tick : Nat) (i : Nat), s.up = true ∧ s.path.level.getD sensor false = true ∧ s.mode ≠
      .service ∧ ((s.at tick).setLevel sensor false).trailOwner sensor = some i) ∧
    (∃ (s : State) (slot : Nat) (sensor : Nat) (c : Nat) (sh : Sheet) (k : Track), s.up = true ∧ s.onPath slot = some sh ∧
      sh.track sensor = some k ∧ k.centre sh = some c ∧ s.windowsRun = true ∧ sh.everPicked = true ∧ k.windowed sh = true ∧
      k.lead = none) ∧
    (∃ (s : State) (slot : Nat) (sensor : Nat) (t : Nat) (sh : Sheet) (k : Track), s.up = true ∧ s.onPath slot = some sh ∧
      sh.track sensor = some k ∧ k.lead = some t ∧ s.windowsRun = true ∧ k.windowed sh = true ∧ k.trail = none ∧ (k.role = 3
      → sh.pastHinge = true)) ∧
    (∃ (s : State) (slot : Nat) (step : Nat) (sh : Sheet) (x : StepTrack) (e : Nat × Int), s.up = true ∧ s.onPath slot = some
      sh ∧ sh.steps.find? (fun x => x.step = step) = some x ∧ x.event = some e ∧ s.pathStopped = false ∧ x.fired = false ∧
      s.stepReady x = true ∧ sh.firstOf x = true ∧ s.livOn (Fld.AXS_EN x.axis) = true ∧ x.axis < 24 ∧ (s.axis
      x.axis).queueFull = false) :=
  ⟨⟨inMode .service, 63, 9, by decide +kernel⟩,
    ⟨awaited, 5, 100000, 3, by decide +kernel⟩,
    ⟨watchedUp, 63, 9, by decide +kernel⟩,
    ⟨coveredService, 5, by decide +kernel⟩,
    ⟨covered, 5, 100000, 3, by decide +kernel⟩,
    ⟨awaited, 3, 5, awaitedCentre, awaitedSheet, awaitedTrack, by decide +kernel⟩,
    ⟨covered, 3, 5, 7, coveredSheet, coveredTrack, by decide +kernel⟩,
    ⟨stepDue, 3, 2, stepSheet, aStep, (5, 0), by decide +kernel⟩⟩

theorem witness_ScanRowsRun :
    (∃ (s : State) (station : Nat) (tick : Nat) (raw : Nat) (falling : Bool) (width : Nat), s.up = true ∧ (((s.at
      tick).turnPll station).scan station).state ≠ .off ∧ falling = ((s.at tick).turnPll station).livOn (Fld.STN_BD_EDGE
      station) ∧ 20 ≤ width ∧ ((s.at tick).turnPll station).sameEdge station ((((s.at tick).turnPll station).pll
      station).stamp raw) = false ∧ (((s.at tick).turnPll station).scan station).window = true ∧ ((s.at tick).turnPll
      station).pastWindow station = false) ∧
    (∃ (s : State) (station : Nat) (tick : Nat) (raw : Nat) (falling : Bool) (width : Nat), s.up = true ∧ (((s.at
      tick).turnPll station).scan station).state ≠ .off ∧ falling = ((s.at tick).turnPll station).livOn (Fld.STN_BD_EDGE
      station) ∧ 20 ≤ width ∧ ((s.at tick).turnPll station).sameEdge station ((((s.at tick).turnPll station).pll
      station).stamp raw) = false ∧ ((((s.at tick).turnPll station).scan station).window = false ∨ ((s.at tick).turnPll
      station).pastWindow station = true)) ∧
    (∃ (s : State) (station : Nat) (raw : Nat), s.up = true ∧ (s.scan station).window = false ∧ s.sameEdge station ((s.turned
      station).stamp raw) = false) ∧
    (∃ (s : State) (station : Nat), s.up = true ∧ (s.scan station).state ≠ .off ∧ (s.scan station).window = true) ∧
    (∃ (s : State) (station : Nat), s.up = true ∧ (s.scan station).state ≠ .off ∧ (s.scan station).window = false) ∧
    (∃ (s : State) (station : Nat), s.up = true ∧ (s.scan station).state ≠ .off) ∧
    (∃ (s : State) (station : Nat), s.up = true ∧ (s.scan station).state ≠ .off) ∧
    (∃ (s : State) (station : Nat), s.up = true ∧ (s.station station).powered = true ∧ (s.scan station).state = .off ∧
      s.sweepMode = true ∧ ((s.link station).state ≠ .up ∨ (s.pll station).locked = false ∨ bit s.resets.busy (Fn.STATION +
      station) = true)) :=
  ⟨⟨windowOpen, 4, 9, 100, false, 20, by decide +kernel⟩,
    ⟨tracking .ready, 4, 9, 100, false, 20, by decide +kernel⟩,
    ⟨up0, 4, 0, by decide +kernel⟩,
    ⟨windowOpen, 4, by decide +kernel⟩,
    ⟨tracking .ready, 4, by decide +kernel⟩,
    ⟨tracking .ready, 4, by decide +kernel⟩,
    ⟨tracking .ready, 4, by decide +kernel⟩,
    ⟨inMode .ready, 4, by decide +kernel⟩⟩

theorem witness_ClockRowsRun :
    (∃ (s : State) (station : Nat) (tick : Nat), s.up = true ∧ s.locking station = true ∧ (s.pll station).trying = true ∧
      s.bandHolds station = true ∧ tick ≤ s.lockDue station) ∧
    (∃ (s : State) (station : Nat) (phases : List Nat) (count : Option Nat), s.up = true ∧ s.findsUnlock station phases count
      = true) ∧
    (∃ (s : State) (station : Nat), s.up = true ∧ station < s.stations.length ∧ s.locking station = true ∧ (s.pll
      station).halted = false) ∧
    (∃ (s : State) (station : Nat) (a : Apply), s.up = true ∧ s.locking station = false ∧ s.tumbler.waiting.find?
      (State.waitsLock station) = some a) ∧
    (∃ (s : State) (station : Nat), s.up = true ∧ station < s.stations.length ∧ (s.pll station).survey = true) ∧
    (∃ (s : State), s.up = true ∧ s.run.slowStep = 1 ∧ s.noneImaging = true) ∧
    (∃ (s : State), s.up = true ∧ s.run.slowStep = 2 ∧ s.runStations.all (fun n => (s.scan n).tracking) = true) :=
  ⟨⟨lockable, 4, 9, by decide +kernel⟩,
    ⟨lockedUp, 4, List.replicate 16 5001, none, by decide +kernel⟩,
    ⟨lockable, 4, by decide +kernel⟩,
    ⟨lockWait, 4, aLockApply, by decide +kernel⟩,
    ⟨surveying, 4, by decide +kernel⟩,
    ⟨slowUp 1, by decide +kernel⟩,
    ⟨slowUp 2, by decide +kernel⟩⟩

theorem witness_LinkRowsRun :
    (∃ (s : State) (station : Nat), s.up = true ∧ s.pair.role ≠ .shadow ∧ (s.link station).state = .t0) ∧
    (∃ (s : State) (station : Nat) (d : Nat), s.up = true ∧ stepLimit (s.link station).state = some d) ∧
    (∃ (s : State) (station : Nat), s.up = true ∧ (s.link station).state = .wait) ∧
    (∃ (s : State) (station : Nat), s.up = true ∧ s.hears station ∧ (s.link station).state = .t1) ∧
    (∃ (s : State) (station : Nat) (vendor : Nat) (model : Nat) (fw : Nat) (emitters : Nat) (caps : Nat) (crc : Nat), s.up =
      true ∧ s.hears station ∧ crc ≠ headCrc 0x01 (leBytes 2 vendor ++ leBytes 2 model ++ leBytes 2 fw ++ leBytes 1 emitters
      ++ leBytes 1 caps)) ∧
    (∃ (s : State) (station : Nat), s.up = true ∧ s.hears station ∧ (s.link station).state = .t2) ∧
    (∃ (s : State) (station : Nat) (crc : Nat), s.up = true ∧ s.hears station ∧ crc ≠ headCrc 0x02 []) ∧
    (∃ (s : State) (station : Nat), s.up = true ∧ s.hears station) ∧
    (∃ (s : State) (station : Nat) (reason : Nat) (crc : Nat), s.up = true ∧ s.hears station ∧ crc ≠ headCrc 0x03 (leBytes 1
      reason)) ∧
    (∃ (s : State) (station : Nat), s.up = true ∧ s.hears station) ∧
    (∃ (s : State) (station : Nat) (cause : Nat) (crc : Nat), s.up = true ∧ s.hears station ∧ crc ≠ headCrc 0x21 (leBytes 1
      cause)) ∧
    (∃ (s : State) (station : Nat), s.up = true ∧ s.hears station ∧ (s.link station).state = .loopback ∧ (s.link
      station).loopEnds = 0) ∧
    (∃ (s : State) (station : Nat) (e0 : Nat) (e1 : Nat) (e2 : Nat) (e3 : Nat) (crc : Nat), s.up = true ∧ s.hears station ∧
      crc ≠ headCrc 0x30 (leBytes 4 e0 ++ leBytes 4 e1 ++ leBytes 4 e2 ++ leBytes 4 e3)) ∧
    (∃ (s : State) (station : Nat) (tick : Nat), s.up = true ∧ (s.link station).lastMsg + us (s.imm (Fld.STN_RET_TIMEOUT
      station)) ≤ tick) ∧
    (∃ (s : State) (station : Nat), s.up = true ∧ (s.link station).retLocked = true) ∧
    (∃ (s : State) (station : Nat), s.up = true ∧ (s.link station).state = .loopback ∧ (s.link station).loopEnds ≠ 0) ∧
    (∃ (s : State) (station : Nat), s.up = true ∧ (s.link station).state = .loopback ∧ (s.link station).loopEnds = 0) :=
  ⟨⟨linkIn .t0, 4, by decide +kernel⟩,
    ⟨linkIn .t1, 4, (stepLimit .t1).getD 0, by decide +kernel⟩,
    ⟨linkIn .wait, 4, by decide +kernel⟩,
    ⟨linkIn .t1, 4, by decide +kernel⟩,
    ⟨linkIn .t1, 4, 1, 2, 3, 34, 7, 70000, by decide +kernel⟩,
    ⟨linkIn .t2, 4, by decide +kernel⟩,
    ⟨linkIn .t2, 4, 70000, by decide +kernel⟩,
    ⟨linkIn .up, 4, by decide +kernel⟩,
    ⟨linkIn .up, 4, 1, 70000, by decide +kernel⟩,
    ⟨linkIn .up, 4, by decide +kernel⟩,
    ⟨linkIn .up, 4, 1, 70000, by decide +kernel⟩,
    ⟨looping 0, 4, by decide +kernel⟩,
    ⟨looping 0, 4, 1, 2, 3, 4, 70000, by decide +kernel⟩,
    ⟨linkIn .up, 4, sec 1, by decide +kernel⟩,
    ⟨linkIn .up, 4, by decide +kernel⟩,
    ⟨looping 9, 4, by decide +kernel⟩,
    ⟨looping 0, 4, by decide +kernel⟩⟩

theorem witness_HeadRowsRun :
    (∃ (s : State) (station : Nat), s.up = true ∧ s.hears station) ∧
    (∃ (s : State) (station : Nat) (temp : Int) (flags : Nat) (seq : Nat) (crc : Nat), s.up = true ∧ s.hears station ∧ crc ≠
      headCrc 0x20 (leInt 1 temp ++ leBytes 1 flags ++ leBytes 2 seq)) ∧
    (∃ (s : State) (station : Nat) (emitter : Nat), s.up = true ∧ s.hears station ∧ station < s.stations.length ∧ emitter <
      (s.pipe station).emitters.length ∧ (s.link station).state = .up ∧ emitter < 34) ∧
    (∃ (s : State) (station : Nat) (sweep : Nat) (emitter : Nat) (sample : Nat) (crc : Nat), s.up = true ∧ s.hears station ∧
      crc ≠ headCrc 0x10 (leBytes 2 sweep ++ leBytes 1 emitter ++ leBytes 1 0 ++ leBytes 2 sample)) ∧
    (∃ (s : State) (station : Nat) (emitter : Nat) (kind : Nat), s.up = true ∧ s.hears station ∧ (s.link station).state = .up
      ∧ emitter < 34 ∧ (kind = 1 ∨ kind = 2)) ∧
    (∃ (s : State) (station : Nat) (emitter : Nat) (kind : Nat) (sweep : Nat) (crc : Nat), s.up = true ∧ s.hears station ∧
      crc ≠ headCrc 0x11 (leBytes 1 emitter ++ leBytes 1 kind ++ leBytes 4 sweep)) ∧
    (∃ (s : State) (station : Nat) (reason : Nat), s.up = true ∧ s.hears station ∧ (s.link station).state = .up ∧ reason = 3) ∧
    (∃ (s : State) (station : Nat) (sweep : Nat) (mask : Nat) (reason : Nat) (crc : Nat), s.up = true ∧ s.hears station ∧ crc
      ≠ headCrc 0x12 (leBytes 4 sweep ++ leBytes 4 mask ++ leBytes 1 reason)) ∧
    (∃ (s : State) (station : Nat), s.up = true ∧ (s.station station).powered = true) ∧
    (∃ (s : State) (station : Nat), s.up = true ∧ (s.pipe station).calMask ≠ 0 ∧ (s.calEmitters station).all (fun e =>
      (s.calSum station e).length = 8) = true) ∧
    (∃ (s : State) (station : Nat) (j : CaptureJob), s.up = true ∧ s.captures.find? (fun j => j.station = station && (j.full
      || j.sweeps ≤ j.done)) = some j) :=
  ⟨⟨linkIn .up, 4, by decide +kernel⟩,
    ⟨linkIn .up, 4, 25, 7, 1, 70000, by decide +kernel⟩,
    ⟨linkIn .up, 4, 33, by decide +kernel⟩,
    ⟨linkIn .up, 4, 5, 33, 4095, 70000, by decide +kernel⟩,
    ⟨linkIn .up, 4, 33, 2, by decide +kernel⟩,
    ⟨linkIn .up, 4, 33, 2, 5, 70000, by decide +kernel⟩,
    ⟨linkIn .up, 4, 3, by decide +kernel⟩,
    ⟨linkIn .up, 4, 5, 1, 3, 70000, by decide +kernel⟩,
    ⟨linkIn .up, 4, by decide +kernel⟩,
    ⟨sampled, 4, by decide +kernel⟩,
    ⟨captured, 4, aJob, by decide +kernel⟩⟩

set_option maxRecDepth 1000000 in
theorem witness_FeedRowsRun :
    (∃ (s : State) (tick : Nat), s.up = true ∧ s.pair.role ≠ .shadow ∧ s.modes.memReady = true ∧ s.feed.shedLoad = false ∧
      s.inReset Fn.DECOMP = false ∧ (s.at tick).nextJob.isSome = true) ∧
    (∃ (s : State) (engine : Nat) (i : Nat) (j : Nat), s.up = true ∧ (s.engine engine).job = some (i, j)) ∧
    (∃ (s : State) (engine : Nat) (i : Nat) (j : Nat) (fault : Option Bool) (sh : Sheet) (b : Band) (orig : List Byte), s.up
      = true ∧ (s.engine engine).job = some (i, j) ∧ s.sheet? i = some sh ∧ s.band? i j = some b ∧ ((s.engine engine).redo =
      false ∨ b.block ≠ []) ∧ engineVerdict b (s.lineDots b.station) fault = .ok orig) ∧
    (∃ (s : State) (engine : Nat) (i : Nat) (j : Nat) (fault : Option Bool) (sh : Sheet) (b : Band) (v : Verdict), s.up =
      true ∧ (s.engine engine).job = some (i, j) ∧ s.sheet? i = some sh ∧ s.band? i j = some b ∧ ((s.engine engine).redo =
      false ∨ b.block ≠ []) ∧ engineVerdict b (s.lineDots b.station) fault = v ∧ (v = .badCrc ∨ v = .malformed)) ∧
    (∃ (s : State) (engine : Nat) (i : Nat) (j : Nat) (sh : Sheet) (b : Band), s.up = true ∧ (s.engine engine).job = some (i,
      j) ∧ s.sheet? i = some sh ∧ s.band? i j = some b ∧ (s.engine engine).redo = true ∧ b.block = []) ∧
    (∃ (s : State) (tick : Nat) (x : Int × Nat × Nat) (xs : List (Int × Nat × Nat)) (b : Band), s.up = true ∧ s.pair.role ≠
      .shadow ∧ (s.at tick).inOrder (fun b => b.state = .waiting) = x :: xs ∧ (s.at tick).band? x.2.1 x.2.2 = some b ∧ (s.at
      tick).ringRoom b.space = true) :=
  ⟨⟨stagedBand, 9, by decide +kernel⟩,
    ⟨decoding, 11, 3, 0, by decide +kernel⟩,
    ⟨decoding, 11, 3, 0, none, decodingSheet, goodBand, goodOrig, by decide +kernel⟩,
    ⟨decoding, 11, 3, 0, some true, decodingSheet, goodBand, .badCrc, by decide +kernel⟩,
    ⟨redoLost, 11, 3, 0, bandSheet freshBand, freshBand, by decide +kernel⟩,
    ⟨waitingBand, 9, waitingKey, [], freshBand, by decide +kernel⟩⟩

set_option maxRecDepth 1000000 in
theorem witness_DmaRowsRun :
    (∃ (s : State) (channel : Nat) (l : DmaList) (ls : List DmaList), s.up = true ∧ s.dmaHeld = false ∧ (s.channel
      channel).lists = l :: ls ∧ s.dmaRuns = true ∧ (s.channel channel).cur = none) ∧
    (∃ (s : State), s.up = true ∧ s.dmaHeld = true) ∧
    (∃ (s : State) (channel : Nat) (line : List Byte) (tick : Nat) (i : Nat) (j : Nat) (d : Desc) (sh : Sheet) (b : Band),
      s.up = true ∧ s.dmaRuns = true ∧ (s.channel channel).cur = some d ∧ d.region = 0 ∧ d.stale = false ∧ d.target = none ∧
      (s.at tick).openAt d.ofs = some (i, j) ∧ (s.at tick).sheet? i = some sh ∧ (s.at tick).band? i j = some b ∧ namesOther
      line sh b = false ∧ (s.at tick).headerGood d sh b line = true) ∧
    (∃ (s : State) (channel : Nat) (l : Landing) (ls : List Landing), s.up = true ∧ (s.channel channel).landing = l :: ls) ∧
    (∃ (s : State) (channel : Nat) (i : Nat) (j : Nat) (d : Desc), s.up = true ∧ (s.channel channel).landing = [] ∧
      (s.channel channel).cur = some d ∧ d.target = some (i, j) ∧ d.staged = false) ∧
    (∃ (s : State) (channel : Nat) (d : Desc), s.up = true ∧ s.dmaRuns = true ∧ (s.channel channel).cur = some d ∧ d.region =
      0 ∧ (d.stale = true ∨ d.target.isSome = true ∧ (d.staged = true ∨ d.barrier = false))) ∧
    (∃ (s : State) (channel : Nat) (d : Desc), s.up = true ∧ s.dmaRuns = true ∧ (s.channel channel).cur = some d ∧ d.region ≠
      0 ∧ d.dir = 0) ∧
    (∃ (s : State) (channel : Nat) (d : Desc), s.up = true ∧ s.dmaRuns = true ∧ (s.channel channel).cur = some d ∧ d.region ≠
      0 ∧ d.dir ≠ 0) ∧
    (∃ (s : State) (channel : Nat), s.up = true ∧ channel < 16 ∧ s.dmaHeld = false) ∧
    (∃ (s : State) (channel : Nat) (write : Bool), s.up = true ∧ channel < 16 ∧ s.dmaHeld = true ∧ write = false) ∧
    (∃ (s : State) (channel : Nat) (write : Bool), s.up = true ∧ channel < 16 ∧ s.dma.stopped = true ∧ write = true) ∧
    (∃ (s : State) (channel : Nat), s.up = true ∧ s.dmaHeld = false ∧ (s.channel channel).lists ≠ []) ∧
    (∃ (s : State), s.up = true ∧ s.dma.stopped = false) :=
  ⟨⟨listed, 15, aList, [], by decide +kernel⟩,
    ⟨heldDma, by decide +kernel⟩,
    ⟨stagingUp, 15, stageLine, 9, 3, 0, stageDesc, requestedSheet, requestedBand, by decide +kernel⟩,
    ⟨landingUp, 15, aLanding, [], by decide +kernel⟩,
    ⟨takenUp, 15, 3, 0, takenDesc, by decide +kernel⟩,
    ⟨withDesc { stageDesc with stale := true } (inMode .ready), 15, { stageDesc with stale := true }, by decide +kernel⟩,
    ⟨movingUp, 15, scratchDesc, by decide +kernel⟩,
    ⟨withDesc outDesc (inMode .ready), 15, outDesc, by decide +kernel⟩,
    ⟨listed, 15, by decide +kernel⟩,
    ⟨heldDma, 15, false, by decide +kernel⟩,
    ⟨heldDma, 15, true, by decide +kernel⟩,
    ⟨listed, 15, by decide +kernel⟩,
    ⟨up0, by decide +kernel⟩⟩

theorem witness_MemoryRowsRun :
    (∃ (s : State) (line : Nat) (data : List Byte) (check : Nat) (reader : MemReader), s.up = true ∧ s.modes.memReady = true
      ∧ line < bufferLines ∧ (crcT10 (data ++ leBytes 4 line)).toNat ≠ check ∧ s.reads reader = true) ∧
    (∃ (s : State) (line : Nat) (data : List Byte) (check : Nat), s.up = true ∧ (crcT10 (data ++ leBytes 4 line)).toNat =
      check) ∧
    (∃ (s : State), s.up = true) ∧
    (∃ (s : State), s.up = true ∧ s.modes.memReady = true ∧ s.feed.shedLoad = false ∧ s.imm Fld.SCRUB_PERIOD ≠ 0) :=
  ⟨⟨inMode .ready, 0, List.replicate 64 0, 1, .window 4, by decide +kernel⟩,
    ⟨inMode .ready, 0, List.replicate 64 0, 0, by decide +kernel⟩,
    ⟨inMode .ready, by decide +kernel⟩,
    ⟨inMode .ready, by decide +kernel⟩⟩

theorem witness_DriveRowsRun :
    (∃ (s : State) (drive : Nat) (inp : DriveInput) (tick : Nat), s.up = true ∧ ((s.at tick).landGroup Grp.DRV_MOTOR
      drive).livOn (Fld.DRV_EN drive) = true ∧ bit ((s.at tick).landGroup Grp.DRV_MOTOR drive).resets.busy Fn.AFE = false ∧
      bit ((s.at tick).landGroup Grp.DRV_MOTOR drive).resets.busy Fn.MOTION = false ∧ ((((s.at tick).landGroup Grp.DRV_MOTOR
      drive).driveReadings drive inp).commutate drive).overcurrent drive inp = false) ∧
    (∃ (s : State) (drive : Nat) (inp : DriveInput) (tick : Nat), s.up = true ∧ ((s.at tick).landGroup Grp.DRV_MOTOR
      drive).livOn (Fld.DRV_EN drive) = true ∧ bit ((s.at tick).landGroup Grp.DRV_MOTOR drive).resets.busy Fn.AFE = false ∧
      bit ((s.at tick).landGroup Grp.DRV_MOTOR drive).resets.busy Fn.MOTION = false ∧ ((((s.at tick).landGroup Grp.DRV_MOTOR
      drive).driveReadings drive inp).commutate drive).overcurrent drive inp = true) ∧
    (∃ (s : State) (drive : Nat) (tick : Nat), s.up = true ∧ ((s.at tick).drive drive).running = true ∧ (s.at
      tick).implausible drive = true ∧ (s.at tick).fast drive = true ∧ ((s.at tick).drive drive).state ≠ .fallback) ∧
    (∃ (s : State) (drive : Nat) (tick : Nat), s.up = true ∧ ((s.at tick).drive drive).running = true ∧ (s.at
      tick).implausible drive = true ∧ (s.at tick).fast drive = false) ∧
    (∃ (s : State) (drive : Nat), s.up = true ∧ (s.drive drive).state = .listen) ∧
    (∃ (s : State) (drive : Nat) (tick : Nat), s.up = true ∧ (s.drive drive).state = .fallback ∧ 3 * s.zcInterval drive *
      ((s.drive drive).missed + 1) ≤ 2 * (tick - (s.drive drive).zcTimes.getLast?.getD 0) ∧ (s.drive drive).missed = 0) ∧
    (∃ (s : State) (drive : Nat) (tick : Nat), s.up = true ∧ (s.drive drive).state = .fallback ∧ 3 * s.zcInterval drive *
      ((s.drive drive).missed + 1) ≤ 2 * (tick - (s.drive drive).zcTimes.getLast?.getD 0) ∧ (s.drive drive).missed ≠ 0) ∧
    (∃ (s : State) (drive : Nat), s.up = true ∧ (s.drive drive).distrust = true ∧ ms 64 ≤ (s.drive drive).encAgree) ∧
    (∃ (s : State) (drive : Nat), s.up = true ∧ (s.drive drive).bridge = true ∧ 256 ≤ (s.drive drive).lowPhase) ∧
    (∃ (s : State) (drive : Nat) (speed : Int) (emf : Nat) (tick : Nat), s.up = true ∧ (s.drive drive).state = .listen ∧ (9 ≤
      (s.drive drive).zcTimes.length ∨ (s.drive drive).since + ms 20 ≤ (s.at tick).now) ∧ s.running.any (driveCmd
      [Op.DRIVE_BRAKE] drive) = false ∧ (emf < 200 ∨ speed = 0)) ∧
    (∃ (s : State) (drive : Nat), s.up = true ∧ (s.drive drive).state = .start ∧ (s.drive drive).aligning = true) ∧
    (∃ (s : State) (drive : Nat) (tick : Nat), s.up = true ∧ (s.drive drive).state = .start ∧ (s.drive drive).aligning =
      false ∧ (s.drive drive).waiting = false ∧ 3 * (100000000 * s.imm (Fld.DRV_HANDOVER drive)) ≤ 2 * (s.at tick).stepped
      drive ∧ (s.drive drive).attempts = 0) ∧
    (∃ (s : State) (drive : Nat) (tick : Nat), s.up = true ∧ (s.drive drive).state = .start ∧ (s.drive drive).aligning =
      false ∧ (s.drive drive).waiting = false ∧ 3 * (100000000 * s.imm (Fld.DRV_HANDOVER drive)) ≤ 2 * (s.at tick).stepped
      drive ∧ (s.drive drive).attempts ≠ 0) ∧
    (∃ (s : State) (drive : Nat), s.up = true ∧ (s.drive drive).state = .start ∧ (s.drive drive).waiting = true) ∧
    (∃ (s : State) (drive : Nat) (speed : Int) (emf : Nat), s.up = true ∧ (s.drive drive).pending = true ∧ (emf < 200 ∨
      (s.drive drive).forward speed = true ∨ speed.natAbs < s.imm (Fld.DRV_REV_MAX drive))) ∧
    (∃ (s : State) (drive : Nat) (m : SpeedMove), s.up = true ∧ (s.drive drive).move = some m ∧ m.stop = false ∧ (s.drive
      drive).arrived m.target = true) ∧
    (∃ (s : State) (drive : Nat) (m : SpeedMove), s.up = true ∧ (s.drive drive).move = some m ∧ m.stop = true ∧ s.refDone
      drive = true) ∧
    (∃ (s : State) (drive : Nat) (t : Nat), s.up = true ∧ (s.drive drive).restSince = some t ∧ (s.drive drive).state =
      .fluxBrake ∧ s.running.any (driveCmd [Op.DRIVE_BRAKE] drive) = true) :=
  ⟨⟨driveOn .run, 11, quietInput, 9, by decide +kernel⟩,
    ⟨bridgeOn, 11, loudInput, 9, by decide +kernel⟩,
    ⟨implausibleUp, 11, 9, by decide +kernel⟩,
    ⟨slowImplausible, 11, 9, by decide +kernel⟩,
    ⟨driveOn .listen, 11, by decide +kernel⟩,
    ⟨driveOn .fallback, 11, 9, by decide +kernel⟩,
    ⟨missedOne, 11, 9, by decide +kernel⟩,
    ⟨distrusted, 11, by decide +kernel⟩,
    ⟨openPhase, 11, by decide +kernel⟩,
    ⟨driveOn .listen, 11, 0, 0, ms 20, by decide +kernel⟩,
    ⟨aligningUp, 11, by decide +kernel⟩,
    ⟨driveOn .start, 11, sec 1, by decide +kernel⟩,
    ⟨secondStart, 11, sec 1, by decide +kernel⟩,
    ⟨retrying, 11, by decide +kernel⟩,
    ⟨pendingUp, 11, 0, 0, by decide +kernel⟩,
    ⟨movingDrive, 11, aSpeedMove, by decide +kernel⟩,
    ⟨stoppedDrive, 11, aStopMove, by decide +kernel⟩,
    ⟨braking, 11, 7, by decide +kernel⟩⟩

theorem witness_AxisRowsRun :
    (∃ (s : State) (axis : Nat) (tick : Nat), s.up = true ∧ axis < s.axes.length ∧ ((s.at tick).axis axis).energised = true ∧
      bit s.resets.busy Fn.AFE = false) ∧
    (∃ (s : State) (axis : Nat) (tick : Nat), s.up = true ∧ axis < s.axes.length ∧ ((s.at tick).axis axis).energised = true) ∧
    (∃ (s : State), s.up = true) ∧
    (∃ (s : State) (group : Nat) (tick : Nat), s.up = true ∧ group < s.groups.length ∧ ((s.at tick).groupHeads group).isSome
      = true ∧ ((((s.at tick).groupHeads group).getD []).any (fun h => (s.at tick).overPeak h.1 (1000 * (s.at tick).imm
      (Fld.GRP_V group) * h.2.value.natAbs / ((s.at tick).groupLeader (((s.at tick).groupHeads group).getD [])).2)) = false ∨
      ((s.at tick).groupLeader (((s.at tick).groupHeads group).getD [])).2 = 0)) ∧
    (∃ (s : State) (group : Nat) (tick : Nat), s.up = true ∧ ((s.at tick).groupHeads group).isSome = true ∧ (((s.at
      tick).groupHeads group).getD []).any (fun h => (s.at tick).overPeak h.1 (1000 * (s.at tick).imm (Fld.GRP_V group) *
      h.2.value.natAbs / ((s.at tick).groupLeader (((s.at tick).groupHeads group).getD [])).2)) = true ∧ ((s.at
      tick).groupLeader (((s.at tick).groupHeads group).getD [])).2 ≠ 0) ∧
    (∃ (s : State) (axis : Nat) (t : Nat), s.up = true ∧ firstOfTwo (s.axis axis).stall1 (s.axis axis).stall2 = some t) ∧
    (∃ (s : State), s.up = true) ∧
    (∃ (s : State), s.up = true) ∧
    (∃ (s : State) (encoder : Nat), s.up = true ∧ encoder < s.encoders.length ∧ (s.encoder encoder).raised = false ∧ (s.imm
      (Fld.ENC_BACKSLACK encoder) : Int) < (s.encoder encoder).high - (s.encoder encoder).count ∧ s.mode ≠ .printing) :=
  ⟨⟨energised, 23, 9, by decide +kernel⟩,
    ⟨energised, 23, 9, by decide +kernel⟩,
    ⟨energised, by decide +kernel⟩,
    ⟨groupWaits, 7, 9, by decide +kernel⟩,
    ⟨groupFast, 7, 9, by decide +kernel⟩,
    ⟨stalling, 23, 7, by decide +kernel⟩,
    ⟨up0, by decide +kernel⟩,
    ⟨up0, by decide +kernel⟩,
    ⟨reversing, 7, by decide +kernel⟩⟩

theorem witness_LoopRowsRun :
    (∃ (s : State) (slot : Nat) (tick : Nat), s.up = true ∧ bit (s.at tick).resets.busy Fn.LOOPS = false ∧ (s.at
      tick).sampleDue slot = true ∧ (((s.at tick).landGroup Grp.LOOP_COEF slot).loop slot).state = .closed ∧ ((s.at
      tick).landGroup Grp.LOOP_COEF slot).destsOn slot = true ∧ (((s.at tick).landGroup Grp.LOOP_COEF slot).loop
      slot).closeInit = none) ∧
    (∃ (s : State) (slot : Nat) (tick : Nat), s.up = true ∧ bit (s.at tick).resets.busy Fn.LOOPS = false ∧ (s.at
      tick).sampleDue slot = true ∧ (((s.at tick).landGroup Grp.LOOP_COEF slot).loop slot).state = .closed ∧ ((s.at
      tick).landGroup Grp.LOOP_COEF slot).destsOn slot = false) ∧
    (∃ (s : State) (slot : Nat) (tick : Nat), s.up = true ∧ bit (s.at tick).resets.busy Fn.LOOPS = false ∧ (s.at
      tick).sampleDue slot = true ∧ (((s.at tick).landGroup Grp.LOOP_COEF slot).loop slot).state = .off) ∧
    (∃ (s : State) (r : Nat × Nat) (rs : List (Nat × Nat)), s.up = true ∧ s.resets.rearm = r :: rs) :=
  ⟨⟨sampling, 23, us 100, by decide +kernel⟩,
    ⟨destOff, 23, us 100, by decide +kernel⟩,
    ⟨up0, 23, us 100, by decide +kernel⟩,
    ⟨rearming, (23, 0), [], by decide +kernel⟩⟩

theorem witness_HvFuserRowsRun :
    (∃ (s : State) (channel : Nat), s.up = true ∧ (s.hvCh channel).en = true ∧ bit s.resets.busy Fn.AFE = false ∧ bit
      s.resets.busy Fn.HV = false) ∧
    (∃ (s : State) (channel : Nat) (e : Nat) (i : Nat), s.up = true ∧ (s.hvCh channel).rampEnd = some e ∧ (s.hvCh
      channel).inSince = some i ∧ (s.hvCh channel).settled = false ∧ (s.hvCh channel).arcPause = false) ∧
    (∃ (s : State) (channel : Nat) (e : Nat), s.up = true ∧ (s.hvCh channel).rampEnd = some e ∧ (s.hvCh channel).settled =
      false ∧ (s.hvCh channel).fault = false) ∧
    (∃ (s : State) (channel : Nat), s.up = true ∧ (s.hvCh channel).arcPause = true ∧ channel < s.hv.length) ∧
    (∃ (s : State) (tick : Nat), s.up = true ∧ 769000 ≤ tick - s.safety.lastEdge ∧ tick - s.safety.lastEdge ≤ 1111000) ∧
    (∃ (s : State) (tick : Nat), s.up = true ∧ 769000 ≤ tick - s.safety.lastEdge ∧ tick - s.safety.lastEdge ≤ 1111000) ∧
    (∃ (s : State), s.up = true ∧ s.safety.zcLost = false) ∧
    (∃ (s : State), s.up = true ∧ s.safety.zcLost = true ∧ bit s.resets.busy Fn.FUSER = false) ∧
    (∃ (s : State) (zone : Nat) (t : Nat) (temp : Int), s.up = true ∧ (s.zone zone).highFrom = some (t, temp) ∧ 10 * (s.imm
      (Fld.FZ_RISE_MIN zone) : Int) ≤ (s.therm (s.imm (Fld.FZ_CFG_TH zone))).temp - temp) ∧
    (∃ (s : State) (zone : Nat) (t : Nat) (temp : Int), s.up = true ∧ (s.zone zone).highFrom = some (t, temp) ∧ (s.therm
      (s.imm (Fld.FZ_CFG_TH zone))).temp - temp < 10 * (s.imm (Fld.FZ_RISE_MIN zone) : Int)) :=
  ⟨⟨hvOn, 23, by decide +kernel⟩,
    ⟨hvOn, 23, 5, 6, by decide +kernel⟩,
    ⟨hvOn, 23, 5, by decide +kernel⟩,
    ⟨arced, 23, by decide +kernel⟩,
    ⟨fuserReset, 769000, by decide +kernel⟩,
    ⟨up0, 1111000, by decide +kernel⟩,
    ⟨up0, by decide +kernel⟩,
    ⟨noMains, by decide +kernel⟩,
    ⟨heating, 3, 7, -2000, by decide +kernel⟩,
    ⟨coldZone, 3, 7, 2000, by decide +kernel⟩⟩

theorem witness_AfeRowsRun :
    (∃ (s : State) (bank : Nat), s.up = true ∧ bank < s.afe.banks.length ∧ s.inReset Fn.AFE = false) ∧
    (∃ (s : State) (bank : Nat) (c0 : Int) (cBG : Int) (check : Int), s.up = true ∧ (s.bank bank).calSlice ≠ 7 ∧ s.inReset
      Fn.AFE = false ∧ c0.natAbs ≤ 16 * s.imm Fld.OFS_LIMIT ∧ (nearest (1000000 * (16 * 8192 - (cBG - c0))) (cBG -
      c0)).natAbs ≤ 100 * s.imm Fld.GAIN_LIMIT ∧ check.natAbs ≤ 16 * s.imm Fld.CHECK_TOL) ∧
    (∃ (s : State) (bank : Nat) (c0 : Int) (cBG : Int) (check : Int), s.up = true ∧ (s.bank bank).calSlice ≠ 7 ∧ s.inReset
      Fn.AFE = false ∧ (16 * s.imm Fld.OFS_LIMIT < c0.natAbs ∨ 100 * s.imm Fld.GAIN_LIMIT < (nearest (1000000 * (16 * 8192 -
      (cBG - c0))) (cBG - c0)).natAbs ∨ 16 * s.imm Fld.CHECK_TOL < check.natAbs)) ∧
    (∃ (s : State), s.up = true ∧ s.imm Fld.CAL_PERIOD ≠ 0) ∧
    (∃ (s : State) (channel : Nat), s.up = true ∧ s.inReset Fn.AFE = false ∧ s.zeroHolds channel = true ∧ s.running.any (fun
      c => isCal 1 c && c.p.target = channel) = true) ∧
    (∃ (s : State) (kind : Nat) (r : Nat), s.up = true ∧ s.nv.storing = some (kind, r) ∧ kind ≠ 4) ∧
    (∃ (s : State) (r : Nat), s.up = true ∧ s.nv.storing = some (4, r)) ∧
    (∃ (s : State) (kind : Nat) (r : Nat), s.up = true ∧ s.nv.storing = some (kind, r)) ∧
    (∃ (s : State), s.up = true ∧ s.mode ≠ .printing ∧ s.supplyLow = false ∧ s.nv.readable = true) :=
  ⟨⟨up0, 2, by decide +kernel⟩,
    ⟨slicing, 2, 0, 131072, 0, by decide +kernel⟩,
    ⟨slicing, 2, 1000000, 131072, 0, by decide +kernel⟩,
    ⟨up0, by decide +kernel⟩,
    ⟨zeroing, 23, by decide +kernel⟩,
    ⟨storingUp, 2, 2, by decide +kernel⟩,
    ⟨storingTrim, 4, by decide +kernel⟩,
    ⟨storingUp, 2, 2, by decide +kernel⟩,
    ⟨flashOn .standby, by decide +kernel⟩⟩

theorem witness_MirrorRowsRun_bad : ∃ (s : State) (block : List Byte),
    s.up = true ∧ s.pair.role = .shadow ∧ s.linked = true ∧ ∀ o, decodeBlock block ≠ .ok o :=
  ⟨shadowUp, [], by decide +kernel, by decide +kernel, by decide +kernel, fun o h => by
    have : decodeBlock [] = .malformed := by decide +kernel
    rw [this] at h; cases h⟩

set_option maxRecDepth 1000000 in
theorem witness_MirrorRowsRun :
    (∃ (s : State) (verdict : Nat), s.up = true ∧ s.pair.role = .shadow ∧ s.linked = true ∧ verdict ≠ 0) ∧
    (∃ (s : State) (verdict : Nat), s.up = true ∧ s.pair.role = .shadow ∧ s.linked = true ∧ verdict = 0) ∧
    (∃ (s : State), s.up = true ∧ s.pair.role = .shadow ∧ s.linked = true) ∧
    (∃ (s : State), s.up = true ∧ s.pair.role = .shadow ∧ s.linked = true) ∧
    (∃ (s : State), s.up = true ∧ s.pair.role = .shadow ∧ s.linked = true) ∧
    (∃ (s : State), s.up = true ∧ s.pair.role = .shadow ∧ s.linked = true) ∧
    (∃ (s : State), s.up = true ∧ s.pair.role = .shadow ∧ s.linked = true) ∧
    (∃ (s : State), s.up = true ∧ s.pair.role = .shadow ∧ s.linked = true) ∧
    (∃ (s : State), s.up = true ∧ s.pair.role = .shadow ∧ s.linked = true) ∧
    (∃ (s : State), s.up = true ∧ s.pair.role = .shadow ∧ s.linked = true) ∧
    (∃ (s : State), s.up = true ∧ s.pair.role = .shadow ∧ s.linked = true) ∧
    (∃ (s : State), s.up = true ∧ s.pair.role = .shadow ∧ s.linked = true) ∧
    (∃ (s : State), s.up = true ∧ s.pair.role = .shadow ∧ s.linked = true) ∧
    (∃ (s : State) (queue : Nat), s.up = true ∧ s.pair.role = .shadow ∧ s.linked = true ∧ queue < s.queues.length) ∧
    (∃ (s : State), s.up = true ∧ s.pair.role = .shadow ∧ s.linked = true) ∧
    (∃ (s : State), s.up = true ∧ s.pair.role = .shadow ∧ s.linked = true ∧ s.pair.synced = false) ∧
    (∃ (s : State) (block : List Byte) (o : List Byte), s.up = true ∧ s.pair.role = .shadow ∧ s.linked = true ∧ decodeBlock
      block = .ok o) ∧
    (∃ (s : State) (isPacket : Bool), s.up = true ∧ s.linked = true ∧ s.pair.role = .lead ∧ isPacket = true) ∧
    (∃ (s : State) (isPacket : Bool), s.up = true ∧ s.linked = true ∧ s.pair.role = .shadow ∧ isPacket = false) ∧
    (∃ (s : State), s.up = true ∧ s.linked = true ∧ s.pair.role = .lead ∧ s.pairWork.switching = false) ∧
    (∃ (s : State) (u : Nat × Nat) (us_ : List (Nat × Nat)), s.up = true ∧ s.pair.role = .lead ∧ s.pair.unacked = u :: us_ ∧
      s.pair.synced = true) :=
  ⟨⟨shadowUp, 9, by decide +kernel⟩,
    ⟨shadowUp, 0, by decide +kernel⟩,
    ⟨shadowUp, by decide +kernel⟩,
    ⟨shadowUp, by decide +kernel⟩,
    ⟨shadowUp, by decide +kernel⟩,
    ⟨shadowUp, by decide +kernel⟩,
    ⟨shadowUp, by decide +kernel⟩,
    ⟨shadowUp, by decide +kernel⟩,
    ⟨shadowUp, by decide +kernel⟩,
    ⟨shadowUp, by decide +kernel⟩,
    ⟨shadowUp, by decide +kernel⟩,
    ⟨shadowUp, by decide +kernel⟩,
    ⟨shadowUp, by decide +kernel⟩,
    ⟨shadowUp, 31, by decide +kernel⟩,
    ⟨shadowUp, by decide +kernel⟩,
    ⟨shadowUp, by decide +kernel⟩,
    ⟨shadowUp, goodBlock, goodOrig, by decide +kernel⟩,
    ⟨leadOf true, true, by decide +kernel⟩,
    ⟨shadowUp, false, by decide +kernel⟩,
    ⟨leadOf true, by decide +kernel⟩,
    ⟨unackedUp, (1, 5), [], by decide +kernel⟩⟩

theorem witness_PairRowsRun :
    (∃ (s : State), s.up = true ∧ s.linked = true) ∧
    (∃ (s : State), s.up = true ∧ s.linked = true) ∧
    (∃ (s : State) (lockLost : Bool) (tick : Nat), s.up = true ∧ s.pair.paired = true ∧ (s.pairWork.quiet.any fun t => (s.at
      tick).now < t) = false ∧ s.pair.peerRole ≠ 0 ∧ (lockLost = true ∨ (s.at tick).beatsMissed = true) ∧ s.pair.role =
      .lead) ∧
    (∃ (s : State) (t : Nat), s.up = true ∧ s.pair.fenceFrom = some t) ∧
    (∃ (s : State), s.up = true ∧ s.mirrors = true) ∧
    (∃ (s : State), s.up = true ∧ s.pair.synced = false ∧ s.pair.role = .lead ∧ s.pair.syncing = true ∧ s.pair.peerRole = 2) ∧
    (∃ (s : State), s.up = true ∧ s.pair.synced = false ∧ s.pair.role = .shadow ∧ s.pair.peerRole = 1 ∧ s.converged = true) ∧
    (∃ (s : State), s.up = true ∧ s.pair.syncing = true) ∧
    (∃ (s : State), s.up = true ∧ s.pair.dboltIn = false) ∧
    (∃ (s : State), s.supply.on = true) :=
  ⟨⟨leadOf true, by decide +kernel⟩,
    ⟨leadOf true, by decide +kernel⟩,
    ⟨leadOf true, true, 9, by decide +kernel⟩,
    ⟨fencing, 7, by decide +kernel⟩,
    ⟨leadOf true, by decide +kernel⟩,
    ⟨syncingUp, by decide +kernel⟩,
    ⟨convergedUp, by decide +kernel⟩,
    ⟨syncingUp, by decide +kernel⟩,
    ⟨leadOf true, by decide +kernel⟩,
    ⟨up0, by decide +kernel⟩⟩

theorem witness_StepRunsFront :
    (∃ (c : Instr) (cs : List Instr) (s : State), s.pending = c :: cs) :=
  ⟨.nop (pk 0 []), [], { up0 with pending := [.nop (pk 0 [])] }, by decide +kernel⟩

theorem witness_EmptyQueueIdles :
    (∃ (s : State), s.pending = []) :=
  ⟨up0, by decide +kernel⟩

theorem witness_ResetLeaves :
    (∃ (i : Nat), i < 128) ∧
    (∃ (q : Nat), q < 32) :=
  ⟨⟨127, by decide +kernel⟩,
    ⟨31, by decide +kernel⟩⟩

theorem witness_DownIgnores :
    (∃ (i : Instr) (s : State), s.up = false ∧ actsAlways i = false) ∧
    (∃ (i : Instr) (s : State), s.up = false ∧ actsAlways i = false) :=
  ⟨⟨.nop (pk 0xFFFF []), dormantUp, by decide +kernel⟩,
    ⟨.bdEdge 4 0 0 true 20, heldDown, by decide +kernel⟩⟩

theorem witness_ForeignWriteDiscarded :
    (∃ (s : State) (master : Nat) (addr : Nat), s.up = true ∧ addr < 0x100000 ∧ s.key.holder ≠ master) ∧
    (∃ (s : State) (master : Nat) (offset : Nat) (q : Nat) (a : Nat), s.up = true ∧ offset % 4 = 0 ∧ bar2Of offset = some (q,
      some a) ∧ s.key.holder ≠ master) ∧
    (∃ (s : State) (master : Nat), s.up = true ∧ s.key.holder ≠ master) ∧
    (∃ (s : State) (master : Nat), s.up = true ∧ s.key.holder ≠ master) ∧
    (∃ (s : State) (master : Nat), s.up = true ∧ s.key.holder ≠ master) ∧
    (∃ (s : State) (master : Nat), s.up = true ∧ s.key.holder ≠ master) ∧
    (∃ (s : State) (master : Nat), s.up = true ∧ s.key.holder ≠ master) ∧
    (∃ (s : State) (master : Nat), s.up = true ∧ s.key.holder ≠ master) ∧
    (∃ (s : State) (master : Nat), s.up = true ∧ s.key.holder ≠ master) ∧
    (∃ (s : State) (master : Nat), s.up = true ∧ s.key.holder ≠ master) ∧
    (∃ (s : State) (master : Nat), s.up = true ∧ s.key.holder ≠ master) ∧
    (∃ (s : State) (master : Nat), s.up = true ∧ s.key.holder ≠ master) ∧
    (∃ (s : State) (master : Nat), s.up = true ∧ s.key.holder ≠ master) ∧
    (∃ (s : State) (master : Nat), s.up = true ∧ s.key.holder ≠ master) ∧
    (∃ (s : State) (master : Nat), s.up = true ∧ s.key.holder ≠ master) ∧
    (∃ (s : State) (master : Nat), s.up = true ∧ s.key.holder ≠ master) ∧
    (∃ (s : State) (master : Nat), s.up = true ∧ s.key.holder ≠ master) ∧
    (∃ (s : State) (master : Nat), s.up = true ∧ s.key.holder ≠ master) ∧
    (∃ (s : State) (master : Nat), s.up = true ∧ s.key.holder ≠ master) ∧
    (∃ (s : State) (master : Nat), s.up = true ∧ s.key.holder ≠ master) ∧
    (∃ (s : State) (master : Nat), s.up = true ∧ s.key.holder ≠ master) ∧
    (∃ (s : State) (master : Nat), s.up = true ∧ s.key.holder ≠ master) ∧
    (∃ (s : State) (master : Nat), s.up = true ∧ s.key.holder ≠ master) ∧
    (∃ (s : State) (master : Nat), s.up = true ∧ s.key.holder ≠ master) :=
  ⟨⟨up0, 1, 0x40, by decide +kernel⟩,
    ⟨up0, 1, 0x1F08, 31, Reg.QUE_BASE_LO 31, by decide +kernel⟩,
    ⟨up0, 1, by decide +kernel⟩,
    ⟨up0, 1, by decide +kernel⟩,
    ⟨up0, 1, by decide +kernel⟩,
    ⟨up0, 1, by decide +kernel⟩,
    ⟨up0, 1, by decide +kernel⟩,
    ⟨up0, 1, by decide +kernel⟩,
    ⟨up0, 1, by decide +kernel⟩,
    ⟨up0, 1, by decide +kernel⟩,
    ⟨up0, 1, by decide +kernel⟩,
    ⟨up0, 1, by decide +kernel⟩,
    ⟨up0, 1, by decide +kernel⟩,
    ⟨up0, 1, by decide +kernel⟩,
    ⟨up0, 1, by decide +kernel⟩,
    ⟨up0, 1, by decide +kernel⟩,
    ⟨up0, 1, by decide +kernel⟩,
    ⟨up0, 1, by decide +kernel⟩,
    ⟨up0, 1, by decide +kernel⟩,
    ⟨up0, 1, by decide +kernel⟩,
    ⟨up0, 1, by decide +kernel⟩,
    ⟨up0, 1, by decide +kernel⟩,
    ⟨up0, 1, by decide +kernel⟩,
    ⟨up0, 1, by decide +kernel⟩⟩

theorem witness_AccessCheck :
    (∃ (s : State) (i : Instr) (op : Nat) (cls : Machine.Class) (p : Packet), packetOf i = some (op, cls, p) ∧ s.judges op p
      ∧ s.keyQuiet p ∧ s.pair.role ≠ .shadow ∧ cls ≠ .observer ∧ s.key.holder ≠ p.master) ∧
    (∃ (s : State) (i : Instr) (op : Nat) (cls : Machine.Class) (p : Packet), packetOf i = some (op, cls, p) ∧ s.judges op p
      ∧ s.keyQuiet p ∧ s.pair.role ≠ .shadow ∧ cls ≠ .observer ∧ s.key.holder = p.master ∧ p.epoch ≠ s.key.epoch) ∧
    (∃ (s : State) (i : Instr) (op : Nat) (cls : Machine.Class) (p : Packet), packetOf i = some (op, cls, p) ∧ s.judges op p
      ∧ s.keyQuiet p ∧ s.pair.role ≠ .shadow ∧ cls ≠ .observer ∧ s.key.holder = p.master ∧ p.epoch = s.key.epoch ∧ cls =
      .service ∧ s.key.service = false) :=
  ⟨⟨freeKey, .driveStart (pk 0 []), Op.DRIVE_START, .owner, pk 0 [], by decide +kernel⟩,
    ⟨up0, .driveStart { pk 0 [] with epoch := 2 }, Op.DRIVE_START, .owner, { pk 0 [] with epoch := 2 }, by decide +kernel⟩,
    ⟨{ up0 with key := { up0.key with service := false } }, .headCal (pk 0 []), Op.HEAD_CAL, .service, pk 0 [], by decide +kernel⟩⟩

theorem witness_FenceHolds_free : ∃ (s : State) (op : Nat) (p : Packet), p.fence = false ∧
    ∀ x, (x ∈ s.running.map (·.p) ∨ x ∈ (s.earlier op p).map (·.2) ∨ x ∈ s.pairWork.relayed ∨ x ∈ s.hold.cancels.map (·.2.2.p)) → x.master = p.master → x.sq = p.sq → x.fence = false :=
  ⟨up0, Op.NOP, pk 0xFFFF [], rfl, by simp [up0, State.earlier, State.reset, PairWork.reset, Holding.reset]⟩

theorem witness_FenceHolds :
    (∃ (s : State) (i : Instr) (op : Nat) (cls : Machine.Class) (p : Packet) (x : Packet), packetOf i = some (op, cls, p) ∧
      s.up = true ∧ s.pairWork.mirroring = false ∧ ((x ∈ s.running.map (·.p) ∨ x ∈ (s.earlier op p).map (·.2) ∨ x ∈
      s.pairWork.relayed ∨ x ∈ s.hold.cancels.map (·.2.2.p))) ∧ x.master = p.master ∧ x.sq = p.sq ∧ p.fence = true) ∧
    (∃ (s : State) (i : Instr) (op : Nat) (cls : Machine.Class) (p : Packet) (x : Packet), packetOf i = some (op, cls, p) ∧
      s.up = true ∧ s.pairWork.mirroring = false ∧ ((x ∈ s.running.map (·.p) ∨ x ∈ (s.earlier op p).map (·.2) ∨ x ∈
      s.pairWork.relayed ∨ x ∈ s.hold.cancels.map (·.2.2.p))) ∧ x.master = p.master ∧ x.sq = p.sq ∧ p.fence = true) ∧
    (∃ (s : State) (i : Instr) (op : Nat) (cls : Machine.Class) (p : Packet) (x : Packet), packetOf i = some (op, cls, p) ∧
      s.up = true ∧ s.pairWork.mirroring = false ∧ ((x ∈ s.running.map (·.p) ∨ x ∈ (s.earlier op p).map (·.2) ∨ x ∈
      s.pairWork.relayed ∨ x ∈ s.hold.cancels.map (·.2.2.p))) ∧ x.master = p.master ∧ x.sq = p.sq ∧ p.fence = true) ∧
    (∃ (s : State) (i : Instr) (op : Nat) (cls : Machine.Class) (p : Packet) (x : Packet), packetOf i = some (op, cls, p) ∧
      s.up = true ∧ s.pairWork.mirroring = false ∧ ((x ∈ s.running.map (·.p) ∨ x ∈ (s.earlier op p).map (·.2) ∨ x ∈
      s.pairWork.relayed ∨ x ∈ s.hold.cancels.map (·.2.2.p))) ∧ x.master = p.master ∧ x.sq = p.sq ∧ p.fence = true) ∧
    (∃ (s : State) (i : Instr) (op : Nat) (cls : Machine.Class) (p : Packet) (x : Packet), packetOf i = some (op, cls, p) ∧
      s.up = true ∧ s.pairWork.mirroring = false ∧ ((x ∈ s.running.map (·.p) ∨ x ∈ (s.earlier op p).map (·.2) ∨ x ∈
      s.pairWork.relayed ∨ x ∈ s.hold.cancels.map (·.2.2.p))) ∧ x.master = p.master ∧ x.sq = p.sq ∧ x.fence = true) :=
  ⟨⟨{ up0 with running := [aCmd Op.MOVE (pk 0 [])] }, .nop ({ pk 0xFFFF [] with fence := true }), Op.NOP, .observer, { pk 0xFFFF [] with fence := true }, pk 0 [], by decide +kernel⟩,
    ⟨{ up0 with arrived := [(Op.NOP, pk 0xFFFF []), (Op.NOP, { pk 0xFFFF [] with fence := true, index := 1 })] }, .nop ({ pk 0xFFFF [] with fence := true, index := 1 }), Op.NOP, .observer, { pk 0xFFFF [] with fence := true, index := 1 }, pk 0xFFFF [], by decide +kernel⟩,
    ⟨{ up0 with pairWork := { up0.pairWork with relayed := [pk 0xFFFF []] } }, .nop ({ pk 0xFFFF [] with fence := true }), Op.NOP, .observer, { pk 0xFFFF [] with fence := true }, pk 0xFFFF [], by decide +kernel⟩,
    ⟨{ up0 with hold := { up0.hold with cancels := [(0, 1, aCmd Op.SHEET_CANCEL (pk 0 []))] } }, .nop ({ pk 0xFFFF [] with fence := true }), Op.NOP, .observer, { pk 0xFFFF [] with fence := true }, pk 0 [], by decide +kernel⟩,
    ⟨{ up0 with running := [aCmd Op.MOVE { pk 0 [] with fence := true }] }, .nop (pk 0xFFFF []), Op.NOP, .observer, pk 0xFFFF [], { pk 0 [] with fence := true }, by decide +kernel⟩⟩

theorem witness_DoorbellSpan :
    (∃ (s : State) (q : Nat) (value : Word), s.up = true ∧ s.queueOn q = true ∧ s.queueType q ≠ Ty.SUBMISSION ∧ s.queueType q
      ≠ Ty.UNUSED ∧ s.inSpan q value.toNat = true) ∧
    (∃ (s : State) (q : Nat) (value : Word), s.up = true ∧ s.queueOn q = true ∧ s.queueType q ≠ Ty.SUBMISSION ∧ s.queueType q
      ≠ Ty.UNUSED ∧ s.inSpan q value.toNat = false) ∧
    (∃ (s : State) (q : Nat), s.up = true ∧ s.queueOn q = true ∧ s.queueType q = Ty.UNUSED) ∧
    (∃ (s : State) (q : Nat), s.up = true ∧ s.queueOn q = false) ∧
    (∃ (s : State) (q : Nat) (value : Word), s.up = true ∧ s.queueOn q = true ∧ s.queueType q ≠ Ty.SUBMISSION ∧ s.queueType q
      ≠ Ty.UNUSED ∧ s.inSpan q value.toNat = true) ∧
    (∃ (s : State) (q : Nat) (value : Word), s.up = true ∧ s.queueOn q = true ∧ s.queueType q ≠ Ty.SUBMISSION ∧ s.queueType q
      ≠ Ty.UNUSED ∧ s.inSpan q value.toNat = false) ∧
    (∃ (s : State) (q : Nat), s.up = true ∧ s.queueOn q = true ∧ s.queueType q = Ty.UNUSED) ∧
    (∃ (s : State) (q : Nat), s.up = true ∧ s.queueOn q = false) ∧
    (∃ (s : State) (q : Nat), s.queueType q = Ty.UNUSED) ∧
    (∃ (s : State) (e : Entry) (q : Nat), s.queueFor e = some q) :=
  ⟨⟨compUp, 8, 0, by decide +kernel⟩,
    ⟨compUp, 8, 1, by decide +kernel⟩,
    ⟨up0.setImm (Fld.QUE_ENABLE 31) 1, 31, by decide +kernel⟩,
    ⟨up0, 31, by decide +kernel⟩,
    ⟨compUp, 8, 0, by decide +kernel⟩,
    ⟨compUp, 8, 1, by decide +kernel⟩,
    ⟨up0.setImm (Fld.QUE_ENABLE 31) 1, 31, by decide +kernel⟩,
    ⟨up0, 31, by decide +kernel⟩,
    ⟨up0, 31, by decide +kernel⟩,
    ⟨up0, anEvent, 21, by decide +kernel⟩⟩

theorem witness_EventMasksAct :
    (∃ (s : State) (p : Packet), s.admits Op.EVENT_MASK .owner p ∧ p.target = 0xFFFF) ∧
    (∃ (i : Nat), 2 ≤ eventSeverity i) ∧
    (∃ (i : Nat), eventSeverity i < 2) ∧
    (∃ (s : State) (i : Nat), s.pair.role ≠ .shadow ∧ s.hostTakes i = false ∧ s.mgmtTakes i = false) :=
  ⟨⟨up0, pk 0xFFFF [0], by decide +kernel⟩,
    ⟨1, by decide +kernel⟩,
    ⟨0, by decide +kernel⟩,
    ⟨{ up0 with hostMask := [], mgmtMask := [] }, 0, by decide +kernel⟩⟩

theorem witness_ClaimsSettle :
    (∃ (s : State) (k : Claim), s.up = true ∧ s.key.windowOpen = true ∧ s.key.claims.Pairwise (fun a b => a.cmd.seq <
      b.cmd.seq) ∧ k ∈ s.key.claims ∧ (∀ x ∈ s.key.claims, x.prio < k.prio ∨ x.prio = k.prio ∧ k.cmd.seq ≤ x.cmd.seq)) ∧
    (∃ (s : State) (p : Packet), s.admits Op.CLAIM_KEY .observer p ∧ p.target = 0xFFFF ∧ onlyParams p [(0, 1)] = true ∧ par p
      0 1 ≤ 7 ∧ s.key.holder = 3 ∧ p.master < 3 ∧ s.key.windowOpen = false ∧ s.key.claims = [] ∧ s.imm Fld.KEY_CLAIM_WINDOW =
      0) :=
  ⟨⟨twoClaims, claimB, by decide +kernel⟩,
    ⟨freeKey.setImm Fld.KEY_CLAIM_WINDOW 0, pk 0xFFFF [7], by decide +kernel⟩⟩

theorem witness_HaltRefuses :
    (∃ (s : State) (p : Packet), s.admits Op.SET_MODE .owner p ∧ s.modes.haltMask ≠ 0 ∧ par p 0 1 = 3) ∧
    (∃ (s : State) (p : Packet), s.admits Op.SET_MODE .service p ∧ s.modes.haltMask ≠ 0 ∧ par p 0 1 = 5 ∧ (s.mode = .standby
      ∨ s.mode = .ready ∨ s.mode = .service) ∧ s.modes.draining = false ∧ s.modes.stopping = .none) ∧
    (∃ (s : State) (p : Packet), s.admits Op.DRIVE_START .owner p ∧ s.modes.haltMask ≠ 0 ∧ s.mode = .service) ∧
    (∃ (s : State) (p : Packet), s.admits Op.DRIVE_SPEED .owner p ∧ s.modes.haltMask ≠ 0 ∧ s.mode = .service) ∧
    (∃ (s : State) (p : Packet), s.admits Op.MOVE .owner p ∧ s.modes.haltMask ≠ 0 ∧ s.mode ≠ .standby) ∧
    (∃ (s : State) (p : Packet), s.admits Op.HOME .owner p ∧ s.modes.haltMask ≠ 0 ∧ s.mode ≠ .standby) ∧
    (∃ (s : State) (p : Packet), s.admits Op.GROUP_MOVE .owner p ∧ s.modes.haltMask ≠ 0 ∧ s.mode ≠ .standby) ∧
    (∃ (s : State) (p : Packet), s.admits Op.HV_ENABLE .owner p ∧ s.modes.haltMask ≠ 0 ∧ s.mode ≠ .standby ∧ bit (par p 3 1)
      0 = true) ∧
    (∃ (s : State) (p : Packet), s.admits Op.FUSER_ENABLE .owner p ∧ s.modes.haltMask ≠ 0 ∧ bit (par p 1 1) 0 = true) ∧
    (∃ (s : State) (p : Packet), s.admits Op.LOOP_CLOSE .owner p ∧ s.modes.haltMask ≠ 0 ∧ s.mode ≠ .standby) ∧
    (∃ (lowTicks : Nat), us 10 ≤ lowTicks) ∧
    (∃ (s : State) (p : Packet), s.admits Op.SET_MODE .owner p ∧ par p 0 1 = 0 ∧ s.pair.role ≠ .shadow ∧ p.target = 0xFFFF ∧
      onlyParams p [(0, 1)] = true ∧ firstFail s.dormantBad = none) ∧
    (∃ (s : State), s.safety.interlock = false ∧ s.safety.overtemp = false ∧ s.pair.dboltIn = false) :=
  ⟨⟨{ inMode .standby with modes := { (inMode .standby).modes with haltMask := 2 } }, pk 0xFFFF [3], by decide +kernel⟩,
    ⟨{ inMode .standby with modes := { (inMode .standby).modes with haltMask := 2 } }, pk 0xFFFF [5], by decide +kernel⟩,
    ⟨{ inMode .service with modes := { (inMode .service).modes with haltMask := 2 } }, pk 0 [], by decide +kernel⟩,
    ⟨{ inMode .service with modes := { (inMode .service).modes with haltMask := 2 } }, pk 0 [], by decide +kernel⟩,
    ⟨{ inMode .ready with modes := { (inMode .ready).modes with haltMask := 2 } }, pk 0 [], by decide +kernel⟩,
    ⟨{ inMode .ready with modes := { (inMode .ready).modes with haltMask := 2 } }, pk 0 [], by decide +kernel⟩,
    ⟨{ inMode .ready with modes := { (inMode .ready).modes with haltMask := 2 } }, pk 0 [], by decide +kernel⟩,
    ⟨{ inMode .ready with modes := { (inMode .ready).modes with haltMask := 2 } }, pk 0xFFFF [0, 0, 0, 1], by decide +kernel⟩,
    ⟨{ inMode .ready with modes := { (inMode .ready).modes with haltMask := 2 } }, pk 0xFFFF [1, 1], by decide +kernel⟩,
    ⟨{ inMode .service with modes := { (inMode .service).modes with haltMask := 2 } }, pk 0 [], by decide +kernel⟩,
    ⟨us 10, by decide +kernel⟩,
    ⟨{ inMode .standby with modes := { (inMode .standby).modes with haltMask := 2 } }, pk 0xFFFF [0], by decide +kernel⟩,
    ⟨dormantUp, by decide +kernel⟩⟩

theorem witness_ReportsFrame :
    (∃ s p t, State.keyQuiet s p ∧ exec (.nop p) s = .next t) ∧
    (∃ s p t, State.keyQuiet s p ∧ exec (.getInfo p) s = .next t) ∧
    (∃ s p t, State.keyQuiet s p ∧ exec (.getMode p) s = .next t) ∧
    (∃ s p t, State.keyQuiet s p ∧ exec (.getKey p) s = .next t) ∧
    (∃ s p t, State.keyQuiet s p ∧ exec (.keyTouch p) s = .next t) ∧
    (∃ s p t, State.keyQuiet s p ∧ exec (.sheetQuery p) s = .next t) ∧
    (∃ s p t, State.keyQuiet s p ∧ exec (.dmaStatus p) s = .next t) ∧
    (∃ s p t, State.keyQuiet s p ∧ exec (.motionStatus p) s = .next t) ∧
    (∃ s p t, State.keyQuiet s p ∧ exec (.loopStatus p) s = .next t) ∧
    (∃ s p t, State.keyQuiet s p ∧ exec (.supplyStatus p) s = .next t) ∧
    (∃ s p t, State.keyQuiet s p ∧ exec (.calStatus p) s = .next t) ∧
    (∃ s p t, State.keyQuiet s p ∧ exec (.memStatus p) s = .next t) ∧
    (∃ s p t, State.keyQuiet s p ∧ exec (.pairStatus p) s = .next t) ∧
    (∃ s p t, State.keyQuiet s p ∧ exec (.fuseRead p) s = .next t) ∧
    (∃ s p t, State.keyQuiet s p ∧ exec (.auditRead p) s = .next t) :=
  ⟨⟨up0, pk 0xFFFF [], _, by decide +kernel, rfl⟩,
    ⟨up0, pk 0xFFFF [], _, by decide +kernel, rfl⟩,
    ⟨up0, pk 0xFFFF [], _, by decide +kernel, rfl⟩,
    ⟨up0, pk 0xFFFF [], _, by decide +kernel, rfl⟩,
    ⟨up0, pk 0xFFFF [], _, by decide +kernel, rfl⟩,
    ⟨up0, pk 0xFFFF [], _, by decide +kernel, rfl⟩,
    ⟨up0, pk 0xFFFF [], _, by decide +kernel, rfl⟩,
    ⟨up0, pk 0xFFFF [], _, by decide +kernel, rfl⟩,
    ⟨up0, pk 0xFFFF [], _, by decide +kernel, rfl⟩,
    ⟨up0, pk 0xFFFF [], _, by decide +kernel, rfl⟩,
    ⟨up0, pk 0xFFFF [], _, by decide +kernel, rfl⟩,
    ⟨up0, pk 0xFFFF [], _, by decide +kernel, rfl⟩,
    ⟨up0, pk 0xFFFF [], _, by decide +kernel, rfl⟩,
    ⟨up0, pk 0xFFFF [], _, by decide +kernel, rfl⟩,
    ⟨up0, pk 0xFFFF [], _, by decide +kernel, rfl⟩⟩

theorem witness_EntriesReadBack :
    (∃ (c : Completion), c.tag < 2 ^ 16 ∧ c.status < 2 ^ 16 ∧ c.op < 2 ^ 16 ∧ c.sq < 2 ^ 8 ∧ c.flags < 2 ^ 8 ∧ c.result < 2 ^
      32 ∧ c.sqHead < 2 ^ 16 ∧ c.arbSeq < 2 ^ 16 ∧ c.master = sqMaster c.sq) ∧
    (∃ (e : Event), e.code < 2 ^ 16 ∧ e.severity < 2 ^ 8 ∧ e.inst < 2 ^ 8 ∧ e.seq < 2 ^ 32 ∧ e.time < 2 ^ 64 ∧ e.slot < 2 ^ 8
      ∧ e.data.length = 8) ∧
    (∃ (r : Record), r.state < 2 ^ 8 ∧ r.slot < 2 ^ 8 ∧ r.location < 2 ^ 8 ∧ r.sheetId < 2 ^ 32 ∧ r.jobId < 2 ^ 32 ∧ r.seq <
      2 ^ 32 ∧ r.tPick < 2 ^ 64 ∧ r.tHinge < 2 ^ 64 ∧ r.tClose < 2 ^ 64 ∧ r.flags < 2 ^ 32 ∧ r.gap < 2 ^ 32 ∧ r.retries < 2 ^
      16 ∧ r.lost < 2 ^ 16 ∧ -2 ^ 15 ≤ r.speedErr ∧ r.speedErr < 2 ^ 15 ∧ r.stations < 2 ^ 8) ∧
    (∃ (d : DataRequest), d.kind < 2 ^ 8 ∧ d.station < 2 ^ 8 ∧ d.slot < 2 ^ 8 ∧ d.sheetId < 2 ^ 32 ∧ d.band < 2 ^ 16 ∧
      d.first < 2 ^ 16 ∧ d.length < 2 ^ 32 ∧ d.ofs < 2 ^ 32 ∧ d.seq < 2 ^ 32 ∧ d.status < 2 ^ 16) :=
  ⟨⟨⟨1, 2, 3, 4, 1, 6, 7, 8, 9, 0⟩, by decide +kernel⟩,
    ⟨⟨1, 2, 3, 4, 5, 6, 7, List.replicate 8 9⟩, by decide +kernel⟩,
    ⟨aRecord, by decide +kernel⟩,
    ⟨aRequest, by decide +kernel⟩⟩

theorem witness_ScratchFrame :
    (∃ (s : State) (channel : Nat) (a : Nat) (d : Desc), s.up = true ∧ s.dmaRuns = true ∧ (s.channel channel).cur = some d ∧
      d.region ≠ 0 ∧ d.dir = 0 ∧ Store.wf zeroByte s.dma.scratch = true ∧ (a < d.ofs ∨ d.ofs + d.length ≤ a)) ∧
    (∃ (s : State) (channel : Nat) (i : Nat) (data : List Byte) (d : Desc), s.up = true ∧ s.dmaRuns = true ∧ (s.channel
      channel).cur = some d ∧ d.region ≠ 0 ∧ d.dir = 0 ∧ Store.wf zeroByte s.dma.scratch = true ∧ i < d.length ∧ data.length
      = d.length) :=
  ⟨⟨movingUp, 15, 0xFFFF, scratchDesc, by decide +kernel⟩,
    ⟨movingUp, 15, 63, List.replicate 64 1, scratchDesc, by decide +kernel⟩⟩

theorem witness_PacketRoundTrip :
    (∃ (op : Nat) (p : Packet), op < 2 ^ 16 ∧ p.tag < 1024 ∧ p.cq < 2 ^ 8 ∧ p.target < 2 ^ 16 ∧ p.params.length = 48) ∧
    (∃ (s : State) (op : Nat) (p : Packet), s.up = true ∧ s.mayFetch p.sq = true ∧ 0 < s.fetchRoom p.sq ∧ op < 2 ^ 16 ∧ p.tag
      < 1024 ∧ p.cq < 2 ^ 8 ∧ p.target < 2 ^ 16 ∧ p.params.length = 48 ∧ p.master = 0 ∧ p.index = (s.queue p.sq).head ∧
      s.tags.contains (0, p.tag) = false ∧ Op.all.contains op = true ∧ p.cq < 32 ∧ s.queueType p.cq = Ty.COMPLETION) :=
  ⟨⟨Op.NOP, pk 0xFFFF [], by decide +kernel⟩,
    ⟨fetchable, Op.NOP, { pk 0xFFFF [] with cq := 8 }, by decide +kernel⟩⟩

end Sys2Proof.Tests
end

section
/-! SUPPORT. A direct register write of a master without the key (01 R14): every way of writing a register, the general write of
BAR0 or through a BAR2 page and the row of a single register, comes down to State.refuse. -/

namespace Sys2Proof.Machine

section
variable {s : State} {master : Nat}

@[simp] theorem State.refuse_queueOn (q : Nat) : s.refuse.queueOn q = s.queueOn q := rfl

/-! Which port a general write reaches (01 R14, 03 R58). -/

theorem State.bar2Write_of_register {offset q a : Nat} {value : Word} (hal : offset % 4 = 0)
    (hb : bar2Of offset = some (q, some a)) : s.bar2Write master offset 4 value = s.busWrite master a 4 value := by
  simp [State.bar2Write, hal, hb]

theorem exec_registerWrite_bar0 {addr size tick : Nat} {value : Word} (ha : addr < 0x100000) :
    exec (.registerWrite master addr size value tick) s = whileUp s fun s => (s.at tick).busWrite master addr size value := by
  simp only [exec, execRegisterWrite, if_neg (Nat.not_le.2 ha)]

theorem exec_registerWrite_bar2 {offset tick q a : Nat} {value : Word} (hal : offset % 4 = 0)
    (hb : bar2Of offset = some (q, some a)) :
    exec (.registerWrite master (0x100000 + offset) 4 value tick) s =
      whileUp s fun s => (s.at tick).busWrite master a 4 value := by
  simp only [exec, execRegisterWrite, Nat.le_add_right, if_true, Nat.add_sub_cancel_left, State.bar2Write_of_register hal hb]

/-! A row that is one direct write, at the present time or at its own, is discarded whole. -/

variable {i : Instr} {a size tick : Nat} {value : Word} (hup : s.up = true) (hkey : s.key.holder ≠ master)
include hup hkey

theorem exec_foreign_of_busWrite (hrow : exec i s = whileUp s fun s => s.busWrite master a size value) :
    exec i s = .next s.refuse := by
  rw [hrow, whileUp_up _ hup, State.busWrite_foreign hkey]

theorem exec_foreign_of_at_busWrite (hrow : exec i s = whileUp s fun s => (s.at tick).busWrite master a size value) :
    exec i s = .next (s.at tick).refuse := by
  have hkey' : (s.at tick).key.holder ≠ master := by rwa [State.at_key]
  rw [hrow, whileUp_up _ hup, State.busWrite_foreign hkey']

/-! The two rows that are more than that write. -/

/-- The refused write leaves ENABLE as it was, so that no apply of QUEn_RING lands. -/
theorem exec_queueDisable_foreign (q : Nat) : exec (.queueDisable master q value) s = .next s.refuse := by
  simp [exec, execQueueDisable, hup, State.busWrite_foreign hkey]

/-- The key is looked at before the pulse is. -/
theorem exec_chopperClear_foreign (pulseI : Nat) : exec (.chopperClear master value pulseI) s = .next s.refuse := by
  simp [exec, execChopperClear, hup, hkey]

end

/-- Settles O47: each row is one direct write, and the key is the first thing that a direct write looks at (QUEUE_DISABLE and
CHOPPER_CLEAR, which are more than that, look at it too). What the statement says of the state is State.refuse written out. -/
theorem foreignWriteDiscarded : Obligations.ForeignWriteDiscarded := by
  unfold Obligations.ForeignWriteDiscarded
  refine ⟨?registerWrite, ?bar2Write, ?segSwap, ?segPhaseWrite, ?dctDataWrite, ?emitMark, ?magWrite, ?stnStatClr, ?coefDataWrite,
    ?drvStatClr, ?capArm, ?queueEnable, ?queueDisable, ?emitFailClear, ?chopperClear, ?afeChDataWrite, ?masterStnWrite,
    ?keyCfgWrite, ?busCfgWrite, ?pairCfgWrite, ?afeStatClr, ?tumblerApply, ?stnPowerDown, ?stnPowerUp⟩
  case registerWrite =>
    intro s master addr size tick value hup haddr hkey
    exact exec_foreign_of_at_busWrite hup hkey (exec_registerWrite_bar0 haddr)
  case bar2Write =>
    intro s master offset tick q a value hup hal hb hkey
    exact exec_foreign_of_at_busWrite hup hkey (exec_registerWrite_bar2 hal hb)
  case queueDisable => exact fun _ _ q _ hup hkey => exec_queueDisable_foreign hup hkey q
  case chopperClear => exact fun _ _ pulseI _ hup hkey => exec_chopperClear_foreign hup hkey pulseI
  case segSwap => exact fun _ _ n _ hup hkey => exec_foreign_of_busWrite (a := Reg.STN_SEG_CTL n) hup hkey rfl
  case segPhaseWrite => exact fun _ _ n _ hup hkey => exec_foreign_of_busWrite (a := Reg.STN_SEG_PHASE n) hup hkey rfl
  case dctDataWrite => exact fun _ _ n _ hup hkey => exec_foreign_of_busWrite (a := Reg.STN_DCT_DATA n) hup hkey rfl
  case emitMark => exact fun _ _ n _ hup hkey => exec_foreign_of_busWrite (a := Reg.STN_EMIT_MARK n) hup hkey rfl
  case magWrite => exact fun _ _ n _ hup hkey => exec_foreign_of_busWrite (a := Reg.STN_PIX_RATE n) hup hkey rfl
  case stnStatClr => exact fun _ _ n _ hup hkey => exec_foreign_of_busWrite (a := Reg.STN_STAT_CLR n) hup hkey rfl
  case coefDataWrite => exact fun _ _ n _ hup hkey => exec_foreign_of_busWrite (a := Reg.LOOP_COEF_DATA n) hup hkey rfl
  case drvStatClr => exact fun _ _ n _ hup hkey => exec_foreign_of_busWrite (a := Reg.DRV_STAT_CLR n) hup hkey rfl
  case capArm => exact fun _ _ n _ hup hkey => exec_foreign_of_busWrite (a := Reg.DRV_CAP_CTL n) hup hkey rfl
  case queueEnable => exact fun _ _ q _ hup hkey => exec_foreign_of_busWrite (a := Reg.QUE_CTL q) hup hkey rfl
  case emitFailClear =>
    intro s master n high value hup hkey
    exact exec_foreign_of_busWrite (a := if high then Reg.STN_EMIT_FAIL_HI n else Reg.STN_EMIT_FAIL_LO n) hup hkey rfl
  case afeChDataWrite => exact fun _ _ _ hup hkey => exec_foreign_of_busWrite (a := Reg.AFE_CH_DATA) hup hkey rfl
  case masterStnWrite => exact fun _ _ _ hup hkey => exec_foreign_of_busWrite (a := Reg.SYS_MASTER_STN) hup hkey rfl
  case keyCfgWrite => exact fun _ _ _ hup hkey => exec_foreign_of_busWrite (a := Reg.SYS_KEY_CFG) hup hkey rfl
  case busCfgWrite => exact fun _ _ _ hup hkey => exec_foreign_of_busWrite (a := Reg.SYS_BUS_CFG) hup hkey rfl
  case pairCfgWrite => exact fun _ _ _ hup hkey => exec_foreign_of_busWrite (a := Reg.SYS_PAIR_CFG) hup hkey rfl
  case afeStatClr => exact fun _ _ _ hup hkey => exec_foreign_of_busWrite (a := Reg.AFE_STAT_CLR) hup hkey rfl
  case tumblerApply => exact fun _ _ _ _ hup hkey => exec_foreign_of_at_busWrite (a := Reg.SYS_TUMBLER_APPLY) hup hkey rfl
  case stnPowerDown => exact fun _ _ _ _ hup hkey => exec_foreign_of_at_busWrite (a := Reg.SYS_DOMAIN_CTL) hup hkey rfl
  case stnPowerUp => exact fun _ _ _ _ hup hkey => exec_foreign_of_at_busWrite (a := Reg.SYS_DOMAIN_CTL) hup hkey rfl

end Sys2Proof.Machine
end

section
/-! SUPPORT. FENCE (03 R67): which packets of its queue hold a packet back, and that a packet held back goes on waiting in its
place. -/

namespace Sys2Proof.Machine

/-! What a command packet's row is (03 R66). -/

/-- Every row that stands for a packet is the arbiter step of that packet, with checks and a meaning of its own. -/
theorem exec_of_packetOf {i : Instr} {op : Nat} {cls : Class} {p : Packet} (h : packetOf i = some (op, cls, p)) :
    ∃ checks run, ∀ s, exec i s = command op cls p checks run s := by
  unfold packetOf at h
  split at h
  all_goals cases h
  all_goals exact ⟨_, _, fun _ => rfl⟩

section
variable {s : State} {op : Nat} {p : Packet}

/-- A packet that FENCE holds back goes on waiting. -/
theorem command_fenced {cls : Class} {checks : State → List (Bool × Nat)} {run : Cmd → State → State} (hup : s.up = true)
    (hm : s.pairWork.mirroring = false) (hf : s.fenced op p = true) :
    command op cls p checks run s = .next (s.keepWaiting op p) := by
  rw [command, whileUp_up _ hup, if_pos ⟨hm, .inr (.inl hf)⟩]

theorem exec_fenced {i : Instr} {cls : Class} (h : packetOf i = some (op, cls, p)) (hup : s.up = true)
    (hm : s.pairWork.mirroring = false) (hf : s.fenced op p = true) : exec i s = .next (s.keepWaiting op p) := by
  obtain ⟨checks, run, hrow⟩ := exec_of_packetOf h
  rw [hrow, command_fenced hup hm hf]

/-! Which packets hold a packet back. -/

/-- The packets that are not completed when `p` waits and may be ahead of it: they run, wait for the arbiter before it, are relayed
to the LEAD, or are cancels that wait for a record. -/
def State.unfinished (s : State) (op : Nat) (p : Packet) : List Packet :=
  s.running.map (·.p) ++ (s.earlier op p).map (·.2) ++ s.pairWork.relayed ++ s.hold.cancels.map (·.2.2.p)

theorem State.mem_unfinished {x : Packet} :
    x ∈ s.unfinished op p ↔ x ∈ s.running.map (·.p) ∨ x ∈ (s.earlier op p).map (·.2) ∨ x ∈ s.pairWork.relayed ∨
      x ∈ s.hold.cancels.map (·.2.2.p) := by
  simp only [State.unfinished, List.mem_append, or_assoc]

/-- A packet is held back by the packets of its queue that are not completed, where it or they carry FENCE. -/
theorem State.fenced_iff :
    s.fenced op p = true ↔
      ∃ x ∈ s.unfinished op p, x.master = p.master ∧ x.sq = p.sq ∧ (p.fence = true ∨ x.fence = true) := by
  have hany : s.fenced op p =
      (s.unfinished op p).any fun x => x.master = p.master && x.sq = p.sq && (p.fence || x.fence) := by
    simp only [State.fenced, State.unfinished, List.any_append, List.any_map, Function.comp_def]
  simp only [hany, List.any_eq_true, Bool.and_eq_true, Bool.or_eq_true, decide_eq_true_eq, and_assoc]

end

/-- Settles O49: by `State.fenced_iff` FENCE holds a packet back exactly where one of its queue that is not completed stands
before it and one of the two carries FENCE, and `exec_fenced` keeps such a packet waiting. -/
theorem fenceHolds : Obligations.FenceHolds := by
  unfold Obligations.FenceHolds
  refine ⟨?carriesFence, ?behindFence, ?noFence⟩
  case carriesFence =>
    intro s i op cls p x hp hup hm hx hmaster hsq hfence
    exact exec_fenced hp hup hm (State.fenced_iff.2 ⟨x, State.mem_unfinished.2 hx, hmaster, hsq, .inl hfence⟩)
  case behindFence =>
    intro s i op cls p x hp hup hm hx hmaster hsq hfence
    exact exec_fenced hp hup hm (State.fenced_iff.2 ⟨x, State.mem_unfinished.2 hx, hmaster, hsq, .inr hfence⟩)
  case noFence =>
    intro s op p hfree hothers
    refine Bool.eq_false_iff.2 fun hf => ?_
    obtain ⟨x, hx, hmaster, hsq, hfence | hfence⟩ := State.fenced_iff.1 hf
    · exact Bool.false_ne_true (hfree.symm.trans hfence)
    · exact Bool.false_ne_true ((hothers x (State.mem_unfinished.1 hx) hmaster hsq).symm.trans hfence)

end Sys2Proof.Machine
end

section
/-! SUPPORT. Doorbells of queues that the device writes, of unused and of disabled ones (03 R60, R498), and the TYPE of the queue
that an entry is posted to (03 R55). -/

namespace Sys2Proof.Machine

/-! Both doorbells of a queue are the one register QUEn_DOORBELL (03 R60): what a row does that writes its word there. -/

section
variable {s : State} {i : Instr} {q tick : Nat} {value : Word}

theorem exec_doorbellHead :
    exec (.doorbellHead q value tick) s = whileUp s fun s => (s.at tick).ring q value.toNat := rfl

theorem exec_doorbellTail :
    exec (.doorbellTail q value tick) s = whileUp s fun s => (s.at tick).ring q value.toNat := rfl

section
variable (hrow : exec i s = whileUp s fun s => (s.at tick).ring q value.toNat) (hup : s.up = true)
include hrow hup

theorem exec_ring_inSpan (hon : s.queueOn q = true) (hs : s.queueType q ≠ Ty.SUBMISSION) (hu : s.queueType q ≠ Ty.UNUSED)
    (hv : s.inSpan q value.toNat = true) :
    exec i s = .next (((s.at tick).setQueue q fun Q => { Q with head := value.toNat }).rung q).flush := by
  rw [hrow, whileUp_up _ hup, State.ring_written (s := s.at tick) hon hs hu, State.at_inSpan, if_pos hv]

theorem exec_ring_outOfSpan (hon : s.queueOn q = true) (hs : s.queueType q ≠ Ty.SUBMISSION) (hu : s.queueType q ≠ Ty.UNUSED)
    (hv : s.inSpan q value.toNat = false) : exec i s = .next ((s.at tick).setStat q 0) := by
  rw [hrow, whileUp_up _ hup, State.ring_written (s := s.at tick) hon hs hu, State.at_inSpan, if_neg (by simp [hv])]

theorem exec_ring_unused (hon : s.queueOn q = true) (hu : s.queueType q = Ty.UNUSED) :
    exec i s = .next ((s.at tick).setStat q 0) := by
  rw [hrow, whileUp_up _ hup, State.ring_unused (s := s.at tick) hon hu]

theorem exec_ring_off (hoff : s.queueOn q = false) : exec i s = .next ((s.at tick).setStat q 1) := by
  rw [hrow, whileUp_up _ hup, State.ring_off (s := s.at tick) hoff]

end

/-! A queue of TYPE UNUSED takes part in nothing. -/

/-- Only a SUBMISSION queue is fetched from (03 R58). -/
theorem State.mayFetch_eq_false (h : s.queueType q ≠ Ty.SUBMISSION) : s.mayFetch q = false := by
  simp [State.mayFetch, h]

theorem exec_packetFetch_kept {raws : List (List Byte × Option (List Byte))} (h : s.mayFetch q = false) :
    exec (.packetFetch q raws tick) s = .next s := by
  simp [exec, execPacketFetch, whileUp, h]

/-- The TYPE of the queues that take an entry. -/
def Entry.ringType : Entry → Nat
  | .completion _ => Ty.COMPLETION
  | .event _ => Ty.EVENT
  | .record _ => Ty.SHEET_RECORD
  | .audit _ => Ty.AUDIT
  | .request _ => Ty.DATA_REQUEST

theorem Entry.ringType_ne_unused (e : Entry) : e.ringType ≠ Ty.UNUSED := by
  cases e <;> simp [Entry.ringType, Ty.UNUSED, Ty.COMPLETION, Ty.EVENT, Ty.SHEET_RECORD, Ty.AUDIT, Ty.DATA_REQUEST]

theorem findQueue_eq_some {f : Nat → Bool} (h : findQueue f = some q) : f q = true := List.find?_some h

/-- A completion goes to a COMPLETION queue, the one it names or the lowest-numbered one (03 R66). -/
theorem State.completionQueue_type {cq : Nat} (h : s.completionQueue cq = some q) : s.queueType q = Ty.COMPLETION := by
  unfold State.completionQueue at h
  split at h
  next hcq => exact Option.some.inj h ▸ hcq.2
  next => exact of_decide_eq_true (findQueue_eq_some h)

/-- The queue of an entry is one of the TYPE that takes it (03 R55). -/
theorem State.queueFor_type {e : Entry} (h : s.queueFor e = some q) : s.queueType q = e.ringType := by
  cases e with
  | completion c => exact State.completionQueue_type h
  | event v => exact of_decide_eq_true (findQueue_eq_some h)
  | record r => exact of_decide_eq_true (findQueue_eq_some h)
  | audit a => exact of_decide_eq_true (findQueue_eq_some h)
  | request d =>
    obtain ⟨htype, -⟩ := Bool.and_eq_true_iff.1 (findQueue_eq_some h)
    exact of_decide_eq_true htype

end

/-- Settles O50: both doorbell rows write the one register, whose cases `exec_ring_inSpan` to `exec_ring_off` list; only SUBMISSION
queues are fetched from, and an entry's queue has the TYPE that takes it. -/
theorem doorbellSpan : Obligations.DoorbellSpan := by
  unfold Obligations.DoorbellSpan
  refine ⟨?headInSpan, ?headOutOfSpan, ?headUnused, ?headOff, ?tailInSpan, ?tailOutOfSpan, ?tailUnused, ?tailOff, ?fetch, ?post⟩
  case headInSpan => exact fun _ _ _ _ hup hon hs hu hv => exec_ring_inSpan exec_doorbellHead hup hon hs hu hv
  case headOutOfSpan => exact fun _ _ _ _ hup hon hs hu hv => exec_ring_outOfSpan exec_doorbellHead hup hon hs hu hv
  case headUnused => exact fun _ _ _ _ hup hon hu => exec_ring_unused exec_doorbellHead hup hon hu
  case headOff => exact fun _ _ _ _ hup hoff => exec_ring_off exec_doorbellHead hup hoff
  case tailInSpan => exact fun _ _ _ _ hup hon hs hu hv => exec_ring_inSpan exec_doorbellTail hup hon hs hu hv
  case tailOutOfSpan => exact fun _ _ _ _ hup hon hs hu hv => exec_ring_outOfSpan exec_doorbellTail hup hon hs hu hv
  case tailUnused => exact fun _ _ _ _ hup hon hu => exec_ring_unused exec_doorbellTail hup hon hu
  case tailOff => exact fun _ _ _ _ hup hoff => exec_ring_off exec_doorbellTail hup hoff
  case fetch =>
    intro s q tick raws hu
    have hs : s.queueType q ≠ Ty.SUBMISSION := by rw [hu]; decide
    exact exec_packetFetch_kept (State.mayFetch_eq_false hs)
  case post =>
    intro s e q hq
    rw [State.queueFor_type hq]
    exact e.ringType_ne_unused

end Sys2Proof.Machine
end

section
/-! SUPPORT. The event masks (03 R73): the command that sets them, which events pass them, and what becomes of one that passes
neither. -/

namespace Sys2Proof.Machine

section
variable {s : State}

/-- EVENT_MASK uses every byte of PARAMS. -/
theorem onlyParams_whole (p : Packet) : onlyParams p [(0, 48)] = true := by
  simp +contextual [onlyParams, named]

theorem exec_eventMask_taken {p : Packet} (h : s.admits Op.EVENT_MASK .owner p) (ht : p.target = 0xFFFF) :
    exec (.eventMask p) s = .next (complete (s.asCmd Op.EVENT_MASK p) St.OK 0
      { (s.accept Op.EVENT_MASK .owner p) with hostMask := slice p.params 0 32, mgmtMask := slice p.params 32 16 }) :=
  command_run h (by simp [noTarget, params, ht, onlyParams_whole, firstFail])

/-! Which masks an event passes. -/

theorem takes_of_severe {i : Nat} (h : 2 ≤ eventSeverity i) : s.hostTakes i = true ∧ s.mgmtTakes i = true := by
  simp [State.hostTakes, State.mgmtTakes, h]

theorem takes_of_mild {i : Nat} (h : eventSeverity i < 2) :
    s.hostTakes i = maskBit s.hostMask i ∧ s.mgmtTakes i = maskBit s.mgmtMask i := by
  simp [State.hostTakes, State.mgmtTakes, h]

/-- An event that passes neither mask takes its number and is not delivered (log entries 22 and 27). -/
theorem State.raise_untaken {i inst slot : Nat} {data : List Byte} (hr : s.pair.role ≠ .shadow) (hh : s.hostTakes i = false)
    (hm : s.mgmtTakes i = false) :
    s.raise i inst slot data =
      State.unheard { s with eventSeq := (s.eventSeq + 1) % 2 ^ 32 } (s.newEvent i inst slot data s.now) := by
  have hnone : (s.hostTakes i || s.mgmtTakes i) = false := by rw [hh, hm, Bool.or_false]
  rw [State.raise, State.raiseAt, if_neg hr]
  exact if_neg (ne_true_of_eq_false hnone)

end

/-- Settles O51: EVENT_MASK's only checks are its TARGET and PARAMS, of which it uses every byte; the rest is what the masks let
through (`takes_of_severe`, `takes_of_mild`) and `State.raise_untaken`. -/
theorem eventMasksAct : Obligations.EventMasksAct := by
  unfold Obligations.EventMasksAct
  refine ⟨?command, ?severe, ?mild, ?untaken, ?reset⟩
  case command => exact fun _ _ hadm ht => exec_eventMask_taken hadm ht
  case severe => exact fun _ _ hsev => takes_of_severe hsev
  case mild => exact fun _ _ hsev => takes_of_mild hsev
  case untaken => exact fun _ _ _ _ _ hr hh hm => State.raise_untaken hr hh hm
  case reset => exact ⟨rfl, rfl⟩

end Sys2Proof.Machine
end

section
/-! SUPPORT. The access check of a packet (04 R88): the order in which it looks at the key, the epoch and service access, and that
a packet which fails it does nothing but complete. -/

namespace Sys2Proof.Machine

section
variable {s : State} {cls : Class} {p : Packet}

/-! The three things that the access check asks for, in their order. -/

theorem State.access_notOwner (hc : cls ≠ .observer) (hk : s.key.holder ≠ p.master) : s.access cls p = some St.NOT_OWNER := by
  rw [State.access, if_neg hc, if_pos hk]

theorem State.access_staleKey (hc : cls ≠ .observer) (hk : s.key.holder = p.master) (he : p.epoch ≠ s.key.epoch) :
    s.access cls p = some St.STALE_KEY := by
  rw [State.access, if_neg hc, if_neg (not_not.2 hk), if_pos he]

theorem State.access_needService (hc : cls = .service) (hk : s.key.holder = p.master) (he : p.epoch = s.key.epoch)
    (hs : s.key.service = false) : s.access cls p = some St.NEED_SERVICE := by
  rw [State.access, if_neg (by simp [hc]), if_neg (not_not.2 hk), if_neg (not_not.2 he), if_pos ⟨hc, hs⟩]

theorem State.access_eq_none_iff :
    s.access cls p = none ↔
      cls = .observer ∨ s.key.holder = p.master ∧ p.epoch = s.key.epoch ∧ (cls = .service → s.key.service = true) := by
  unfold State.access
  split
  next hc => simp [hc]
  next hc =>
    split
    next hk => simp [hc, hk]
    next hk =>
      split
      next he => simp [hc, he]
      next he => simp [hc, not_not.1 hk, not_not.1 he]

/-- The row of a packet that fails the access check: only its completion. -/
theorem exec_denied {i : Instr} {op st : Nat} (hi : packetOf i = some (op, cls, p)) (hj : s.judges op p) (hq : s.keyQuiet p)
    (hr : s.pair.role ≠ .shadow) (ha : s.access cls p = some st) :
    exec i s = .next (complete (s.asCmd op p) st 0 ((s.taken op p).arbStep op p st)) := by
  obtain ⟨checks, run, hrow⟩ := exec_of_packetOf hi
  rw [hrow, command_denied hj hq (fun hs => absurd hs hr) ha]

end

/-- Settles O48: `exec_denied` gives what a packet does that fails the access check, and the lemmas on `State.access` say which
status it fails with and when it passes. -/
theorem accessCheck : Obligations.AccessCheck := by
  unfold Obligations.AccessCheck
  refine ⟨?notOwner, ?staleKey, ?needService, ?passes⟩
  case notOwner => exact fun _ _ _ _ _ hi hj hq hr hc hk => exec_denied hi hj hq hr (State.access_notOwner hc hk)
  case staleKey => exact fun _ _ _ _ _ hi hj hq hr hc hk he => exec_denied hi hj hq hr (State.access_staleKey hc hk he)
  case needService =>
    exact fun _ _ _ _ _ hi hj hq hr _ hk he hc hs => exec_denied hi hj hq hr (State.access_needService hc hk he hs)
  case passes => exact fun _ _ _ => State.access_eq_none_iff

end Sys2Proof.Machine
end

section
/-! SUPPORT. Claims of the key (04 R91, R92): which claim of the window is the best, what its grant makes of the key and of the
arbiter's number, and the claim that is granted in its own row. -/

namespace Sys2Proof.Machine

/-! The best claim: the claims of the window stand in the order of their arbiter sequence numbers. -/

theorem mem_of_bestClaim {k : Claim} : ∀ {ks : List Claim}, bestClaim ks = some k → k ∈ ks
  | [], h => nomatch h
  | x :: xs, h => by
    rw [bestClaim] at h
    split at h
    next => exact Option.some.inj h ▸ List.mem_cons_self
    next b hb =>
      split at h
      next => exact Option.some.inj h ▸ List.mem_cons_of_mem _ (mem_of_bestClaim hb)
      next => exact Option.some.inj h ▸ List.mem_cons_self

/-- Priority decides, and between equals the lower arbiter sequence number. -/
theorem bestClaim_eq_some {k : Claim} : ∀ {ks : List Claim}, ks.Pairwise (fun a b => a.cmd.seq < b.cmd.seq) → k ∈ ks →
    (∀ x ∈ ks, x.prio < k.prio ∨ x.prio = k.prio ∧ k.cmd.seq ≤ x.cmd.seq) → bestClaim ks = some k
  | [], _, hk, _ => nomatch hk
  | x :: xs, hord, hk, hbest => by
    obtain ⟨hx, hxs⟩ := List.pairwise_cons.1 hord
    obtain ⟨hbx, hbxs⟩ := List.forall_mem_cons.1 hbest
    rw [bestClaim]
    rcases List.mem_cons.1 hk with rfl | hk
    · split
      next => rfl
      next b hb =>
        have := hbxs b (mem_of_bestClaim hb)
        exact if_neg (by omega)
    · have := hx k hk
      rw [bestClaim_eq_some hxs hk hbxs]
      exact if_pos (by omega)

section
variable (s : State)

/-! The arbiter's number: a step of its own takes one, what the end of service access stops takes none. -/

@[simp] theorem State.record_arbSeq (source inst : Nat) (data : List Byte) :
    (s.record source inst data).arbSeq = s.arbSeq := by
  unfold State.record
  repeat' split
  all_goals rfl

@[simp] theorem State.mirrorOn_arbSeq (m : MirrorOut) : (s.mirrorOn m).arbSeq = s.arbSeq :=
  State.of_unposted State.arbSeq (fun _ => rfl) (s.unposted_mirrorOn m)

@[simp] theorem State.arbStep_arbSeq (op : Nat) (p : Packet) (verdict : Nat) :
    (s.arbStep op p verdict).arbSeq = (s.arbSeq + 1) % 2 ^ 32 := by
  simp [State.arbStep]

@[simp] theorem State.ownStep_arbSeq (m : Nat) : (s.ownStep m).arbSeq = (s.arbSeq + 1) % 2 ^ 32 := by
  simp [State.ownStep]

@[simp] theorem State.accept_arbSeq_observer (op : Nat) (p : Packet) :
    (s.accept op .observer p).arbSeq = (s.arbSeq + 1) % 2 ^ 32 :=
  (s.taken op p).arbStep_arbSeq op p 0

theorem State.deliver_arbSeq (e : Entry) (host mgmt : Bool) : (s.deliver e host mgmt).arbSeq = s.arbSeq :=
  State.of_unposted State.arbSeq (fun _ => rfl) (s.unposted_deliver e host mgmt)

@[simp] theorem State.audit_arbSeq (kind master inst slot status : Nat) (old new : List Byte) (oldEpoch newEpoch : Half) :
    (s.audit kind master inst slot status old new oldEpoch newEpoch).arbSeq = s.arbSeq := by
  unfold State.audit
  split
  · exact State.deliver_arbSeq _ _ _ _
  · rfl

@[simp] theorem State.endStore_arbSeq (own status : Nat) : (s.endStore own status).arbSeq = s.arbSeq := by
  unfold State.endStore
  split
  · simp only [finish_arbSeq, State.auditStore, State.audit_arbSeq]
    split <;> rfl
  · rfl

@[simp] theorem State.stopStore_arbSeq (st : Nat) : (s.stopStore st).arbSeq = s.arbSeq := by
  unfold State.stopStore
  split
  · exact s.endStore_arbSeq st st
  · rfl

theorem stopStationService_arbSeq (ns : List Nat) : (stopStationService ns s).arbSeq = s.arbSeq := by
  induction ns generalizing s with
  | nil => rfl
  | cons n ns ih =>
    rw [stopStationService, ih]
    repeat' split
    all_goals rfl

@[simp] theorem State.endService_arbSeq (st : Nat) : (s.endService st).arbSeq = s.arbSeq := by
  unfold State.endService
  split
  · rw [finishWhere_arbSeq, stopStationService_arbSeq]
    split
    · exact State.stopStore_arbSeq _ st
    · rfl
  · rfl

/-! The key after a grant. -/

@[simp] theorem State.ownStep_key (m : Nat) : (s.ownStep m).key = s.key := by
  simp [State.ownStep]

theorem State.deliver_key (e : Entry) (host mgmt : Bool) : (s.deliver e host mgmt).key = s.key :=
  State.of_unposted State.key (fun _ => rfl) (s.unposted_deliver e host mgmt)

@[simp] theorem State.audit_key (kind master inst slot status : Nat) (old new : List Byte) (oldEpoch newEpoch : Half) :
    (s.audit kind master inst slot status old new oldEpoch newEpoch).key = s.key := by
  unfold State.audit
  split
  · exact State.deliver_key _ _ _ _
  · rfl

@[simp] theorem State.passKey_holder (m kind about : Nat) : (s.passKey m kind about).key.holder = m := by
  simp [State.passKey, State.auditKey]

@[simp] theorem State.passKey_epoch (m kind about : Nat) : (s.passKey m kind about).key.epoch = nextEpoch s.key.epoch := by
  simp [State.passKey, State.auditKey]

@[simp] theorem State.passKey_arbSeq (m kind about : Nat) : (s.passKey m kind about).arbSeq = s.arbSeq := by
  simp [State.passKey, State.auditKey]

/-! The window settled: the winner's grant, then the completions. -/

/-- The state in which the winner of a window has been granted the key and no claim of the window is completed yet. -/
def State.granted (s : State) (k : Claim) : State :=
  (({ (s.drop fun c => s.key.claims.any fun x => x.cmd.seq = c.seq) with
      key := { s.key with windowOpen := false, claims := [] } }).ownStep k.master).passKey k.master Audit.KEY_GRANT k.master

@[simp] theorem State.granted_holder (k : Claim) : (s.granted k).key.holder = k.master := by
  simp [State.granted]

@[simp] theorem State.granted_epoch (k : Claim) : (s.granted k).key.epoch = nextEpoch s.key.epoch := by
  simp [State.granted]

@[simp] theorem State.granted_arbSeq (k : Claim) : (s.granted k).arbSeq = (s.arbSeq + 1) % 2 ^ 32 := by
  simp [State.granted]

@[simp] theorem refuseClaims_key (ks : List Claim) : (refuseClaims ks s).key = s.key :=
  State.of_unposted State.key (fun _ => rfl) (unposted_refuseClaims ks s)

@[simp] theorem refuseClaims_arbSeq (ks : List Claim) : (refuseClaims ks s).arbSeq = s.arbSeq :=
  State.of_unposted State.arbSeq (fun _ => rfl) (unposted_refuseClaims ks s)

end

section
variable {s : State} {k : Claim}

theorem State.settleClaims_best (h : bestClaim s.key.claims = some k) :
    s.settleClaims = refuseClaims (s.key.claims.filter fun x => x.cmd.seq ≠ k.cmd.seq)
      (complete k.cmd St.OK (nextEpoch s.key.epoch).toNat (s.granted k)) := by
  rw [State.settleClaims, h, ← s.granted_epoch k]
  rfl

theorem State.settleClaims_key (h : bestClaim s.key.claims = some k) : s.settleClaims.key = (s.granted k).key := by
  rw [State.settleClaims_best h, refuseClaims_key, complete_key]

theorem State.settleClaims_arbSeq (h : bestClaim s.key.claims = some k) :
    s.settleClaims.arbSeq = (s.arbSeq + 1) % 2 ^ 32 := by
  rw [State.settleClaims_best h, refuseClaims_arbSeq, complete_arbSeq, State.granted_arbSeq]

/-- The window is settled at its end. -/
theorem exec_claimWindowClose (hup : s.up = true) (hw : s.key.windowOpen = true) :
    exec .claimWindowClose s = .next (s.at s.key.windowEnds).settleClaims := by
  change whileUp s _ = _
  rw [whileUp_up _ hup, if_pos hw]

/-! A claim of a free key with KEY_CLAIM_WINDOW at 0 (04 R92). -/

/-- The state with a window that opens and ends now, which holds the claim `k` alone. -/
def State.soleClaim (s : State) (k : Claim) : State :=
  { s.start k.cmd with key := { s.key with windowOpen := true, windowEnds := s.now, claims := [k] } }

theorem State.claim_free_noWindow {c : Cmd} {prio : Nat} (hfree : s.key.holder = 3) (hm : c.p.master < 3)
    (hw : s.key.windowOpen = false) (hks : s.key.claims = []) (hz : s.imm Fld.KEY_CLAIM_WINDOW = 0) :
    s.claim c prio = (s.soleClaim ⟨c.p.master, prio, c⟩).settleClaims := by
  have hne : (3 : Nat) ≠ c.p.master := by omega
  have hdrop : ∀ t : State, (t.drop fun _ => false) = t := fun t => by simp [State.drop]
  simp [State.claim, hfree, hne, hw, hks, hz, ms, State.joinClaim, refuseClaims, hdrop, State.soleClaim, State.start]

/-- CLAIM_KEY with a TARGET and PARAMS in order runs as the claim that it carries. -/
theorem exec_claimKey_taken {p : Packet} (h : s.admits Op.CLAIM_KEY .observer p) (ht : p.target = 0xFFFF)
    (hp : onlyParams p [(0, 1)] = true) (hprio : par p 0 1 ≤ 7) :
    exec (.claimKey p) s =
      .next ((s.accept Op.CLAIM_KEY .observer p).claim (s.asCmd Op.CLAIM_KEY p) (par p 0 1)) :=
  command_run h (by simp [noTarget, params, badParam, ht, hp, hprio, firstFail])

end

/-- Settles O52: `bestClaim_eq_some` says which claim wins, `State.settleClaims_best` what settling makes of it; with
KEY_CLAIM_WINDOW at 0 the claim is settled in its own row (`State.claim_free_noWindow`), its grant with the next number. -/
theorem claimsSettle : Obligations.ClaimsSettle := by
  unfold Obligations.ClaimsSettle
  refine ⟨?windowCloses, ?noWindow⟩
  case windowCloses =>
    intro s k hup hw hord hk hbest
    have hwin : bestClaim (s.at s.key.windowEnds).key.claims = some k := bestClaim_eq_some hord hk hbest
    exact ⟨(s.at s.key.windowEnds).granted k, _, exec_claimWindowClose hup hw, State.granted_holder _ k,
      State.granted_epoch _ k, State.settleClaims_best hwin, State.settleClaims_key hwin⟩
  case noWindow =>
    intro s p hadm ht hp hprio hfree hm hw hks hz
    have hclaim := State.claim_free_noWindow (s := s.accept Op.CLAIM_KEY .observer p) (c := s.asCmd Op.CLAIM_KEY p)
      (prio := par p 0 1) (by simpa using hfree) hm (by simpa using hw) (by simpa using hks) (by simpa using hz)
    refine ⟨_, exec_claimKey_taken hadm ht hp hprio, ?_, ?_, ?_⟩
    · rw [hclaim, State.settleClaims_key rfl, State.granted_holder]
      rfl
    · rw [hclaim, State.settleClaims_key rfl, State.granted_epoch]
      simp [State.soleClaim]
    · rw [hclaim, State.settleClaims_arbSeq rfl]
      simp [State.soleClaim]

end Sys2Proof.Machine
end

section
/-! SUPPORT. Fields laid out in a run of bytes: what a field reads as where fields, single bytes and a check stand around it. From
it, that a packet (03 R64) reads back from its bytes and is taken in as it was sent. -/

set_option Elab.async false -- one thread for the whole file: a thread per theorem runs out of address space

namespace Sys2Proof.Machine

/-! A field past other fields, past a byte, and before a check. -/

section
variable {n o m v : Nat} {b : Byte} {l r : List Byte}

theorem fieldAt_past_field (h : n ≤ o) : fieldAt (leBytes n v ++ r) o m = fieldAt r (o - n) m := by
  simpa using fieldAt_skip (leBytes n v) r (n := m) (by simpa using h)

theorem fieldAt_past_byte (h : 1 ≤ o) : fieldAt (b :: r) o m = fieldAt r (o - 1) m :=
  fieldAt_skip [b] r h

theorem slice_past_field (h : n ≤ o) : slice (leBytes n v ++ r) o m = slice r (o - n) m := by
  simpa using slice_skip (leBytes n v) r (n := m) (by simpa using h)

theorem slice_past_byte (h : 1 ≤ o) : slice (b :: r) o m = slice r (o - 1) m :=
  slice_skip [b] r h

@[simp] theorem length_leInt (n : Nat) (v : Int) : (leInt n v).length = n := length_leBytes _ _

theorem fieldAt_last (n v : Nat) : fieldAt (leBytes n v) 0 n = v % 256 ^ n := by
  simpa using fieldAt_head n v []

theorem fieldAt_leInt_head (v : Int) : fieldAt (leInt n v ++ r) 0 n = leNat (leInt n v) := by
  rw [leInt, fieldAt_head, leNat_leBytes]

theorem fieldAt_past_leInt {v : Int} (h : n ≤ o) : fieldAt (leInt n v ++ r) o m = fieldAt r (o - n) m :=
  fieldAt_past_field h

theorem fieldAt_left (h : o + n ≤ l.length) : fieldAt (l ++ r) o n = fieldAt l o n := by
  rw [fieldAt, fieldAt, slice_left l r h]

theorem slice_slice_head (d : List Byte) (n : Nat) : slice (slice d 0 n ++ r) 0 n = slice d 0 n := by
  simpa using slice_head (slice d 0 n) r

theorem slice_slice (d : List Byte) (n : Nat) : slice (slice d 0 n) 0 n = slice d 0 n :=
  slice_of_length (length_slice d 0 n)

theorem fieldAt_withCrc (h : o + n ≤ l.length) : fieldAt (withCrc l) o n = fieldAt l o n := fieldAt_left h

theorem slice_withCrc (h : o + n ≤ l.length) : slice (withCrc l) o n = slice l o n := slice_left _ _ h

theorem length_withCrc : (withCrc l).length = l.length + 4 := by simp [withCrc]

end

/-! The packet (03 R64). -/

@[simp] theorem length_packetHead (op : Nat) (p : Packet) : (packetHead op p).length = 60 := by simp [packetHead]

theorem encodePacket_eq (op : Nat) (p : Packet) : encodePacket op p = withCrc (packetHead op p) := rfl

@[simp] theorem length_encodePacket (op : Nat) (p : Packet) : (encodePacket op p).length = 64 := by
  rw [encodePacket_eq, length_withCrc, length_packetHead]

section
variable {op : Nat} {p : Packet} {o n : Nat}

theorem fieldAt_encodePacket (h : o + n ≤ 60) : fieldAt (encodePacket op p) o n = fieldAt (packetHead op p) o n :=
  fieldAt_withCrc (by simpa using h)

theorem slice_encodePacket (h : o + n ≤ 60) : slice (encodePacket op p) o n = slice (packetHead op p) o n :=
  slice_withCrc (by simpa using h)

/-- The check covers the first 60 bytes and stands after them. -/
theorem crcGood_encodePacket (op : Nat) (p : Packet) : crcGood (encodePacket op p) = true := by
  have hhead : slice (encodePacket op p) 0 60 = packetHead op p := by
    rw [slice_encodePacket (by decide)]
    exact slice_of_length (length_packetHead op p)
  have hcrc : fieldAt (encodePacket op p) 60 4 = (crc32c (packetHead op p)).toNat % 256 ^ 4 := by
    rw [encodePacket, fieldAt_skip _ _ (by simp), length_packetHead]
    exact fieldAt_last 4 _
  have hlt : (crc32c (packetHead op p)).toNat < 256 ^ 4 := (crc32c (packetHead op p)).isLt
  rw [crcGood, hhead, hcrc, Nat.mod_eq_of_lt hlt]
  exact decide_eq_true rfl

/-- The fields of a packet's first 60 bytes. -/
theorem fieldAt_packetHead (op : Nat) (p : Packet) :
    fieldAt (packetHead op p) 0 2 = op % 256 ^ 2 ∧ fieldAt (packetHead op p) 2 2 = p.tag % 256 ^ 2 ∧
      fieldAt (packetHead op p) 4 2 = p.epoch.toNat % 256 ^ 2 ∧
      fieldAt (packetHead op p) 6 1 = (if p.fence then 1 else 0) % 256 ^ 1 ∧ fieldAt (packetHead op p) 7 1 = p.cq % 256 ^ 1 ∧
      fieldAt (packetHead op p) 8 2 = p.target % 256 ^ 2 ∧ fieldAt (packetHead op p) 10 2 = 0 ∧
      slice (packetHead op p) 12 48 = slice p.params 0 48 := by
  simp [packetHead, List.append_assoc, fieldAt_head, fieldAt_past_field, slice_past_field, slice_slice]

/-- The bits that must be 0 are, in a packet with a TAG in its range. -/
theorem mustBeZero_encodePacket (htag : p.tag < 1024) : mustBeZero (encodePacket op p) = true := by
  obtain ⟨-, htagAt, -, hfence, -, -, hzero, -⟩ := fieldAt_packetHead op p
  simp only [mustBeZero, fieldAt_encodePacket (by decide : 2 + 2 ≤ 60), fieldAt_encodePacket (by decide : 6 + 1 ≤ 60),
    fieldAt_encodePacket (by decide : 0x0A + 2 ≤ 60), htagAt, hfence, hzero, Bool.and_eq_true, decide_eq_true_eq, and_true]
  constructor
  · omega
  · split <;> decide

/-- A packet with its fields in their ranges reads back. -/
theorem readPacket_encodePacket (hop : op < 2 ^ 16) (htag : p.tag < 1024) (hcq : p.cq < 2 ^ 8) (htarget : p.target < 2 ^ 16)
    (hparams : p.params.length = 48) :
    readPacket p.master p.sq p.index (encodePacket op p) p.args p.tick = (op, p) := by
  obtain ⟨hopAt, htagAt, hepochAt, hfenceAt, hcqAt, htargetAt, -, hparamsAt⟩ := fieldAt_packetHead op p
  have hepoch : p.epoch.toNat < 2 ^ 16 := p.epoch.isLt
  have hfence : bit ((if p.fence then 1 else 0) % 256 ^ 1) 0 = p.fence := by cases p.fence <;> decide
  simp only [readPacket, fieldAt_encodePacket (by decide : 0 + 2 ≤ 60), fieldAt_encodePacket (by decide : 2 + 2 ≤ 60),
    fieldAt_encodePacket (by decide : 4 + 2 ≤ 60), fieldAt_encodePacket (by decide : 6 + 1 ≤ 60),
    fieldAt_encodePacket (by decide : 7 + 1 ≤ 60), fieldAt_encodePacket (by decide : 8 + 2 ≤ 60),
    slice_encodePacket (by decide : 0x0C + 48 ≤ 60), hopAt, htagAt, hepochAt, hfenceAt, hcqAt, htargetAt, hparamsAt, hfence,
    slice_of_length hparams]
  rw [Nat.mod_eq_of_lt (by omega : op < 256 ^ 2), Nat.mod_eq_of_lt (by omega : p.tag < 256 ^ 2),
    Nat.mod_eq_of_lt (by omega : p.epoch.toNat < 256 ^ 2), Nat.mod_eq_of_lt (by omega : p.cq < 256 ^ 1),
    Nat.mod_eq_of_lt (by omega : p.target < 256 ^ 2), BitVec.ofNat_toNat, BitVec.setWidth_eq]

end

/-! The packet taken in from its queue (03 R58, R66). -/

section
variable {s : State} {op : Nat} {p : Packet} {raw : List Byte}

@[simp] theorem State.fetched_tags (q k : Nat) : (s.fetched q k).tags = s.tags := rfl
@[simp] theorem State.fetched_queueType (q k m : Nat) : (s.fetched q k).queueType m = s.queueType m := rfl

@[simp] theorem State.holdTag_queueType (q : Nat) : (s.holdTag p).queueType q = s.queueType q := by
  unfold State.holdTag
  split <;> rfl

/-- A packet that passes the checks of 03 R66 steps 2 to 5 waits for the arbiter. -/
theorem State.takePacket_waits (hzero : mustBeZero raw = true) (htag : s.tags.contains (p.master, p.tag) = false)
    (hop : Op.all.contains op = true) (hcq : p.master = 0 → p.cq < 32 ∧ s.queueType p.cq = Ty.COMPLETION) :
    s.takePacket raw op p = { s.holdTag p with arrived := (s.holdTag p).arrived ++ [(op, p)] } := by
  have hlive : ¬(p.master = 0 ∧ (!(p.cq < 32 && (s.holdTag p).queueType p.cq = Ty.COMPLETION)) = true) := by
    rintro ⟨hm, hbad⟩
    simp [hcq hm] at hbad
  simp only [State.takePacket, hzero, htag, hop, Bool.not_true, Bool.false_eq_true, if_false, if_neg hlive]

/-- One packet fetched from a queue that has room for it is taken in at HEAD. -/
theorem exec_packetFetch_one {q tick : Nat} {args : Option (List Byte)} (hup : s.up = true) (hf : s.mayFetch q = true)
    (hroom : 0 < s.fetchRoom q) :
    exec (.packetFetch q [(raw, args)] tick) s =
      .next (((s.at tick).fetched q 1).intake 0 q (s.queue q).head raw args tick) := by
  have htake : [(raw, args)].take (s.fetchRoom q) = [(raw, args)] := List.take_of_length_le hroom
  change whileUp s _ = _
  rw [whileUp_up _ hup, if_pos hf]
  simp only [htake, intakeAll, List.length_singleton]

end

/-- Settles O58: `readPacket_encodePacket` reads each field back from its place, `crcGood_encodePacket` and
`mustBeZero_encodePacket` are the checks that the bytes pass, and with them `State.takePacket_waits` says what the fetch of such
a packet leaves. -/
theorem packetRoundTrip : Obligations.PacketRoundTrip := by
  unfold Obligations.PacketRoundTrip
  refine ⟨?bytes, ?fetch⟩
  case bytes =>
    intro op p hop htag hcq htarget hparams
    exact ⟨readPacket_encodePacket hop htag hcq htarget hparams, length_encodePacket op p, crcGood_encodePacket op p,
      mustBeZero_encodePacket htag⟩
  case fetch =>
    intro s op p hup hf hroom hop htag hcq htarget hparams hmaster hindex hfree hall hcq32 hlive
    have hread := readPacket_encodePacket hop htag hcq htarget hparams
    rw [hmaster, hindex] at hread
    rw [exec_packetFetch_one hup hf hroom, State.intake, hread, if_pos (crcGood_encodePacket op p)]
    exact congrArg _ (State.takePacket_waits (mustBeZero_encodePacket htag) (by simpa [hmaster] using hfree) hall
      fun _ => ⟨hcq32, hlive⟩)

end Sys2Proof.Machine
end

section
/-! SUPPORT. The entries of the rings (03 R69, R75; 02 R49; 08 R173) read back from their bytes. -/

namespace Sys2Proof.Machine

/-- The fields of an event before its check. -/
def Event.body (e : Event) : List Byte :=
  leBytes 2 e.code ++ leBytes 1 e.severity ++ leBytes 1 e.inst ++ leBytes 4 e.seq ++ leBytes 8 e.time ++
    leBytes 2 e.epoch.toNat ++ leBytes 1 e.slot ++ [0] ++ slice e.data 0 8

/-- The fields of a completion record before its check. -/
def Record.body (r : Record) : List Byte :=
  leBytes 1 1 ++ leBytes 1 r.state ++ leBytes 1 r.slot ++ leBytes 1 r.location ++ leBytes 4 r.sheetId ++
    leBytes 4 r.jobId ++ leBytes 4 r.seq ++ leBytes 8 r.tPick ++ leBytes 8 r.tHinge ++ leBytes 8 r.tClose ++
    leBytes 4 r.flags ++ leBytes 4 r.gap ++ leBytes 2 r.retries ++ leBytes 2 r.lost ++ leInt 2 r.speedErr ++
    leBytes 1 r.stations ++ [0] ++ leBytes 2 r.epoch.toNat ++ [0, 0]

/-- The fields of a data request before its check. -/
def DataRequest.body (d : DataRequest) : List Byte :=
  leBytes 1 1 ++ leBytes 1 d.kind ++ leBytes 1 d.station ++ leBytes 1 d.slot ++ leBytes 4 d.sheetId ++
    leBytes 2 d.band ++ leBytes 2 d.first ++ leBytes 4 d.length ++ leBytes 4 d.ofs ++ leBytes 4 d.seq ++
    leBytes 2 d.status ++ [0, 0]

theorem Event.bytes_eq (e : Event) : e.bytes = withCrc e.body := rfl
theorem Record.bytes_eq (r : Record) : r.bytes = withCrc r.body := rfl
theorem DataRequest.bytes_eq (d : DataRequest) : d.bytes = withCrc d.body := rfl

@[simp] theorem Event.length_body (e : Event) : e.body.length = 28 := by simp [Event.body]
@[simp] theorem Record.length_body (r : Record) : r.body.length = 60 := by simp [Record.body]
@[simp] theorem DataRequest.length_body (d : DataRequest) : d.body.length = 28 := by simp [DataRequest.body]

theorem readCompletion_bytes {c : Completion} (htag : c.tag < 2 ^ 16) (hstatus : c.status < 2 ^ 16) (hop : c.op < 2 ^ 16)
    (hsq : c.sq < 2 ^ 8) (hflags : c.flags < 2 ^ 8) (hresult : c.result < 2 ^ 32) (hhead : c.sqHead < 2 ^ 16)
    (harb : c.arbSeq < 2 ^ 16) (hmaster : c.master = sqMaster c.sq) : readCompletion c.cq c.bytes = c := by
  have hfields : readCompletion c.cq c.bytes = ⟨c.tag % 2 ^ 16, c.status % 2 ^ 16, c.op % 2 ^ 16, c.sq % 2 ^ 8,
      c.flags % 2 ^ 8, c.result % 2 ^ 32, c.sqHead % 2 ^ 16, c.arbSeq % 2 ^ 16, c.cq, sqMaster (c.sq % 2 ^ 8)⟩ := by
    simp [readCompletion, Completion.bytes, fieldAt_head, fieldAt_past_field, fieldAt_last]
  rw [hfields, Nat.mod_eq_of_lt htag, Nat.mod_eq_of_lt hstatus, Nat.mod_eq_of_lt hop, Nat.mod_eq_of_lt hsq,
    Nat.mod_eq_of_lt hflags, Nat.mod_eq_of_lt hresult, Nat.mod_eq_of_lt hhead, Nat.mod_eq_of_lt harb, ← hmaster]

theorem readEvent_bytes {e : Event} (hcode : e.code < 2 ^ 16) (hsev : e.severity < 2 ^ 8) (hinst : e.inst < 2 ^ 8)
    (hseq : e.seq < 2 ^ 32) (htime : e.time < 2 ^ 64) (hslot : e.slot < 2 ^ 8) (hdata : e.data.length = 8) :
    readEvent e.bytes = e := by
  have hfields : readEvent e.bytes = ⟨e.code % 2 ^ 16, e.severity % 2 ^ 8, e.inst % 2 ^ 8, e.seq % 2 ^ 32,
      e.time % 2 ^ 64, BitVec.ofNat 16 (e.epoch.toNat % 2 ^ 16), e.slot % 2 ^ 8, slice e.data 0 8⟩ := by
    simp [readEvent, Event.bytes_eq, Event.body, fieldAt_withCrc, slice_withCrc, fieldAt_head, fieldAt_past_field,
      slice_past_field, slice_past_byte, slice_slice]
  rw [hfields, Nat.mod_eq_of_lt hcode, Nat.mod_eq_of_lt hsev, Nat.mod_eq_of_lt hinst, Nat.mod_eq_of_lt hseq,
    Nat.mod_eq_of_lt htime, Nat.mod_eq_of_lt hslot, Nat.mod_eq_of_lt e.epoch.isLt, BitVec.ofNat_toNat, BitVec.setWidth_eq,
    slice_of_length hdata]

theorem readRequest_bytes {d : DataRequest} (hkind : d.kind < 2 ^ 8) (hstation : d.station < 2 ^ 8) (hslot : d.slot < 2 ^ 8)
    (hsheet : d.sheetId < 2 ^ 32) (hband : d.band < 2 ^ 16) (hfirst : d.first < 2 ^ 16) (hlength : d.length < 2 ^ 32)
    (hofs : d.ofs < 2 ^ 32) (hseq : d.seq < 2 ^ 32) (hstatus : d.status < 2 ^ 16) : readRequest d.bytes = d := by
  have hfields : readRequest d.bytes = ⟨d.kind % 2 ^ 8, d.station % 2 ^ 8, d.slot % 2 ^ 8, d.sheetId % 2 ^ 32,
      d.band % 2 ^ 16, d.first % 2 ^ 16, d.length % 2 ^ 32, d.ofs % 2 ^ 32, d.seq % 2 ^ 32, d.status % 2 ^ 16⟩ := by
    simp [readRequest, DataRequest.bytes_eq, DataRequest.body, fieldAt_withCrc, fieldAt_head, fieldAt_past_field]
  rw [hfields, Nat.mod_eq_of_lt hkind, Nat.mod_eq_of_lt hstation, Nat.mod_eq_of_lt hslot, Nat.mod_eq_of_lt hsheet,
    Nat.mod_eq_of_lt hband, Nat.mod_eq_of_lt hfirst, Nat.mod_eq_of_lt hlength, Nat.mod_eq_of_lt hofs, Nat.mod_eq_of_lt hseq,
    Nat.mod_eq_of_lt hstatus]

theorem readRecord_bytes {r : Record} (hstate : r.state < 2 ^ 8) (hslot : r.slot < 2 ^ 8) (hloc : r.location < 2 ^ 8)
    (hsheet : r.sheetId < 2 ^ 32) (hjob : r.jobId < 2 ^ 32) (hseq : r.seq < 2 ^ 32) (hpick : r.tPick < 2 ^ 64)
    (hhinge : r.tHinge < 2 ^ 64) (hclose : r.tClose < 2 ^ 64) (hflags : r.flags < 2 ^ 32) (hgap : r.gap < 2 ^ 32)
    (hretries : r.retries < 2 ^ 16) (hlost : r.lost < 2 ^ 16) (hlo : -2 ^ 15 ≤ r.speedErr) (hhi : r.speedErr < 2 ^ 15)
    (hstations : r.stations < 2 ^ 8) : readRecord r.bytes = r := by
  have hfields : readRecord r.bytes = { r with
      state := r.state % 2 ^ 8, slot := r.slot % 2 ^ 8, location := r.location % 2 ^ 8, sheetId := r.sheetId % 2 ^ 32,
      jobId := r.jobId % 2 ^ 32, seq := r.seq % 2 ^ 32, tPick := r.tPick % 2 ^ 64, tHinge := r.tHinge % 2 ^ 64,
      tClose := r.tClose % 2 ^ 64, flags := r.flags % 2 ^ 32, gap := r.gap % 2 ^ 32, retries := r.retries % 2 ^ 16,
      lost := r.lost % 2 ^ 16, speedErr := signed 16 (leNat (leInt 2 r.speedErr)), stations := r.stations % 2 ^ 8,
      epoch := BitVec.ofNat 16 (r.epoch.toNat % 2 ^ 16) } := by
    simp [readRecord, Record.bytes_eq, Record.body, fieldAt_withCrc, fieldAt_head, fieldAt_past_field, fieldAt_past_byte,
      fieldAt_leInt_head, fieldAt_past_leInt]
  rw [hfields, Nat.mod_eq_of_lt hstate, Nat.mod_eq_of_lt hslot, Nat.mod_eq_of_lt hloc, Nat.mod_eq_of_lt hsheet,
    Nat.mod_eq_of_lt hjob, Nat.mod_eq_of_lt hseq, Nat.mod_eq_of_lt hpick, Nat.mod_eq_of_lt hhinge, Nat.mod_eq_of_lt hclose,
    Nat.mod_eq_of_lt hflags, Nat.mod_eq_of_lt hgap, Nat.mod_eq_of_lt hretries, Nat.mod_eq_of_lt hlost, signed_leInt hlo hhi,
    Nat.mod_eq_of_lt hstations, Nat.mod_eq_of_lt r.epoch.isLt, BitVec.ofNat_toNat, BitVec.setWidth_eq]

/-- Settles O56: each entry read back field by field, the check at its end left aside. -/
theorem entriesReadBack : Obligations.EntriesReadBack := by
  unfold Obligations.EntriesReadBack
  refine ⟨?completion, ?event, ?record, ?request⟩
  case completion =>
    exact fun c htag hstatus hop hsq hflags hresult hhead harb hmaster =>
      ⟨readCompletion_bytes htag hstatus hop hsq hflags hresult hhead harb hmaster, by simp [Completion.bytes, entrySize]⟩
  case event =>
    exact fun e hcode hsev hinst hseq htime hslot hdata =>
      ⟨readEvent_bytes hcode hsev hinst hseq htime hslot hdata, by
        rw [Event.bytes_eq, length_withCrc, Event.length_body]; rfl⟩
  case record =>
    exact fun r hstate hslot hloc hsheet hjob hseq hpick hhinge hclose hflags hgap hretries hlost hlo hhi hstations =>
      ⟨readRecord_bytes hstate hslot hloc hsheet hjob hseq hpick hhinge hclose hflags hgap hretries hlost hlo hhi hstations, by
        rw [Record.bytes_eq, length_withCrc, Record.length_body]; rfl⟩
  case request =>
    exact fun d hkind hstation hslot hsheet hband hfirst hlength hofs hseq hstatus =>
      ⟨readRequest_bytes hkind hstation hslot hsheet hband hfirst hlength hofs hseq hstatus, by
        rw [DataRequest.bytes_eq, length_withCrc, DataRequest.length_body]; rfl⟩

end Sys2Proof.Machine
end

section
/-! SUPPORT. The scratch region (06 R125): what a run of writes leaves at each offset, and that what ends a descriptor does not write
there. -/

set_option Elab.async false -- one thread for the whole file: a thread per theorem runs out of address space

namespace Sys2Proof.Machine

/-! A run of bytes written from an offset on. -/

/-- The writes that put the bytes `b` at `ofs` and on. -/
def writesFrom (ofs : Nat) (b : List Byte) : List (Nat × Byte) := ((List.range b.length).map (ofs + ·)).zip b

theorem writesFrom_cons (ofs : Nat) (x : Byte) (b : List Byte) :
    writesFrom ofs (x :: b) = (ofs, x) :: writesFrom (ofs + 1) b := by
  simp [writesFrom, List.range_succ_eq_map, Function.comp_def, Nat.add_assoc, Nat.add_comm 1]

theorem mem_writesFrom {ofs : Nat} {w : Nat × Byte} {b : List Byte} (hw : w ∈ writesFrom ofs b) :
    ofs ≤ w.1 ∧ w.1 < ofs + b.length := by
  obtain ⟨i, hi, hofs⟩ := List.mem_map.1 (List.of_mem_zip hw).1
  have := List.mem_range.1 hi
  omega

section
variable {d : Nat → Byte} {l : List (Nat × Byte)} {ofs a i : Nat} {b : List Byte}

theorem Store.get_writesFrom_outside (h : Store.wf d l = true) (ha : a < ofs ∨ ofs + b.length ≤ a) :
    Store.get d (Store.putAll d l (writesFrom ofs b)) a = Store.get d l a :=
  Store.get_putAll_ne h fun w hw => by
    have := mem_writesFrom hw
    omega

theorem Store.get_writesFrom_inside (h : Store.wf d l = true) (hi : i < b.length) :
    Store.get d (Store.putAll d l (writesFrom ofs b)) (ofs + i) = b.getD i 0 := by
  induction b generalizing l ofs i with
  | nil => exact absurd hi (Nat.not_lt_zero i)
  | cons x b ih =>
    rw [writesFrom_cons, Store.putAll]
    cases i with
    | zero => rw [Store.get_writesFrom_outside (Store.put_wf h) (.inl (by omega)), Store.get_put h, if_pos (Nat.add_zero ofs)]; rfl
    | succ i =>
      have := ih (ofs := ofs + 1) (Store.put_wf (a := ofs) (v := x) h) (Nat.lt_of_succ_lt_succ hi)
      rwa [Nat.add_assoc, Nat.add_comm 1] at this

end

/-! What leaves the scratch region as it is, and what a write of it leaves. -/

section
variable {s : State} (c st n : Nat)

@[simp] theorem State.setChannel_scratch (f : Channel → Channel) : (s.setChannel c f).dma.scratch = s.dma.scratch := rfl

@[simp] theorem State.setList_scratch (f : DmaList → DmaList) : (s.setList c f).dma.scratch = s.dma.scratch := rfl

@[simp] theorem State.moved_scratch : (s.moved c n).dma.scratch = s.dma.scratch := rfl

@[simp] theorem State.record_dma (source inst : Nat) (data : List Byte) : (s.record source inst data).dma = s.dma :=
  State.of_unjudged State.dma (fun _ => rfl) (s.unposted_traceRecord source inst data)

@[simp] theorem State.writeBackDesc_dma (d : Desc) : (s.writeBackDesc c d st).dma = s.dma := by
  unfold State.writeBackDesc
  split <;> rfl

@[simp] theorem State.endList_scratch : (s.endList c st).dma.scratch = s.dma.scratch := by
  unfold State.endList
  split
  · rfl
  · rw [finish_dma]; rfl

@[simp] theorem State.endDesc_scratch : (s.endDesc c st).dma.scratch = s.dma.scratch := by
  unfold State.endDesc
  split
  · split
    · dsimp only
      repeat' split
      all_goals simp
    · simp
  · rfl

theorem State.scratchWrite_scratch (ofs : Nat) (b : List Byte) :
    (s.scratchWrite ofs b).dma.scratch = Store.putAll zeroByte s.dma.scratch (writesFrom ofs b) := rfl

/-- A host-to-device descriptor of the scratch region that finishes stores its bytes there and ends. -/
theorem exec_descriptorDone_scratch {data : List Byte} {tick : Nat} {d : Desc} (hup : s.up = true) (hruns : s.dmaRuns = true)
    (hcur : (s.channel c).cur = some d) (hregion : d.region ≠ 0) (hdir : d.dir = 0) :
    exec (.descriptorDone c data tick) s =
      .next ((((s.at tick).scratchWrite d.ofs (slice data 0 d.length)).moved c d.length).endDesc c St.OK) := by
  have hheld : s.dmaHeld = false := by
    simp only [State.dmaRuns, Bool.and_eq_true, Bool.not_eq_true'] at hruns
    obtain ⟨⟨⟨⟨-, hstopped⟩, hdraining⟩, -⟩, -⟩ := hruns
    simp [State.dmaHeld, hstopped, hdraining]
  simp [exec, execDescriptorDone, hup, hheld, hcur, hruns, hregion, hdir]

end

/-- Settles O57: the descriptor's only write of the region is the run of its bytes (`exec_descriptorDone_scratch`), and
`Store.get_writesFrom_outside` and `Store.get_writesFrom_inside` say what each offset reads as after it. -/
theorem scratchFrame : Obligations.ScratchFrame := by
  unfold Obligations.ScratchFrame
  refine ⟨?outside, ?inside⟩
  case outside =>
    intro s c tick a data d hup hruns hcur hregion hdir hwf ha
    refine ⟨_, exec_descriptorDone_scratch c hup hruns hcur hregion hdir, ?_⟩
    rw [State.endDesc_scratch, State.moved_scratch, State.scratchWrite_scratch]
    exact Store.get_writesFrom_outside hwf (by simpa using ha)
  case inside =>
    intro s c tick i data d hup hruns hcur hregion hdir hwf hi hlength
    refine ⟨_, exec_descriptorDone_scratch c hup hruns hcur hregion hdir, ?_⟩
    rw [State.endDesc_scratch, State.moved_scratch, State.scratchWrite_scratch, slice_of_length hlength]
    exact Store.get_writesFrom_inside hwf (hlength ▸ hi)

end Sys2Proof.Machine
end

section
/-! SUPPORT. Rows in reset, without supply and in DORMANT (05 R102, R112, R115): every row but those of `actsAlways` is guarded by
State.up. -/

set_option Elab.async false -- one thread for the whole file: a thread per theorem runs out of address space

namespace Sys2Proof.Machine

/-- A row that does not always act does what it does only while the device is up. -/
theorem exec_guarded {i : Instr} (h : actsAlways i = false) : ∃ f, ∀ s, exec i s = whileUp s f := by
  cases i
  case resetnAssert | resetnRelease | wake | wakeDone | vinRise | brownoutOff | interlockOpen | interlockClosed | overtempTrip |
    overtempRelease | tckEdge | deadboltAssert | deadboltRelease | telemetrySample => exact Bool.noConfusion h
  all_goals exact ⟨_, fun _ => rfl⟩

/-- Settles O46: outside the rows that always act, each is guarded by State.up (`exec_guarded`). -/
theorem downIgnores : Obligations.DownIgnores := by
  unfold Obligations.DownIgnores
  intro i s hdown hacts
  obtain ⟨f, hrow⟩ := exec_guarded hacts
  rw [hrow, whileUp_down f hdown]

end Sys2Proof.Machine
end

section
/-! SUPPORT. What a halt leaves alone (05 R107-R109): past the latching of its cause, the steps of a safe-stop and of its end write
neither the mask nor the levels of the safety inputs, nor the bus, nor what a failed lock has halted, nor the analogue
front end; of the run they write the step of a change of speed only. -/

set_option Elab.async false -- one thread for the whole file: a thread per theorem runs out of address space

namespace Sys2Proof.Machine

/-- The halt mask, the levels of the safety inputs, the bus, which PLLs wait after a failed lock, the front end, and the run. -/
def State.kept (s : State) : Half × Safety × Bus × List Bool × Afe × Run :=
  (s.modes.haltMask, s.safety, s.bus, s.stations.map fun st => st.pll.halted, s.afe, s.run)

/-- What a safe-stop keeps of it: the step of a change of speed ends with the stop. -/
def State.stopKept (s : State) : Half × Safety × Bus × List Bool × Afe :=
  (s.modes.haltMask, s.safety, s.bus, s.stations.map fun st => st.pll.halted, s.afe)

theorem State.kept_of_unposted {s t : State} (h : t.unposted = s.unposted) : t.kept = s.kept :=
  State.of_unposted State.kept (fun _ => rfl) h

/-- The PLLs that wait after a failed lock, one by one. -/
theorem State.pll_halted (s : State) (n : Nat) : (s.pll n).halted = (s.stations.map fun st => st.pll.halted).getD n false := by
  simp only [State.pll, State.station, List.getD_eq_getElem?_getD, List.getElem?_map]
  cases s.stations[n]? <;> rfl

section
variable {s t : State} (h : t.kept = s.kept)
include h

theorem State.haltMask_of_kept : t.modes.haltMask = s.modes.haltMask := congrArg (·.1) h
theorem State.safety_of_kept : t.safety = s.safety := congrArg (·.2.1) h
theorem State.bus_of_kept : t.bus = s.bus := congrArg (·.2.2.1) h
theorem State.halted_of_kept : (t.stations.map fun st => st.pll.halted) = s.stations.map fun st => st.pll.halted :=
  congrArg (·.2.2.2.1) h
theorem State.afe_of_kept : t.afe = s.afe := congrArg (·.2.2.2.2.1) h
theorem State.run_of_kept : t.run = s.run := congrArg (·.2.2.2.2.2) h

theorem State.stations_length_of_kept : t.stations.length = s.stations.length := by
  simpa using congrArg List.length (State.halted_of_kept h)

theorem State.stopKept_of_kept : t.stopKept = s.stopKept := by
  rw [State.stopKept, State.stopKept, State.haltMask_of_kept h, State.safety_of_kept h, State.bus_of_kept h,
    State.halted_of_kept h, State.afe_of_kept h]

end

section
variable (s : State)

/-! Posting, and the updates of one unit. -/

@[simp] theorem State.mirrorOn_kept (m : MirrorOut) : (s.mirrorOn m).kept = s.kept :=
  State.kept_of_unposted (s.unposted_mirrorOn m)

@[simp] theorem State.deliver_kept (e : Entry) (host mgmt : Bool) : (s.deliver e host mgmt).kept = s.kept :=
  State.kept_of_unposted (s.unposted_deliver e host mgmt)

@[simp] theorem State.raise_kept (i inst slot : Nat) (data : List Byte) : (s.raise i inst slot data).kept = s.kept :=
  State.kept_of_unposted (s.unposted_raise i inst slot data)

@[simp] theorem finishWhere_kept (p : Cmd → Bool) (st res : Cmd → Nat) : (finishWhere p st res s).kept = s.kept :=
  (State.kept_of_unposted (unposted_finishWhere p st res s)).trans rfl

@[simp] theorem finish_kept (q status result : Nat) : (finish q status result s).kept = s.kept :=
  (State.kept_of_unposted (unposted_finish q status result s)).trans rfl

@[simp] theorem State.record_kept (source inst : Nat) (data : List Byte) : (s.record source inst data).kept = s.kept :=
  State.of_unjudged State.kept (fun _ => rfl) (s.unposted_traceRecord source inst data)

theorem State.setStation_kept (n : Nat) {f : Station → Station} (hf : ∀ st, (f st).pll.halted = st.pll.halted) :
    (s.setStation n f).kept = s.kept := by
  simp only [State.kept, State.setStation, map_modify_same (fun st : Station => st.pll.halted) f hf]

@[simp] theorem State.setPipe_kept (n : Nat) (f : Pipe → Pipe) : (s.setPipe n f).kept = s.kept :=
  s.setStation_kept n fun _ => rfl

@[simp] theorem State.setScan_kept (n : Nat) (f : Scan → Scan) : (s.setScan n f).kept = s.kept :=
  s.setStation_kept n fun _ => rfl

@[simp] theorem State.setLink_kept (n : Nat) (f : Link → Link) : (s.setLink n f).kept = s.kept :=
  s.setStation_kept n fun _ => rfl

@[simp] theorem State.setHv_kept (n : Nat) (f : Hv → Hv) : (s.setHv n f).kept = s.kept := rfl
@[simp] theorem State.setZone_kept (n : Nat) (f : Zone → Zone) : (s.setZone n f).kept = s.kept := rfl
@[simp] theorem State.setDrive_kept (n : Nat) (f : Drive → Drive) : (s.setDrive n f).kept = s.kept := rfl
@[simp] theorem State.setLoop_kept (n : Nat) (f : Loop → Loop) : (s.setLoop n f).kept = s.kept := rfl
@[simp] theorem State.setAxis_kept (n : Nat) (f : Axis → Axis) : (s.setAxis n f).kept = s.kept := rfl
@[simp] theorem State.setSheet_kept (n : Nat) (f : Sheet → Sheet) : (s.setSheet n f).kept = s.kept := rfl
@[simp] theorem State.finishHv_kept : s.finishHv.kept = s.kept := finishWhere_kept s _ _ _

/-! Modes. -/

@[simp] theorem State.enter_kept (m : Mode) : (s.enter m).kept = s.kept := by
  unfold State.enter
  split
  · rfl
  · simp only [State.raise_kept, State.mirrorOn_kept]; rfl

@[simp] theorem State.watchHold_kept : s.watchHold.kept = s.kept := by
  unfold State.watchHold
  split <;> rfl

@[simp] theorem State.settle_kept : s.settle.kept = s.kept := by
  unfold State.settle
  split
  · rw [State.enter_kept]; rfl
  · rfl

/-! Sheets. -/

@[simp] theorem State.stamp_kept (slot cause time : Nat) : (s.stamp slot cause time).kept = s.kept := by
  unfold State.stamp
  split
  · rfl
  · split
    · rfl
    · simp

@[simp] theorem stampAll_kept (cause time : Nat) (is : List Nat) : (stampAll cause time is s).kept = s.kept := by
  induction is generalizing s with
  | nil => rfl
  | cons i is ih => rw [stampAll, ih, State.stamp_kept]

@[simp] theorem State.moveSheet_kept (slot : Nat) (st : SheetState) : (s.moveSheet slot st).kept = s.kept := by
  unfold State.moveSheet
  split
  · rfl
  · simp

theorem cancelRequests_kept (i : Nat) (sh : Sheet) (bs : List Band) : (cancelRequests i sh bs s).kept = s.kept := by
  induction bs generalizing s with
  | nil => rfl
  | cons b bs ih =>
    rw [cancelRequests, ih]
    split
    · exact s.deliver_kept _ _ _
    · rfl

@[simp] theorem State.unfeed_kept (i : Nat) (sh : Sheet) : (s.unfeed i sh).kept = s.kept :=
  (show (s.unfeed i sh).kept = (cancelRequests i sh sh.bands s).kept from rfl).trans (cancelRequests_kept s i sh _)

@[simp] theorem dropLinesAll_kept (p : WinLine → Bool) (ns : List Nat) : (dropLinesAll p ns s).kept = s.kept := by
  induction ns generalizing s with
  | nil => rfl
  | cons n ns ih => rw [dropLinesAll, ih]; exact s.setStation_kept n fun _ => rfl

@[simp] theorem State.freeSlotOf_kept (slot : Nat) (sh : Sheet) (wasHead : Bool) :
    (s.freeSlotOf slot sh wasHead).kept = s.kept := by
  unfold State.freeSlotOf
  simp only [State.record_kept, State.mirrorOn_kept]
  rfl

@[simp] theorem State.holdCancels_kept (slot seq result : Nat) : (s.holdCancels slot seq result).kept = s.kept := rfl

@[simp] theorem State.closeSheet_kept (slot : Nat) (stopped : Bool) : (s.closeSheet slot stopped).kept = s.kept := by
  unfold State.closeSheet
  split
  · rfl
  next sh _ =>
    simp only [State.deliver_kept, State.holdCancels_kept, State.freeSlotOf_kept]
    refine (dropLinesAll_kept _ _ _).trans ((State.unfeed_kept _ _ _).trans ?_)
    split
    · rfl
    · exact s.moveSheet_kept slot _

theorem closeWaiting_kept (is : List Nat) : (closeWaiting is s).kept = s.kept := by
  induction is generalizing s with
  | nil => rfl
  | cons i is ih =>
    rw [closeWaiting, ih]
    split
    · split
      · rw [State.settle_kept, State.closeSheet_kept]
      · rfl
    · rfl

theorem closeStopped_kept (is : List Nat) : (closeStopped is s).kept = s.kept := by
  induction is generalizing s with
  | nil => rfl
  | cons i is ih =>
    rw [closeStopped]
    split
    · exact ih s
    · rw [ih, State.closeSheet_kept, State.setSheet_kept]

/-! Stations. -/

@[simp] theorem State.out_kept (o : Output) : (s.out o).kept = s.kept := rfl

@[simp] theorem State.setEmitter_kept (n e : Nat) (f : Emitter → Emitter) : (s.setEmitter n e f).kept = s.kept :=
  s.setStation_kept n fun _ => rfl

@[simp] theorem weighLanes_kept (n : Nat) (ls : List (Nat × List Nat)) : (weighLanes n ls s).kept = s.kept := by
  induction ls generalizing s with
  | nil => rfl
  | cons l ls ih => rw [weighLanes, ih, State.setPipe_kept, State.setEmitter_kept]

@[simp] theorem State.sendRun_kept (n first count : Nat) : (s.sendRun n first count).kept = s.kept := by
  unfold State.sendRun
  dsimp only
  repeat' split
  all_goals simp

theorem sendRuns_kept (n upTo k : Nat) : (sendRuns n upTo k s).kept = s.kept := by
  induction k generalizing s with
  | zero => rfl
  | succ k ih =>
    rw [sendRuns]
    split
    · rfl
    · rw [ih, State.sendRun_kept]

@[simp] theorem State.sendNow_kept (n : Nat) : (s.sendNow n).kept = s.kept := by
  unfold State.sendNow State.sendSlots
  split
  · split
    · exact sendRuns_kept s _ _ _
    · rfl
  · rfl

@[simp] theorem State.laserOff_kept (n : Nat) : (s.laserOff n).kept = s.kept := by
  unfold State.laserOff
  split
  · rw [State.setLink_kept, State.sendNow_kept]
  · rfl

@[simp] theorem State.leaveCoast_kept (n : Nat) : (s.leaveCoast n).kept = s.kept := by
  unfold State.leaveCoast
  split
  · exact s.raise_kept _ _ _ _
  · rfl

@[simp] theorem State.endCheck_kept (n : Nat) : (s.endCheck n).kept = s.kept :=
  (closeWaiting_kept _ _).trans (s.setScan_kept n _)

@[simp] theorem State.trackOff_kept (n : Nat) : (s.trackOff n).kept = s.kept := by
  unfold State.trackOff
  split
  · exact s.laserOff_kept n
  · simp

@[simp] theorem tracksOff_kept (ns : List Nat) : (tracksOff ns s).kept = s.kept := by
  induction ns generalizing s with
  | nil => rfl
  | cons n ns ih => rw [tracksOff, ih, State.trackOff_kept]

@[simp] theorem calsOff_kept (ns : List Nat) : (calsOff ns s).kept = s.kept := by
  induction ns generalizing s with
  | nil => rfl
  | cons n ns ih => rw [calsOff, ih, State.setPipe_kept]

/-- A PLL that waits after a failed lock is not disabled with the others (10 R219). -/
@[simp] theorem pllsOff_kept (ns : List Nat) : (pllsOff ns s).kept = s.kept := by
  induction ns generalizing s with
  | nil => rfl
  | cons n ns ih =>
    rw [pllsOff, ih]
    refine s.setStation_kept n fun st => ?_
    dsimp only
    split <;> rfl

/-! High voltage, zones, drives and axes. -/

@[simp] theorem hvOffAll_kept (ns : List Nat) : (hvOffAll ns s).kept = s.kept := by
  induction ns generalizing s with
  | nil => rfl
  | cons n ns ih => exact ih (s.hvOff n)

@[simp] theorem zonesOff_kept (zs : List Nat) : (zonesOff zs s).kept = s.kept := by
  induction zs generalizing s with
  | nil => rfl
  | cons z zs ih => exact ih (s.zoneOff z)

@[simp] theorem State.moveZone_kept (z : Nat) : (s.moveZone z).kept = s.kept := by
  unfold State.moveZone
  dsimp only
  split <;> rfl

@[simp] theorem moveZones_kept (zs : List Nat) : (moveZones zs s).kept = s.kept := by
  induction zs generalizing s with
  | nil => rfl
  | cons z zs ih =>
    rw [moveZones, ih]
    split
    · exact s.moveZone_kept z
    · rfl

@[simp] theorem bridgesOff_kept (ds : List Nat) : (bridgesOff ds s).kept = s.kept := by
  induction ds generalizing s with
  | nil => rfl
  | cons d ds ih => exact ih (s.bridgeOff d)

theorem State.followBelt_kept (d : Nat) : (s.followBelt d).kept = s.kept := by
  unfold State.followBelt
  split <;> rfl

theorem slaveStops_kept (ds : List Nat) : (slaveStops ds s).kept = s.kept := by
  induction ds generalizing s with
  | nil => rfl
  | cons d ds ih =>
    rw [slaveStops, ih]
    split
    · rfl
    · exact State.followBelt_kept _ d

theorem State.beltStop_kept : s.beltStop.kept = s.kept := by
  unfold State.beltStop
  split <;> rfl

@[simp] theorem State.mechanicsStop_kept : s.mechanicsStop.kept = s.kept := by
  unfold State.mechanicsStop
  exact (State.beltStop_kept _).trans (slaveStops_kept s _)

@[simp] theorem axesOff_kept (ns : List Nat) : (axesOff ns s).kept = s.kept := by
  induction ns generalizing s with
  | nil => rfl
  | cons n ns ih =>
    rw [axesOff, ih]
    split <;> rfl

@[simp] theorem State.allBridgesOff_kept : s.allBridgesOff.kept = s.kept := by simp [State.allBridgesOff]

@[simp] theorem State.moveOver_kept (m : AxisMove) (status result : Nat) : (s.moveOver m status result).kept = s.kept := by
  unfold State.moveOver
  split
  · rfl
  · exact finish_kept s _ _ _

theorem dropMoves_kept (ms : List AxisMove) (status : Nat) : (dropMoves ms status s).kept = s.kept := by
  induction ms generalizing s with
  | nil => rfl
  | cons m ms ih => rw [dropMoves, ih, State.moveOver_kept]

theorem dropMember_kept (g : Nat) (ns : List Nat) : (dropMember g ns s).kept = s.kept := by
  induction ns generalizing s with
  | nil => rfl
  | cons n ns ih => rw [dropMember, ih]; rfl

/-- One queued move leaves the other members of its group. -/
theorem dropGroup_kept (m : AxisMove) :
    (match m.kind with | .member g => dropMember g (s.members g) s | _ => s : State).kept = s.kept := by
  split
  · exact dropMember_kept s _ _
  · rfl

@[simp] theorem State.clearQueue_kept (n : Nat) : (s.clearQueue n).kept = s.kept := by
  unfold State.clearQueue
  dsimp only
  rw [dropMoves_kept]
  generalize (s.axis n).queue = q
  suffices h : ∀ t : State, t.kept = s.kept → (q.foldl _ t).kept = s.kept from h _ rfl
  induction q with
  | nil => exact fun t ht => ht
  | cons m q ih => exact fun t ht => ih _ ((dropGroup_kept t m).trans ht)

@[simp] theorem State.stopAxis_kept (n : Nat) : (s.stopAxis n).kept = s.kept := by
  unfold State.stopAxis
  dsimp only
  split
  · split
    · exact s.clearQueue_kept n
    · exact s.clearQueue_kept n
  · split
    · exact s.clearQueue_kept n
    · rw [State.moveOver_kept]
      exact s.clearQueue_kept n

@[simp] theorem stopAxes_kept (ns : List Nat) : (stopAxes ns s).kept = s.kept := by
  induction ns generalizing s with
  | nil => rfl
  | cons n ns ih => rw [stopAxes, ih, State.stopAxis_kept]

/-! The safe-stop. -/

theorem State.stopSteps_kept (all : Bool) : (s.stopSteps all).stopKept = s.stopKept := by
  unfold State.stopSteps
  rw [State.stopKept_of_kept (State.finishHv_kept _)]
  generalize hend : finishWhere stoppedCmd _ _ _ = t
  change t.stopKept = s.stopKept
  rw [← hend, State.stopKept_of_kept (finishWhere_kept _ _ _ _)]
  refine State.stopKept_of_kept ?_
  split <;> simp

@[simp] theorem State.enterStandby_kept : s.enterStandby.kept = s.kept := by
  unfold State.enterStandby
  rw [moveZones_kept, State.enter_kept]
  generalize hoff : pllsOff allStations _ = t
  change t.kept = s.kept
  rw [← hoff, pllsOff_kept, tracksOff_kept]

@[simp] theorem State.endSafeStop_kept : s.endSafeStop.kept = s.kept := by
  unfold State.endSafeStop
  rw [finishWhere_kept, finishWhere_kept, State.enterStandby_kept, closeStopped_kept, State.allBridgesOff_kept]

/-- A halt writes what it latches and nothing else of what it keeps. -/
theorem State.halt_stopKept (cause : Nat) : (s.halt cause).stopKept = (s.latch cause).stopKept := by
  unfold State.halt
  dsimp only
  split
  · split
    · have hoff := State.stopKept_of_kept (s.latch cause).allBridgesOff_kept
      generalize (s.latch cause).allBridgesOff = t at hoff ⊢
      exact hoff
    · rfl
  · split
    · rw [State.stopKept_of_kept (State.endSafeStop_kept _), State.stopSteps_kept]
    · rw [State.stopSteps_kept]

end

end Sys2Proof.Machine
end

section
/-! SUPPORT. Latched causes and the rows of the safety inputs (05 R107-R110, 17 R369): what latching writes, and the settlements of
O26 and O53. -/

set_option Elab.async false -- one thread for the whole file: a thread per theorem runs out of address space

namespace Sys2Proof.Machine

theorem State.latch_latched (s : State) {cause : Nat} (h : cause < 16) : (s.latch cause).latched cause = true := by
  unfold State.latch
  split
  · assumption
  · simp only [State.latched, State.raise_modes, BitVec.getLsbD_or, BitVec.getLsbD_ofNat, Nat.testBit_two_pow_self]
    simp [h]

theorem State.latch_safety (s : State) (cause : Nat) : (s.latch cause).safety = s.safety := by
  unfold State.latch
  split <;> simp

theorem State.latch_bus (s : State) (cause : Nat) : (s.latch cause).bus = s.bus := by
  unfold State.latch
  split <;> simp

theorem State.latch_stations (s : State) (cause : Nat) : (s.latch cause).stations = s.stations := by
  unfold State.latch
  split <;> simp

/-- The cause that brings a halt stands latched after it. -/
theorem State.halt_latched (s : State) {cause : Nat} (h : cause < 16) : (s.halt cause).latched cause = true := by
  have hmask : (s.halt cause).modes.haltMask = (s.latch cause).modes.haltMask := congrArg (·.1) (s.halt_stopKept cause)
  rw [State.latched, hmask]
  exact s.latch_latched h

theorem State.halt_safety (s : State) (cause : Nat) : (s.halt cause).safety = s.safety :=
  (congrArg (·.2.1) (s.halt_stopKept cause)).trans (s.latch_safety cause)

theorem State.halt_bus (s : State) (cause : Nat) : (s.halt cause).bus = s.bus :=
  (congrArg (·.2.2.1) (s.halt_stopKept cause)).trans (s.latch_bus cause)

theorem State.halt_pll_halted (s : State) (cause n : Nat) : ((s.halt cause).pll n).halted = (s.pll n).halted := by
  have hlist : (s.halt cause).stations.map (fun st => st.pll.halted) = (s.latch cause).stations.map fun st => st.pll.halted :=
    congrArg (·.2.2.2.1) (s.halt_stopKept cause)
  rw [State.pll_halted, State.pll_halted, hlist, s.latch_stations]

@[simp] theorem State.gateOff_kept (s : State) : s.gateOff.kept = s.kept := by simp [State.gateOff]

@[simp] theorem State.holdBrk_safety (s : State) : s.holdBrk.safety = s.safety := by
  unfold State.holdBrk State.setGate
  split
  · split <;> rfl
  · rfl

@[simp] theorem State.holdBrk_modes (s : State) : s.holdBrk.modes = s.modes := by
  unfold State.holdBrk State.setGate
  split
  · split <;> rfl
  · rfl

/-- The interlock that opens on a running device goes through the safe-stop with INTERLOCK. -/
theorem exec_interlockOpen_up {s : State} (tick : Nat) (hup : s.up = true) (h : s.safety.interlock = false) :
    exec (.interlockOpen tick) s = .next (((tracksOff allStations ((s.at tick).setInterlock true)).gateOff.raise
      Ev.INTERLOCK_OPEN 0xFF 0xFF []).halt Halt.INTERLOCK) := by
  change (.next _ : Result) = _
  rw [if_neg (by simp [h]), if_neg (by simp [hup])]

theorem exec_overtempTrip_up {s : State} (tick : Nat) (hup : s.up = true) (h : s.safety.overtemp = false) :
    exec (.overtempTrip tick) s = .next ((((s.at tick).setOvertemp true).gateOff.raise Ev.OVERTEMP_TRIP 0xFF 0xFF []).halt
      Halt.OVERTEMP) := by
  change (.next _ : Result) = _
  rw [if_neg (by simp [h]), if_neg (by simp [hup])]

/-- Settles O26: a safety input goes through the halt, which latches its cause and leaves the levels alone. -/
theorem safetyRowsRun : Obligations.SafetyRowsRun := by
  unfold Obligations.SafetyRowsRun
  refine ⟨?opens, fun _ => rfl, ?trips, fun _ => rfl⟩
  case opens =>
    intro s tick hup h
    refine ⟨_, exec_interlockOpen_up tick hup h, ?_, State.halt_latched _ (by decide)⟩
    rw [State.halt_safety, State.raise_safety, State.safety_of_kept (State.gateOff_kept _),
      State.safety_of_kept (tracksOff_kept _ _), State.setInterlock, State.holdBrk_safety]
  case trips =>
    intro s tick hup h
    refine ⟨_, exec_overtempTrip_up tick hup h, ?_, State.halt_latched _ (by decide)⟩
    rw [State.halt_safety, State.raise_safety, State.safety_of_kept (State.gateOff_kept _), State.setOvertemp]

/-! Entering DORMANT and waking. -/

@[simp] theorem unposted_releaseEach (ws : List Waiting) (s : State) : (releaseEach ws s).unposted = s.unposted := by
  induction ws generalizing s with
  | nil => rfl
  | cons w ws ih => rw [releaseEach, ih, State.unposted_enqueue]; rfl

@[simp] theorem State.releaseWhere_modes (s : State) (p : Waiting → Bool) : (s.releaseWhere p).modes = s.modes :=
  State.of_unposted State.modes (fun _ => rfl) (unposted_releaseEach _ s)

@[simp] theorem State.mirrorOn_modes (s : State) (m : MirrorOut) : (s.mirrorOn m).modes = s.modes :=
  State.of_unposted State.modes (fun _ => rfl) (s.unposted_mirrorOn m)

@[simp] theorem State.unsync_modes (s : State) (reason : Nat) : (s.unsync reason).modes = s.modes := by
  unfold State.unsync
  split
  · rw [State.raise_modes]; rfl
  · rfl

theorem State.enter_mode (s : State) (m : Mode) : (s.enter m).mode = m := by
  unfold State.enter
  split
  · assumption
  · simp [State.mode]

@[simp] theorem zonesOff_modes (zs : List Nat) (s : State) : (zonesOff zs s).modes = s.modes := by
  induction zs generalizing s with
  | nil => rfl
  | cons z zs ih => exact ih (s.zoneOff z)

theorem State.goDormant_mode (s : State) : s.goDormant.mode = .dormant := by
  unfold State.goDormant State.mode
  dsimp only
  rw [State.releaseWhere_modes, State.holdBrk_modes]
  exact State.enter_mode _ _

theorem State.goDormant_haltMask (s : State) : s.goDormant.modes.haltMask = s.modes.haltMask := by
  unfold State.goDormant
  dsimp only
  rw [State.releaseWhere_modes, State.holdBrk_modes, State.haltMask_of_kept (State.enter_kept _ _), zonesOff_modes,
    State.unsync_modes, State.mirrorOn_modes]

@[simp] theorem State.enter_dboltIn (s : State) (m : Mode) : (s.enter m).pair.dboltIn = s.pair.dboltIn := by
  unfold State.enter
  split
  · rfl
  · dsimp only
    rw [State.of_unposted (fun t : State => t.pair.dboltIn) (fun _ => rfl) (State.unposted_raise _ _ _ _ _),
      State.of_unposted (fun t : State => t.pair.dboltIn) (fun _ => rfl) (State.unposted_mirrorOn _ _)]

section
variable (ns : List Nat) (s : State)

@[simp] theorem trainAll_modes : (trainAll ns s).modes = s.modes := by
  induction ns generalizing s with
  | nil => rfl
  | cons n ns ih =>
    rw [trainAll, ih]
    split <;> rfl

@[simp] theorem trainAll_safety : (trainAll ns s).safety = s.safety := by
  induction ns generalizing s with
  | nil => rfl
  | cons n ns ih =>
    rw [trainAll, ih]
    split <;> rfl

@[simp] theorem trainAll_pair : (trainAll ns s).pair = s.pair := by
  induction ns generalizing s with
  | nil => rfl
  | cons n ns ih =>
    rw [trainAll, ih]
    split <;> rfl

end

/-- The state as its RW fields come back from AON, before STANDBY is entered (05 R115). -/
def State.restored (s : State) : State :=
  { s.at (s.now + ms 3) with
    regs := Store.putAll resetWord s.regs s.supply.aonCopy, supply := { s.supply with memPower := true, aonCopy := [] },
    modes := { s.modes with waking := false, stopping := .none, draining := false } }

theorem exec_wakeDone_waking {s : State} (h : s.mode = .dormant ∧ s.modes.waking = true) :
    exec .wakeDone s = .next (trainAll allStations (s.restored.enter .standby)).latchInputs := by
  change (if _ then _ else _ : Result) = _
  rw [if_pos h]
  rfl

/-- With no safety input asserted none is latched (05 R115). -/
theorem State.latchInputs_calm {s : State} (hi : s.safety.interlock = false) (ho : s.safety.overtemp = false)
    (hd : s.pair.dboltIn = false) : s.latchInputs = s := by
  simp [State.latchInputs, hi, ho, hd]

/-! What latched causes refuse (05 R110). -/

/-- The checks behind those that pass decide. -/
theorem firstFail_append {as : List (Bool × Nat)} (h : firstFail as = none) (bs : List (Bool × Nat)) :
    firstFail (as ++ bs) = firstFail bs := by
  induction as with
  | nil => rfl
  | cons a as ih =>
    rw [firstFail] at h
    rw [List.cons_append, firstFail]
    split at h
    · exact absurd h (by simp)
    · next hf => rw [if_neg hf, ih h]

theorem noHalt_latched {s : State} (h : s.modes.haltMask ≠ 0) (cs : List (Bool × Nat)) :
    firstFail (noHalt s :: cs) = some St.HALT_LATCHED := by
  rw [noHalt, firstFail, if_pos (decide_eq_true h)]

theorem inModes_noHalt_latched {s : State} {ok : Mode → Bool} (hm : ok s.mode = true) (h : s.modes.haltMask ≠ 0)
    (cs : List (Bool × Nat)) : firstFail (inModes s ok :: noHalt s :: cs) = some St.HALT_LATCHED := by
  rw [inModes, firstFail, hm]
  exact noHalt_latched h cs

theorem noRise_latched {s : State} (h : s.modes.haltMask ≠ 0) : s.noRise = true := by
  rw [State.noRise, decide_eq_true h, Bool.true_or]

theorem State.mode_of_up {s : State} (h : s.up = true) : s.mode ≠ .dormant := by
  simp only [State.up, Bool.and_eq_true, bne_iff_ne, ne_eq] at h
  exact h.2

/-- Settles O53: HALT_LATCHED is the first of the checks that fails, and neither DORMANT nor waking writes the mask. -/
theorem haltRefuses : Obligations.HaltRefuses := by
  unfold Obligations.HaltRefuses
  refine ⟨?ready, ?service, ?driveStart, ?driveSpeed, ?move, ?home, ?groupMove, ?hvEnable, ?fuserEnable, ?loopClose, ?reset,
    ?dormant, ?wakes⟩
  case ready =>
    intro s p h hmask hwant
    have hcls : (if par p 0 1 = 5 then Class.service else .owner) = .owner := by simp [hwant]
    change command Op.SET_MODE (if par p 0 1 = 5 then Class.service else .owner) p _ _ s = _
    rw [hcls]
    refine command_failed h ?_
    have hmask' : (s.seen Op.SET_MODE .owner p).modes.haltMask ≠ 0 := by simpa using hmask
    simp only [State.setModeBad, hwant]
    split
    · exact noHalt_latched hmask' _
    · exact noHalt_latched hmask' _
  case service =>
    intro s p h hmask hwant hmode hdrain hstop
    have hcls : (if par p 0 1 = 5 then Class.service else .owner) = .service := by simp [hwant]
    change command Op.SET_MODE (if par p 0 1 = 5 then Class.service else .owner) p _ _ s = _
    rw [hcls]
    refine command_failed h ?_
    have hmask' : (s.seen Op.SET_MODE .service p).modes.haltMask ≠ 0 := by simpa using hmask
    simp only [State.setModeBad, hwant, State.serviceBad]
    split
    · exact noHalt_latched hmask' _
    · next hservice =>
      have hpass : s.mode = .ready ∨ s.mode = .standby := by
        rw [State.seen_mode] at hservice
        simpa [hservice, or_comm] using hmode
      have hcalm : (!(decide (s.mode = .ready) || decide (s.mode = .standby)) || s.modes.draining ||
          decide (s.modes.stopping ≠ .none)) = false := by
        rcases hpass with hm | hm <;> simp [hm, hdrain, hstop]
      have hpass' := hcalm
      simp only [← State.seen_mode s Op.SET_MODE .service p, ← State.seen_modes s Op.SET_MODE .service p] at hpass'
      rw [List.cons_append, firstFail, if_neg (by rw [hpass']; simp)]
      exact noHalt_latched hmask' _
  case driveStart | driveSpeed =>
    intro s p h hmask hmode
    exact command_failed h (inModes_noHalt_latched (by simp [hmode]) (by simpa using hmask) _)
  case move | home | groupMove =>
    intro s p h hmask hmode
    exact command_failed h (inModes_noHalt_latched (by simpa using hmode) (by simpa using hmask) _)
  case hvEnable =>
    intro s p h hmask hmode hon
    have hrise : (s.seen Op.HV_ENABLE .owner p).noRise = true := noRise_latched (by simpa using hmask)
    refine command_failed h ?_
    simp [firstFail, inModes, hon, hrise, hmode, State.mode_of_up h.1.1]
  case fuserEnable =>
    intro s p h hmask hon
    refine command_failed h ?_
    rw [firstFail, if_pos (by simpa [hon] using noRise_latched (by simpa using hmask))]
  case loopClose =>
    intro s p h hmask _
    exact command_failed h (noHalt_latched (by simpa using hmask) _)
  case reset =>
    intro s lowTicks hlow
    have hlong : ¬ lowTicks < us 1 := by
      have : us 1 ≤ us 10 := by decide
      omega
    refine ⟨{ s.cleared with pins := { s.pins with resetn := false } }, ?_, rfl⟩
    simp [exec, execResetnAssert, hlong, hlow]
  case dormant =>
    intro s p h hwant hrole ht hp hbad
    have hcls : (if par p 0 1 = 5 then Class.service else .owner) = .owner := by simp [hwant]
    refine ⟨State.setMode (s.asCmd Op.SET_MODE p) (s.accept Op.SET_MODE .owner p), ?_, ?_⟩
    · change command Op.SET_MODE (if par p 0 1 = 5 then Class.service else .owner) p _ _ s = _
      rw [hcls]
      refine command_run h ?_
      have hbad' : firstFail (s.seen Op.SET_MODE .owner p).dormantBad = none := by
        rw [State.seen_dormantBad, hbad]
      simp only [State.setModeBad, hwant]
      rw [firstFail_append hbad']
      simp [firstFail, noTarget, params, badParam, ht, hp]
    · have hrun : State.setMode (s.asCmd Op.SET_MODE p) (s.accept Op.SET_MODE .owner p) =
          State.toDormant (s.asCmd Op.SET_MODE p) (s.accept Op.SET_MODE .owner p) := by
        simp [State.setMode, hrole, State.asCmd, hwant]
      rw [hrun, State.toDormant, State.goDormant_mode, State.goDormant_haltMask]
      simp [State.overtake]
  case wakes =>
    intro s hi ho hd
    by_cases hw : s.mode = .dormant ∧ s.modes.waking = true
    · have hsafe : (trainAll allStations (s.restored.enter .standby)).safety = s.safety := by
        rw [trainAll_safety, State.safety_of_kept (State.enter_kept _ _), State.restored, State.at_safety]
      refine ⟨_, exec_wakeDone_waking hw, ?_⟩
      rw [State.latchInputs_calm (by rw [hsafe, hi]) (by rw [hsafe, ho])
        (by rw [trainAll_pair, State.enter_dboltIn, State.restored, State.at_pair, hd]), trainAll_modes,
        State.haltMask_of_kept (State.enter_kept _ _)]
      rfl
    · exact ⟨s, if_neg hw, rfl⟩

end Sys2Proof.Machine
end

section
/-! SUPPORT. The frame of reporting commands (03 R66, 04 R85-R88): a command whose meaning only posts keeps everything that taking a
packet does not write, whatever becomes of it at the arbiter. Settles O55. -/

set_option Elab.async false -- one thread for the whole file: a thread per theorem runs out of address space

namespace Sys2Proof.Machine

@[simp] theorem State.unjudged_keepWaiting (s : State) (op : Nat) (p : Packet) : (s.keepWaiting op p).unjudged = s.unjudged := by
  unfold State.keepWaiting
  split <;> rfl

/-- A packet that a SHADOW relays to its LEAD waits there. -/
theorem State.unjudged_relay (s : State) (op : Nat) (p : Packet) :
    (({ s with pairWork := { s.pairWork with relayed := s.pairWork.relayed ++ [p] } } : State).mirror (.relayPacket p op)).unjudged =
      s.unjudged := rfl

/-- The checks and the meaning of a packet write nothing but what taking and posting write, where the meaning does not. -/
theorem judge_unjudged {op : Nat} {cls : Class} {p : Packet} {checks : State → List (Bool × Nat)} {run : Cmd → State → State}
    (hrun : ∀ c u, (run c u).unjudged = u.unjudged) (s : State) : (judge op cls p checks run s).unjudged = s.unjudged := by
  have hrenew : ∀ u : State, (if cls = .observer then u else u.renew).unjudged = u.unjudged := by
    intro u
    split
    · rfl
    · exact u.unjudged_renew
  unfold judge
  dsimp only
  split
  · rw [hrun, State.unjudged_arbStep, hrenew]
  · split
    · split
      · exact s.unjudged_relay op p
      · rw [unjudged_complete, State.unjudged_arbStep]
    · split
      · rw [unjudged_complete, State.unjudged_arbStep]
      · split
        · rw [unjudged_complete, State.unjudged_arbStep, hrenew]
        · rw [hrun, State.unjudged_arbStep, hrenew]

/-- A packet before whose cycle no change of the key is due keeps what its meaning keeps. -/
theorem command_unjudged {op : Nat} {cls : Class} {p : Packet} {checks : State → List (Bool × Nat)} {run : Cmd → State → State}
    {s t : State} (hrun : ∀ c u, (run c u).unjudged = u.unjudged) (hq : s.keyQuiet p)
    (h : command op cls p checks run s = .next t) : t.unjudged = s.unjudged := by
  rw [command, whileUp] at h
  injection h with h
  rw [← h]
  split
  · split
    · exact s.unjudged_keepWaiting op p
    · rw [State.arbitrated_quiet op hq, judge_unjudged hrun, State.unjudged_taken]
  · rfl

theorem unjudged_deliverAudits (l : List AuditEntry) (s : State) : (deliverAudits l s).unjudged = s.unjudged := by
  induction l generalizing s with
  | nil => rfl
  | cons a l ih => rw [deliverAudits, ih, State.unjudged_of_unposted (s.unposted_deliver _ _ _)]

/-- Settles O55: the meaning of a reporting command is its completion, behind the audit entries that AUDIT_READ delivers. -/
theorem reportsFrame : Obligations.ReportsFrame := by
  unfold Obligations.ReportsFrame
  refine ⟨?nop, ?getInfo, ?getMode, ?getKey, ?keyTouch, ?sheetQuery, ?dmaStatus, ?motionStatus, ?loopStatus, ?supplyStatus,
    ?calStatus, ?memStatus, ?pairStatus, ?fuseRead, ?auditRead⟩
  case auditRead =>
    exact fun s t p hq h => command_unjudged (fun c u => (unjudged_complete c _ _ _).trans (unjudged_deliverAudits _ u)) hq h
  all_goals exact fun s t p hq h => command_unjudged (fun c u => unjudged_complete c _ _ u) hq h

/-- Settles O43: the front of the queue is what a step takes. -/
theorem stepRunsFront : Obligations.StepRunsFront := by
  intro c cs s h
  rw [step, h]

/-- Settles O44: the step of an empty queue is the state itself. -/
theorem emptyQueueIdles : Obligations.EmptyQueueIdles := by
  intro s h
  rw [step, h]

theorem getD_replicate_same {α : Type} (k : Nat) (a : α) (n : Nat) : (List.replicate k a).getD n a = a := by
  rw [List.getD_eq_getElem?_getD, List.getElem?_replicate]
  split <;> rfl

theorem maskBit_replicate {k n : Nat} (h : k < 8 * n) : maskBit (List.replicate n 0xFF) k = true := by
  have hbyte : (List.replicate n (0xFF : Byte)).getD (k / 8) 0 = 0xFF := by
    simp [List.getD_eq_getElem?_getD, Nat.div_lt_of_lt_mul h]
  have hbits : ∀ j < 8, bit ((0xFF : Byte)).toNat j = true := by decide
  rw [maskBit, hbyte]
  exact hbits _ (Nat.mod_lt k (by decide))

/-- Settles O45: every part of the state after RESETn, read by its own accessor. -/
theorem resetLeaves : Obligations.ResetLeaves := by
  unfold Obligations.ResetLeaves
  refine ⟨⟨rfl, rfl, rfl⟩, ⟨rfl, rfl⟩, ?masks, ⟨rfl, rfl, rfl⟩, ?sheets, fun _ => ⟨rfl, rfl⟩, ?queues, ?units, ⟨rfl, rfl, rfl, rfl⟩⟩
  case masks =>
    intro i hi
    have hfull : ∀ {k n : Nat}, k < 8 * n → maskBit (List.replicate n 0xFF) k = true := maskBit_replicate
    refine ⟨?_, ?_, ?_⟩
    · exact Bool.or_eq_true_iff.mpr (.inr (hfull (by omega)))
    · exact Bool.or_eq_true_iff.mpr (.inr (hfull (by omega)))
    · exact Bool.or_eq_true_iff.mpr (.inr (hfull (by omega)))
  case sheets => exact fun i => getD_replicate_same 24 none i
  case queues => decide +kernel
  case units =>
    intro n
    have hd : State.reset.drive n = .reset := getD_replicate_same 12 _ n
    have hl : State.reset.loop n = .reset := getD_replicate_same 24 _ n
    have hh : State.reset.hvCh n = .reset := getD_replicate_same 24 _ n
    have hz : State.reset.zone n = .reset := getD_replicate_same 4 _ n
    have ha : State.reset.axis n = .reset := getD_replicate_same 24 _ n
    rw [hd, hl, hh, hz, ha]
    exact ⟨rfl, rfl, rfl, rfl, rfl, rfl⟩

end Sys2Proof.Machine
end

section
/-! SUPPORT. The key and service access (04 R90-R99, 22 R451, R452): what the end of service access, a grant, a release and a lapse
leave of the key and of the credential. Settles O21 and O4. -/

set_option Elab.async false -- one thread for the whole file: a thread per theorem runs out of address space

namespace Sys2Proof.Machine

/-- A window with claims has a winner. -/
theorem exists_bestClaim {ks : List Claim} (h : ks ≠ []) : ∃ k, bestClaim ks = some k := by
  cases ks with
  | nil => exact absurd rfl h
  | cons x xs =>
    rw [bestClaim]
    split
    · exact ⟨x, rfl⟩
    · split
      · exact ⟨_, rfl⟩
      · exact ⟨x, rfl⟩

section
variable (s : State)

/-! The end of service access writes one bit of the key. -/

@[simp] theorem State.endStore_key (own status : Nat) : (s.endStore own status).key = s.key := by
  unfold State.endStore
  split
  · simp only [finish_key, State.auditStore, State.audit_key]
    split <;> rfl
  · rfl

@[simp] theorem State.stopStore_key (st : Nat) : (s.stopStore st).key = s.key := by
  unfold State.stopStore
  split
  · exact s.endStore_key st st
  · rfl

theorem stopStationService_key (ns : List Nat) : (stopStationService ns s).key = s.key := by
  induction ns generalizing s with
  | nil => rfl
  | cons n ns ih =>
    rw [stopStationService, ih]
    repeat' split
    all_goals rfl

@[simp] theorem State.endService_key (st : Nat) : (s.endService st).key = { s.key with service := false } := by
  unfold State.endService
  split
  · rw [finishWhere_key, stopStationService_key]
    split
    · exact State.stopStore_key _ st
    · rfl
  · next h =>
    rw [Bool.not_eq_true] at h
    rw [← h]

@[simp] theorem State.deliver_cred (e : Entry) (host mgmt : Bool) : (s.deliver e host mgmt).cred = s.cred :=
  State.of_unposted State.cred (fun _ => rfl) (s.unposted_deliver e host mgmt)

@[simp] theorem State.audit_cred (kind master inst slot status : Nat) (old new : List Byte) (oldEpoch newEpoch : Half) :
    (s.audit kind master inst slot status old new oldEpoch newEpoch).cred = s.cred := by
  unfold State.audit
  split
  · exact State.deliver_cred _ _ _ _
  · rfl

/-! A grant and a release. -/

@[simp] theorem State.passKey_lapsed (m kind about : Nat) : (s.passKey m kind about).key.lapsed = false := by
  simp [State.passKey, State.auditKey]

@[simp] theorem State.passKey_service (m kind about : Nat) : (s.passKey m kind about).key.service = false := by
  simp [State.passKey, State.auditKey]

@[simp] theorem State.passKey_windowOpen (m kind about : Nat) : (s.passKey m kind about).key.windowOpen = s.key.windowOpen := by
  simp [State.passKey, State.auditKey]

@[simp] theorem State.passKey_claims (m kind about : Nat) : (s.passKey m kind about).key.claims = s.key.claims := by
  simp [State.passKey, State.auditKey]

/-- A challenge is void once the key is granted (22 R452). -/
@[simp] theorem State.passKey_cred_live (m kind about : Nat) : (s.passKey m kind about).cred.live = false := by
  simp [State.passKey, State.auditKey]

@[simp] theorem State.releaseKey_key (about : Nat) :
    (s.releaseKey about).key = { s.key with holder := 3, lapsed := false, service := false } := by
  simp [State.releaseKey, State.auditKey]

/-! An answer to the challenge. -/

theorem Credential.fail_live (k : Credential) (now : Nat) : (k.fail now).live = k.live := by
  unfold Credential.fail
  dsimp only
  split <;> rfl

theorem State.failCredential_cred_live (c : Cmd) (h : s.cred.live = false) : (s.failCredential c).cred.live = false := by
  rw [State.failCredential, complete_cred, State.auditService, State.audit_cred]
  exact (Credential.fail_live _ _).trans h

theorem State.gainService_cred_live (master : Nat) (c : Cmd) (h : s.cred.live = false) :
    (complete c St.OK 0 (s.gainService master)).cred.live = false := by
  rw [complete_cred, State.gainService, State.raise_cred, State.auditService, State.audit_cred]
  exact h

/-- A lapse marks the key and drops service access; holder and epoch stay (04 R94). -/
theorem State.lapse_key : s.lapse.key = { s.key with lapsed := true, service := false } := by
  simp [State.lapse, State.auditKey]

end

/-- Settles O21: a window is settled by `State.settleClaims_key`, a lease lapses by `State.lapse_key`. -/
theorem keyTimersRun : Obligations.KeyTimersRun := by
  unfold Obligations.KeyTimersRun
  refine ⟨?window, ?oneClaim, ?lapse, ?expiry, ?lockout⟩
  case window =>
    intro s hup hw hks
    obtain ⟨k, hk⟩ := exists_bestClaim hks
    have hkey := State.settleClaims_key (s := s.at s.key.windowEnds) hk
    refine ⟨_, exec_claimWindowClose hup hw, ?_⟩
    rw [hkey]
    simp [State.granted]
  case oneClaim =>
    intro s k hup hw hks
    have hk : bestClaim (s.at s.key.windowEnds).key.claims = some k := by
      rw [State.at_key, hks]
      rfl
    exact ⟨_, exec_claimWindowClose hup hw, by rw [State.settleClaims_key hk, State.granted_holder]⟩
  case lapse =>
    intro s hup hh hl
    refine ⟨(s.at (s.key.renewed + s.lease)).lapse, ?_, ?_⟩
    · change whileUp s _ = _
      rw [whileUp_up _ hup, if_pos ⟨hh, hl⟩]
    · rw [State.lapse_key]
      exact ⟨rfl, rfl, rfl, rfl⟩
  case expiry =>
    intro s hup hlive
    change whileUp s _ = _
    rw [whileUp_up _ hup, if_pos hlive]
  case lockout =>
    intro s t hup hlock
    change execCredentialLockoutEnd s = _
    rw [execCredentialLockoutEnd, whileUp_up _ hup, hlock]

/-! The commands of the key. -/

section
variable {s : State} {p : Packet}

/-- A claim that joins an open window stands last, and none of its master's stays (04 R91, R92). -/
theorem State.joinClaim_key (s : State) (c : Cmd) (prio : Nat) : (s.joinClaim c prio).key =
    { s.key with claims := (s.key.claims.filter fun k => k.master ≠ c.p.master) ++ [⟨c.p.master, prio, c⟩] } := by
  unfold State.joinClaim
  rw [refuseClaims_key]
  rfl

/-- A claim of a key that is free or lapsed, which a window takes. -/
theorem State.claim_key {c : Cmd} {prio : Nat} (hother : s.key.holder ≠ c.p.master)
    (hfree : s.key.holder = 3 ∨ s.key.lapsed = true) (hwin : s.key.windowOpen = true ∨ s.imm Fld.KEY_CLAIM_WINDOW ≠ 0) :
    (s.claim c prio).key = { s.key with
      windowOpen := true,
      windowEnds := if s.key.windowOpen = true then s.key.windowEnds else s.now + ms (s.imm Fld.KEY_CLAIM_WINDOW)
      claims := (s.key.claims.filter fun k => k.master ≠ c.p.master) ++ [⟨c.p.master, prio, c⟩] } := by
  have hheld : ¬(s.key.holder ≠ 3 ∧ s.key.lapsed = false) := by
    rintro ⟨h3, hl⟩
    rcases hfree with h | h
    · exact h3 h
    · exact absurd (h.symm.trans hl) (by decide)
  unfold State.claim
  rw [if_neg hother, if_neg hheld]
  by_cases hw : s.key.windowOpen = true
  · rw [if_pos hw, State.joinClaim_key, if_pos hw, ← hw]
  · have hms : ms (s.imm Fld.KEY_CLAIM_WINDOW) ≠ 0 := by
      have := hwin.resolve_left hw
      simp only [ms]
      omega
    rw [if_neg hw, if_neg hw]
    dsimp only
    rw [if_neg hms, State.joinClaim_key]

theorem exec_handKey_taken (h : s.admits Op.HAND_KEY .owner p) (ht : p.target = 0xFFFF) (hp : onlyParams p [(0, 1)] = true)
    (hdest : (par p 0 1 < 3 ∨ par p 0 1 = 0xFF) ∧ par p 0 1 ≠ p.master)
    (hpeer : par p 0 1 = 2 → s.syncedLead = true ∧ s.on Fld.RELAY_EN = true) :
    exec (.handKey p) s = .next
      (let t := if par p 0 1 = 0xFF then (s.accept Op.HAND_KEY .owner p).releaseKey p.master
        else (s.accept Op.HAND_KEY .owner p).passKey (par p 0 1) Audit.KEY_HAND p.master
       complete (s.asCmd Op.HAND_KEY p) St.OK t.key.epoch.toNat t) := by
  obtain ⟨hrange, hself⟩ := hdest
  have hbad : (2 < par p 0 1 → par p 0 1 = 0xFF) ∧ par p 0 1 ≠ p.master := ⟨fun _ => by omega, hself⟩
  refine command_run h ?_
  by_cases h2 : par p 0 1 = 2
  · simp [noTarget, params, badParam, ht, hp, firstFail, hpeer h2]
    exact hbad
  · simp [noTarget, params, badParam, ht, hp, firstFail, h2]
    exact hbad

/-- The challenge that an answer is judged against is live, this master's, and of this epoch; its next part is awaited. -/
theorem exec_serviceResponse_taken (h : s.admits Op.SERVICE_RESPONSE .owner p) (ht : p.target = 0xFFFF)
    (hp : onlyParams p [(0, 1), (4, 44)] = true) (hpart : par p 0 1 ≤ 2) (hrest : par p 0 1 = 2 → par p 44 4 = 0) :
    exec (.serviceResponse p) s = .next
      (let t := s.accept Op.SERVICE_RESPONSE .owner p
       let c := s.asCmd Op.SERVICE_RESPONSE p
       let answer := t.cred.answer ++ slice p.params 4 44
       if !(s.cred.live && s.cred.master = p.master && s.cred.epoch = s.key.epoch && s.cred.nextPart = par p 0 1) then
         t.failCredential c
       else if par p 0 1 < 2 then complete c St.OK 0 { t with cred := { t.cred with nextPart := par p 0 1 + 1, answer := answer } }
       else
         let u := { t with cred := { t.cred with live := false, answer := [] } }
         if t.credentialGood answer then complete c St.OK 0 (u.gainService p.master) else u.failCredential c) := by
  have hchecks : firstFail [noTarget p, params p [(0, 1), (4, 44)],
      badParam (2 < par p 0 1 || (par p 0 1 = 2 && par p 44 4 ≠ 0))] = none := by
    simp [noTarget, params, badParam, ht, hp, firstFail, Nat.not_lt.2 hpart]
    exact hrest
  refine (command_run h hchecks).trans ?_
  simp

end

/-- Settles O4: each command runs on the accepted state, whose key and credential are the device's own. -/
theorem keyCommandsRun : Obligations.KeyCommandsRun := by
  unfold Obligations.KeyCommandsRun
  refine ⟨?claimHolder, ?claimHeld, ?claimJoins, ?handOver, ?handFree, ?touch, ?challenge, ?part, ?lastPart, ?badPart, ?serviceEnd⟩
  case claimHolder =>
    intro s p h ht hp hprio hown
    rw [exec_claimKey_taken h ht hp hprio, State.claim, if_pos (by simpa using hown)]
    simp
  case claimHeld =>
    intro s p h ht hp hprio hother h3 hl
    rw [exec_claimKey_taken h ht hp hprio, State.claim, if_neg (by simpa using hother), if_pos (by simpa using ⟨h3, hl⟩)]
  case claimJoins =>
    intro s p h ht hp hprio hother hfree hwin
    have hkey := State.claim_key (s := s.accept Op.CLAIM_KEY .observer p) (c := s.asCmd Op.CLAIM_KEY p) (prio := par p 0 1)
      (by simpa using hother) (by simpa using hfree) (by simpa using hwin)
    refine ⟨_, exec_claimKey_taken h ht hp hprio, ?_⟩
    rw [hkey]
    refine ⟨rfl, by simp, ?_, by simp, by simp⟩
    simp only [State.accept_key, State.seen_key_observer, State.asCmd_p]
    rfl
  case handOver =>
    intro s p h ht hp hdest hself hpeer
    refine ⟨_, exec_handKey_taken h ht hp ⟨.inl hdest, hself⟩ hpeer, ?_⟩
    simp [show par p 0 1 ≠ 0xFF by omega]
  case handFree =>
    intro s p h ht hp hdest hself
    refine ⟨_, exec_handKey_taken h ht hp ⟨.inr hdest, by rw [hdest]; exact hself.symm⟩ (by omega), ?_⟩
    simp [hdest]
  case touch =>
    intro s p h ht hp
    refine (command_run h (by simp [noTarget, params, ht, hp, firstFail])).trans ?_
    simp
  case challenge =>
    intro s p h hlock ht hp
    refine ⟨_, command_run h (by simp [noTarget, params, ht, hp, firstFail, hlock]), ?_⟩
    simp
  case part =>
    intro s p h ht hp hpart hlive hm he hn
    refine ⟨_, exec_serviceResponse_taken h ht hp (by omega) (by omega), ?_⟩
    simp [hlive, hm, he, hn, hpart]
  case lastPart =>
    intro s p h ht hp hpart hrest hlive hm he hn
    refine ⟨_, exec_serviceResponse_taken h ht hp (by omega) (fun _ => hrest), ?_, ?_⟩
    · rw [hlive, hm, he, hn, hpart]
      simp only [decide_true, Bool.and_self, Bool.not_true, Bool.false_eq_true, if_false, Nat.lt_irrefl]
      split
      · exact State.gainService_cred_live _ _ _ rfl
      · exact State.failCredential_cred_live _ _ rfl
    · simp [hlive, hm, he, hn, hpart]
  case badPart =>
    intro s p h ht hp hpart hrest hbad
    rw [exec_serviceResponse_taken h ht hp hpart hrest]
    have hwrong : (!(s.cred.live && s.cred.master = p.master && s.cred.epoch = s.key.epoch && s.cred.nextPart = par p 0 1)) =
        true := by
      rcases hbad with h | h | h | h <;> simp [h]
    dsimp only
    rw [if_pos hwrong]
  case serviceEnd =>
    intro s p h ht hp
    refine ⟨_, command_run h (by simp [noTarget, params, ht, hp, firstFail]), ?_⟩
    simp

end Sys2Proof.Machine
end

section
/-! SUPPORT. Rows that one test guards. Settles the rows of the tumblers, the station domains, the function resets, the stops and
WARMING (O18, O19, O20, O22, O23). -/

set_option Elab.async false -- one thread for the whole file: a thread per theorem runs out of address space

namespace Sys2Proof.Machine

/-- Settles O18: each clause is its row past its tests. -/
theorem tumblerRowsRun : Obligations.TumblerRowsRun := by
  unfold Obligations.TumblerRowsRun
  refine ⟨?land, ?timeout, ?switchTimeout, ?swap⟩
  case land =>
    intro s group inst tick hup hfree
    have hwait : ¬(isStationGroup group && (s.scan inst).state ≠ .off) = true := by
      rcases hfree with h | h <;> simp [h]
    change execTumblerLand group inst tick s = _
    rw [execTumblerLand, whileUp_up _ hup, if_neg hwait]
  case timeout =>
    intro s group inst a hup hr hg ha
    change execTumblerTimeout group inst s = _
    rw [execTumblerTimeout, whileLeads_up _ hup hr, if_neg hg, ha]
  case switchTimeout =>
    intro s inst c hup hr hc
    change execTumblerTimeout 0 inst s = _
    rw [execTumblerTimeout, whileLeads_up _ hup hr, if_pos rfl, hc]
  case swap =>
    intro s station hup hoff
    change execSegSwapLand station s = _
    rw [execSegSwapLand, whileUp_up _ hup, if_pos hoff]

/-- Settles O19: each clause is its row past its tests. -/
theorem domainRowsRun : Obligations.DomainRowsRun := by
  unfold Obligations.DomainRowsRun
  refine ⟨?off, ?expiry, ?on⟩
  case off =>
    intro s station hup hp hd
    change execStnDomainOff station s = _
    rw [execStnDomainOff, whileUp_up _ hup, hp, hd]
    rfl
  case expiry =>
    intro s station t hup hp
    change execPowerWaitExpiry station s = _
    rw [execPowerWaitExpiry, whileUp_up _ hup, hp]
  case on =>
    intro s station hup hon hp
    change execStnDomainOn station s = _
    rw [execStnDomainOn, whileUp_up _ hup, hon, hp]
    rfl

/-- A reset of a function that neither moves nor heats, of no station that is off, takes place in every mode. -/
theorem State.resetStep_plain {s : State} {f tick : Nat} (hup : s.up = true) (ho : s.offStation f = false)
    (hf : f ≠ Fn.MOTION ∧ f ≠ Fn.HV) (hr : s.inReset f = false) :
    s.resetStep f false tick = .next (((s.at tick).enterReset f).resetEffect f).watchHold := by
  rw [State.resetStep_taken hup ho (by simp [State.needsForce, hf]), State.beginReset_calm (s := s.at tick) hr (.inr hf)]

/-- The reset of a station begins at the station (05 R111). -/
theorem State.resetEffect_station (s : State) {n : Nat} (h : n < 5) :
    s.resetEffect (Fn.STATION + n) = s.beginStationReset n := by
  have hne : ∀ f < 3, ¬Fn.STATION + n = f := by
    simp only [Fn.STATION]
    omega
  rw [State.resetEffect, if_neg (hne _ (by decide)), if_neg (hne _ (by decide)), if_neg (hne _ (by decide)),
    if_pos (by simp only [Fn.STATION, Fn.MOTION]; omega), Nat.add_sub_cancel_left]

/-- Settles O20: each row begins the reset of its function (`State.beginReset_calm`, `State.beginReset_forced`). -/
theorem resetRowsRun : Obligations.ResetRowsRun := by
  unfold Obligations.ResetRowsRun
  refine ⟨?hostq, ?dma, ?decomp, ?loops, ?fuser, ?afe, ?nvstore, ?pairlink, ?station, ?motion, ?motionForced, ?hv, ?hvForced,
    ?done⟩
  case station =>
    intro s station tick hup hn hp hr
    have hf : Fn.STATION + station ≠ Fn.MOTION ∧ Fn.STATION + station ≠ Fn.HV := by
      simp only [Fn.STATION, Fn.MOTION, Fn.HV]
      omega
    refine (State.resetStep_plain hup (by simp [State.offStation, hp]) hf hr).trans ?_
    rw [State.resetEffect_station _ hn]
  case motion =>
    intro s force tick hup hr hm hn
    refine (State.resetStep_taken hup rfl hn).trans ?_
    rw [State.beginReset_calm (s := s.at tick) hr (.inl hm)]
  case hv =>
    intro s force tick hup hr hm hn
    refine (State.resetStep_taken hup rfl hn).trans ?_
    rw [State.beginReset_calm (s := s.at tick) hr (.inl hm)]
  case motionForced =>
    intro s force tick hup hr hm hforce
    refine (State.resetStep_taken hup rfl (by simp [State.needsForce, hforce])).trans ?_
    rw [State.beginReset_forced (s := s.at tick) hr hm (.inl rfl)]
  case hvForced =>
    intro s force tick hup hr hm hforce
    refine (State.resetStep_taken hup rfl (by simp [State.needsForce, hforce])).trans ?_
    rw [State.beginReset_forced (s := s.at tick) hr hm (.inr rfl)]
  case done =>
    intro s function hup hr
    change execFunctionResetDone function s = _
    rw [execFunctionResetDone, whileUp_up _ hup, if_pos hr]
    rfl
  all_goals exact fun s tick hup hr => State.resetStep_plain hup rfl (by decide) hr

/-- Settles O22: each clause is its row past its tests. -/
theorem stopRowsRun : Obligations.StopRowsRun := by
  unfold Obligations.StopRowsRun
  refine ⟨?orderly, ?orderlyRest, ?safeRest, ?safeMax⟩
  case orderly =>
    intro s tick hup hr hd hn hp
    change execOrderlyStop tick s = _
    rw [execOrderlyStop, whileLeads_up _ hup hr, if_pos ⟨hd, hn, hp⟩]
  case orderlyRest =>
    intro s tick hup hr ho hm
    change execOrderlyStopRest tick s = _
    rw [execOrderlyStopRest, whileLeads_up _ hup hr, if_pos ⟨ho, hm⟩]
  case safeRest =>
    intro s tick hup hst hm
    change execSafeStopRest tick s = _
    rw [execSafeStopRest, whileUp_up _ hup, if_pos ⟨hst, hm⟩]
  case safeMax =>
    intro s hup hst
    change execSafeStopMaxExpiry s = _
    rw [execSafeStopMaxExpiry, whileUp_up _ hup, if_pos hst]

/-- Settles O23: each clause is its row past its tests. -/
theorem warmRowsRun : Obligations.WarmRowsRun := by
  unfold Obligations.WarmRowsRun
  refine ⟨?step, ?settle, ?max, ?load, ?init, ?overlay⟩
  case step =>
    intro s step tick hup hm hn hs
    change execWarmingStepDone step tick s = _
    rw [execWarmingStepDone, whileUp_up _ hup, if_pos ⟨hm, hn, hs⟩]
  case settle =>
    intro s t hup hr hm hn hheld hall
    change execSettleHoldExpiry s = _
    rw [execSettleHoldExpiry, whileLeads_up _ hup hr, hheld]
    dsimp only
    rw [if_neg (by simp [hm, hn]), if_pos hall]
  case max =>
    intro s hup hr hm hn
    change execWarmMaxExpiry s = _
    rw [execWarmMaxExpiry, whileLeads_up _ hup hr, if_pos ⟨hm, hn⟩]
  case load =>
    intro s hup hm hn hl
    change execLoadDone s = _
    rw [execLoadDone, whileUp_up _ hup, if_pos ⟨hm, hn, hl⟩]
  case init =>
    intro s c hup hc
    refine ⟨_, by change execInitMemoryDone s = _; rw [execInitMemoryDone, whileUp_up _ hup, hc], ?_⟩
    simp
  case overlay =>
    intro s hup hm
    change execOverlayCopyDone s = _
    rw [execOverlayCopyDone, whileUp_up _ hup, if_pos hm]

end Sys2Proof.Machine
end

section
/-! SUPPORT. The rows of the boot, the supply and the gates of the sheets. The judgements of the bus write neither its readings nor
the telemetry (14 R308, 21 R428). Settles O24, O25 and O27. -/

set_option Elab.async false -- one thread for the whole file: a thread per theorem runs out of address space

namespace Sys2Proof.Machine

/-- Settles O24: each clause is its row past its tests. -/
theorem bootRowsRun : Obligations.BootRowsRun := by
  unfold Obligations.BootRowsRun
  refine ⟨?resetLow, ?resetHigh, ?boot, ?election, ?wake, ?wakeDone⟩
  case resetLow =>
    intro s lowTicks hlow
    have hlong : ¬lowTicks < us 1 := by
      have : us 1 ≤ us 10 := by decide
      omega
    simp [exec, execResetnAssert, hlong, hlow]
  case resetHigh =>
    intro s pairRole pairPresent hlow hon
    simp [exec, execResetnRelease, hlow, hon]
  case boot =>
    intro s hup hphase
    change execBootRun s = _
    rw [execBootRun, whileUp_up _ hup, if_neg (by omega)]
    simp only [Bool.and_eq_true, Bool.or_eq_true, decide_eq_true_eq]
  case election =>
    intro s hup hp hphase hr
    change execElectionTimeout s = _
    rw [execElectionTimeout, whileUp_up _ hup, hp, hphase, hr]
    rfl
  case wake =>
    intro s source hres hon hm
    simp [exec, execWake, hres, hon, hm]
  case wakeDone =>
    intro s hm hw
    exact exec_wakeDone_waking ⟨hm, hw⟩

section
variable (s : State)

/-- What a telemetry sample brings, the telemetry link, the time and the registers. -/
def State.readings (s : State) : Supply × Nat × Nat × Bool × Nat × List (Nat × Word) :=
  (s.supply, s.bus.vbus, s.bus.brkI, s.bus.linkUp, s.now, s.regs)

@[simp] theorem State.raise_readings (i inst slot : Nat) (data : List Byte) :
    (s.raise i inst slot data).readings = s.readings := by simp [State.readings]

@[simp] theorem State.setGate_readings (on : Bool) (vbus : Nat) : (s.setGate on vbus).readings = s.readings := by
  unfold State.setGate
  split <;> rfl

@[simp] theorem State.setNoRegen_readings : s.setNoRegen.readings = s.readings := by
  unfold State.setNoRegen
  split
  · rfl
  · rw [State.raise_readings]
    rfl

@[simp] theorem State.judgeRegen_readings : s.judgeRegen.readings = s.readings := by
  unfold State.judgeRegen
  split
  · exact s.setNoRegen_readings
  · split <;> rfl

theorem State.chopperFault_readings (kind : Nat) : (s.chopperFault kind).readings = s.readings := by
  unfold State.chopperFault
  split
  · rfl
  · rw [State.judgeRegen_readings, State.raise_readings]
    rfl

@[simp] theorem State.judgeChopper_readings : s.judgeChopper.readings = s.readings := by
  unfold State.judgeChopper
  dsimp only
  split
  · rfl
  · split
    · exact s.chopperFault_readings 1
    · split
      · exact s.chopperFault_readings 2
      · rfl

end

/-- A telemetry sample, taken and judged. -/
def State.judgedSample (s : State) (vin vbus brkI v5 : Nat) (temp : Int) (tick : Nat) : State :=
  State.judgeRegen (State.judgeChopper (State.chopperGate { s.at tick with
    supply := { s.supply with vin := vin, v5 := v5, temp := temp, vinHigh := 2440 < vin },
    bus := { s.bus with vbus := vbus, brkI := brkI } } vbus))

theorem State.judgedSample_readings (s : State) (vin vbus brkI v5 : Nat) (temp : Int) (tick : Nat) :
    (s.judgedSample vin vbus brkI v5 temp tick).readings =
      ({ s.supply with vin := vin, v5 := v5, temp := temp, vinHigh := 2440 < vin }, vbus, brkI, s.bus.linkUp, max s.now tick,
        s.regs) := by
  rw [State.judgedSample, State.judgeRegen_readings, State.judgeChopper_readings, State.chopperGate, State.setGate_readings]
  rfl

/-- Settles O25: each clause is its row past its tests. -/
theorem supplyRowsRun : Obligations.SupplyRowsRun := by
  unfold Obligations.SupplyRowsRun
  refine ⟨?rise, ?riseReset, ?warning, fun _ => rfl, ?recovery, ?sample, ?sampleDown, ?sampleReset, ?linkLost, ?linkUp,
    ?chopDetect⟩
  case rise | riseReset =>
    intro s vin hoff hv hres
    have hres' : s.cleared.pins.resetn = s.pins.resetn := rfl
    change execVinRise vin s = _
    rw [execVinRise, if_neg (by simp [hoff, hv])]
    simp [hres', hres]
  case warning =>
    intro s vin tick hup hw hl
    change execBrownoutWarning vin tick s = _
    rw [execBrownoutWarning, whileUp_up _ hup, if_neg (by simp [hw, hl])]
    dsimp only [State.at_supply]
  case recovery =>
    intro s vin hup hw hv
    change execBrownoutRecovery vin s = _
    rw [execBrownoutRecovery, whileUp_up _ hup, if_pos ⟨hw, hv⟩]
  case sample =>
    intro s vin vbus brkI v5 temp tick hup hres hl hv
    have hread := State.judgedSample_readings s vin vbus brkI v5 temp tick
    refine ⟨s.judgedSample vin vbus brkI v5 temp tick, ?_, ?_⟩
    · change execTelemetrySample vin vbus brkI v5 temp tick s = _
      rw [execTelemetrySample, hres, if_neg (by decide), whileUp_up _ hup, hl, if_neg (by decide)]
      refine congrArg _ (if_neg fun hov => ?_)
      have himm : (s.judgedSample vin vbus brkI v5 temp tick).imm Fld.OV2 = s.imm Fld.OV2 :=
        congrArg (fun r : Supply × Nat × Nat × Bool × Nat × List (Nat × Word) =>
          wordField (Store.get resetWord r.2.2.2.2.2 Fld.OV2.addr) Fld.OV2) hread
      have hhigh : 10 * (s.judgedSample vin vbus brkI v5 temp tick).imm Fld.OV2 ≤ vbus := hov.1
      omega
    · refine ⟨?_, ?_, ?_, congrArg (·.2.1) hread, congrArg (·.2.2.1) hread, congrArg (·.2.2.2.2.1) hread⟩
      · exact congrArg (·.1.vin) hread
      · exact congrArg (·.1.v5) hread
      · exact congrArg (·.1.temp) hread
  case chopDetect =>
    intro s hup
    change execChopDetectExpiry s = _
    rw [execChopDetectExpiry, whileUp_up _ hup]
  case sampleDown =>
    intro s vin vbus brkI v5 temp tick hup hres hl
    change execTelemetrySample vin vbus brkI v5 temp tick s = _
    rw [execTelemetrySample, hres, if_neg (by decide), whileUp_up _ hup, hl]
    rfl
  case sampleReset =>
    intro s vin vbus brkI v5 temp tick hres
    change execTelemetrySample vin vbus brkI v5 temp tick s = _
    rw [execTelemetrySample, hres]
    rfl
  case linkLost =>
    intro s tick hup hl
    refine ⟨_, by change execHvdieLinkLost tick s = _; rw [execHvdieLinkLost, whileUp_up _ hup, if_pos hl], ?_,
      State.halt_latched _ (by decide)⟩
    rw [State.halt_bus, State.raise_bus, State.bus_of_kept (zonesOff_kept _ _)]
    exact congrArg (·.2.2.2.1) (State.judgeRegen_readings _)
  case linkUp =>
    intro s tick hup hl
    change execHvdieLinkUp tick s = _
    rw [execHvdieLinkUp, whileUp_up _ hup, hl]
    rfl

theorem State.traceGate_syncedLead (s : State) (slot which : Nat) (pass : Bool) :
    (s.traceGate slot which pass).syncedLead = s.syncedLead :=
  State.of_unjudged State.syncedLead (fun _ => rfl) (State.unposted_traceRecord _ _ _ _)

/-- Settles O27: each clause is its row past its tests. -/
theorem gateRowsRun : Obligations.GateRowsRun := by
  unfold Obligations.GateRowsRun
  refine ⟨?picks, ?mirrors, ?pickFails, ?starves, ?hingeGate, ?hinge, ?regHold⟩
  case picks =>
    intro s slot tick hup hr hd hp hw hs
    change execPickGate slot tick s = _
    rw [execPickGate, whileLeads_up _ hup hr]
    simp [hd, hp, hw, State.pickGranted, State.traceGate_syncedLead, hs]
  case mirrors =>
    intro s slot tick hup hr hd hp hw hs
    refine ⟨_, ?_, rfl⟩
    change execPickGate slot tick s = _
    rw [execPickGate, whileLeads_up _ hup hr]
    simp [hd, hp, hw, State.pickGranted, State.traceGate_syncedLead, hs]
  case pickFails =>
    intro s slot tick hup hr hd hp
    change execPickGate slot tick s = _
    rw [execPickGate, whileLeads_up _ hup hr]
    simp [hd, hp]
  case starves =>
    intro s t slot hup hr ht hh hs
    refine ⟨_, by change execPickWaitMaxExpiry s = _; rw [execPickWaitMaxExpiry, whileLeads_up _ hup hr, ht, hh], ?_⟩
    simp [hs]
  case hingeGate =>
    intro s slot tick hup hr hd hp
    change execHingeGate slot tick s = _
    rw [execHingeGate, whileLeads_up _ hup hr]
    simp [hd, hp]
  case hinge =>
    intro s slot tick hup hr hready hstop hmsg
    change execHinge slot tick s = _
    rw [execHinge, whileLeads_up _ hup hr, if_pos ⟨hready, hstop⟩]
    exact congrArg _ (if_neg (by rw [Bool.not_eq_true]; exact hmsg))
  case regHold =>
    intro s slot sh hup hr hsh hreg hfail hready hpath
    change execRegHoldMaxExpiry slot s = _
    rw [execRegHoldMaxExpiry, whileLeads_up _ hup hr, hsh]
    exact congrArg _ (if_pos ⟨hreg, hfail, hready, hpath⟩)

end Sys2Proof.Machine
end

section
/-! SUPPORT. The rows of the paper path and of the scanners (16 R344-R353, 09 R184-R201). Settles O28 and O29. -/

set_option Elab.async false -- one thread for the whole file: a thread per theorem runs out of address space

namespace Sys2Proof.Machine

section
variable (s : State) (i : Nat) (f : Sheet → Sheet)

@[simp] theorem State.setOnPath_axis (n : Nat) : (s.setOnPath i f).axis n = s.axis n := by
  unfold State.setOnPath
  split <;> rfl

@[simp] theorem State.setOnPath_livOn (g : FieldRef) : (s.setOnPath i f).livOn g = s.livOn g := by
  unfold State.setOnPath
  split <;> rfl

end

/-- Turning a PLL on leaves the tracking of its station. -/
theorem State.turnPll_scan (s : State) (n m : Nat) : (s.turnPll n).scan m = s.scan m := by
  rw [State.turnPll, State.setPll, State.scan, State.setStation_station]
  split
  · rfl
  · rfl

theorem State.seesPulse_wide (s : State) {width : Nat} (h : 20 ≤ width) : s.seesPulse width = (true, s) := if_pos h

/-- Settles O28: each clause is its row past the guards that its hypotheses meet. -/
theorem pathRowsRun : Obligations.PathRowsRun := by
  unfold Obligations.PathRowsRun
  refine ⟨?leadService, ?lead, ?leadJam, ?trailService, ?trail, ?window, ?trailMax, ?step⟩
  case leadService =>
    intro s sensor tick hup hlow hm
    change execSensorLeadEdge sensor tick s = _
    rw [execSensorLeadEdge, whileUp_up _ hup, if_neg (by rw [hlow]; decide)]
    exact congrArg _ (if_pos hm)
  case lead =>
    intro s sensor tick i hup hlow hm ho
    change execSensorLeadEdge sensor tick s = _
    rw [execSensorLeadEdge, whileUp_up _ hup, if_neg (by rw [hlow]; decide)]
    refine congrArg _ ((if_neg hm).trans ?_)
    rw [ho]
  case leadJam =>
    intro s sensor tick hup hlow hm ho hw hp
    change execSensorLeadEdge sensor tick s = _
    rw [execSensorLeadEdge, whileUp_up _ hup, if_neg (by rw [hlow]; decide)]
    refine congrArg _ ((if_neg hm).trans ?_)
    rw [ho]
    exact (if_pos hw).trans (if_neg (by simp [hp]))
  case trailService =>
    intro s sensor tick hup hhigh hm
    change execSensorTrailEdge sensor tick s = _
    rw [execSensorTrailEdge, whileUp_up _ hup, if_neg (by rw [hhigh]; decide)]
    exact congrArg _ (if_pos hm)
  case trail =>
    intro s sensor tick i hup hhigh hm ho
    change execSensorTrailEdge sensor tick s = _
    rw [execSensorTrailEdge, whileUp_up _ hup, if_neg (by rw [hhigh]; decide)]
    refine congrArg _ ((if_neg hm).trans ?_)
    rw [ho]
  case window =>
    intro s slot sensor c sh k hup hsh hk hc hw hp hkw hl
    change execJamWindowClose slot sensor s = _
    rw [execJamWindowClose, whileUp_up _ hup, hsh, Option.bind_some, hk]
    simp [hc, hw, hp, hkw, hl]
  case trailMax =>
    intro s slot sensor t sh k hup hsh hk hl hw hkw ht hh
    change execTrailMaxExpiry slot sensor s = _
    rw [execTrailMaxExpiry, whileUp_up _ hup, hsh, Option.bind_some, hk]
    have hpast : (k.role ≠ 3 || sh.pastHinge) = true := by
      by_cases h3 : k.role = 3
      · simp [hh h3]
      · simp [h3]
    simp only [Option.map_some, hl, hw, hkw, ht, hpast]
    rfl
  case step =>
    intro s slot step sh x e hup hsh hx he hp hf hr hfirst hen hlt hq
    change execPathStepFire slot step s = _
    rw [execPathStepFire, whileUp_up _ hup, hsh, Option.bind_some, hx]
    simp only [Option.map_some, he]
    rw [if_neg (by simp [hp, hf, hr, hfirst]), if_neg (by simp [hen, hlt]), if_neg (by simp [hq])]

/-- Settles O29: each clause is its row past the guards that its hypotheses meet. -/
theorem scanRowsRun : Obligations.ScanRowsRun := by
  unfold Obligations.ScanRowsRun
  refine ⟨?edge, ?edgeOutside, ?spurious, ?missing, ?windowOpen, ?lineStart, ?scanEnd, ?predicted⟩
  case edge =>
    intro s station tick raw falling width hup hon hpol hw hsame hwin hpast
    refine ⟨_, ?_, rfl⟩
    change execBdEdge station tick raw falling width s = _
    rw [execBdEdge, whileUp_up _ hup]
    simp only [State.seesPulse_wide _ hw]
    rw [if_neg (by simp [hon, hpol]), if_neg (by simp [hsame]), if_neg (by simp [hwin, hpast])]
    rw [State.turnPll_scan, State.at_scan]
  case edgeOutside =>
    intro s station tick raw falling width hup hon hpol hw hsame hout
    change execBdEdge station tick raw falling width s = _
    rw [execBdEdge, whileUp_up _ hup]
    simp only [State.seesPulse_wide _ hw]
    rw [if_neg (by simp [hon, hpol]), if_neg (by simp [hsame]), if_pos (by rcases hout with h | h <;> simp [h])]
  case spurious =>
    intro s station raw hup hw hs
    change execSpuriousEdge station raw s = _
    rw [execSpuriousEdge, whileUp_up _ hup]
    exact congrArg _ (if_neg (by simp [hw, hs]))
  case missing =>
    intro s station hup hon hw
    refine ⟨_, ?_, rfl⟩
    change execMissingSweep station s = _
    rw [execMissingSweep, whileUp_up _ hup]
    exact congrArg _ (if_neg (by simp [hon, hw]))
  case windowOpen =>
    intro s station hup hon hw
    refine ⟨_, ?_, rfl⟩
    change execSyncWindowOpen station s = _
    rw [execSyncWindowOpen, whileUp_up _ hup]
    exact congrArg _ (if_neg (by simp [hon, hw]))
  case lineStart =>
    intro s station badWords hup hon
    change execLineStart station badWords s = _
    rw [execLineStart, whileUp_up _ hup, if_neg hon]
  case scanEnd =>
    intro s station badWords hup hon
    change execEndOfActiveScan station badWords s = _
    rw [execEndOfActiveScan, whileUp_up _ hup, if_neg hon]
  case predicted =>
    intro s station tick hup hp hoff hm hdown
    change execPredictedSweep station tick s = _
    rw [execPredictedSweep, whileUp_up _ hup, if_pos ⟨hp, hoff, hm, hdown⟩]

end Sys2Proof.Machine
end

section
/-! SUPPORT. The rows of the station clocks and of a speed-changing failover (10 R208-R219, 11 R239): what they leave of the run and of
the PLLs. Settles O30. -/

set_option Elab.async false -- one thread for the whole file: a thread per theorem runs out of address space

namespace Sys2Proof.Machine

theorem State.setStation_station_same (s : State) {n : Nat} (f : Station → Station) (h : n < s.stations.length) :
    (s.setStation n f).station n = f (s.station n) := by
  rw [State.setStation_station, if_pos ⟨rfl, h⟩]

theorem State.setPll_pll_same (s : State) {n : Nat} (f : Pll → Pll) (h : n < s.stations.length) :
    (s.setPll n f).pll n = f (s.pll n) := by
  rw [State.pll, State.setPll, s.setStation_station_same _ h]
  rfl

/-- A lock sequence begins: it neither surveys nor enables, and the PLL is not locked (10 R209). -/
theorem State.startLock_pll (s : State) {n : Nat} (h : n < s.stations.length) :
    ((s.startLock n).pll n).survey = (s.pll n).survey ∧ ((s.startLock n).pll n).enabled = (s.pll n).enabled ∧
      ((s.startLock n).pll n).locked = false := by
  rw [State.startLock, State.setPll_pll_same _ _ h]
  exact ⟨rfl, rfl, rfl⟩

theorem State.startLock_length (s : State) (n : Nat) : (s.startLock n).stations.length = s.stations.length := by
  rw [State.startLock, State.setPll, State.setStation_stations, List.length_modify]

section
variable (s : State)

/-! The run under a change of speed. -/

theorem takeRefs_run (t : RefTake) (ds : List Nat) : (takeRefs t ds s).run = s.run := by
  induction ds generalizing s with
  | nil => rfl
  | cons d ds ih =>
    rw [takeRefs]
    split
    · exact ih s
    · exact ih _

theorem acquireAnews_run (ns : List Nat) : (acquireAnews ns s).run = s.run := by
  induction ns generalizing s with
  | nil => rfl
  | cons n ns ih =>
    rw [acquireAnews, ih, State.acquireAnew]
    split
    · exact State.run_of_kept ((State.setScan_kept _ _ _).trans (s.trackOff_kept n))
    · rfl

theorem State.setPlans_kept (n : Nat) (f : Plans → Plans) : (s.setPlans n f).kept = s.kept := s.setStation_kept n fun _ => rfl

theorem slowPlans_run (n e : Nat) (ms : List Nat) : (slowPlans n e ms s).run = s.run := by
  induction ms generalizing s with
  | nil => rfl
  | cons m ms ih =>
    rw [slowPlans, ih]
    split
    · exact State.run_of_kept ((State.setPlans_kept _ _ _).trans (s.mirrorOn_kept _))
    · exact State.run_of_kept ((State.setPlans_kept _ _ _).trans (s.mirrorOn_kept _))

theorem polygonsTo_run (runN : Nat) (ns : List Nat) : (polygonsTo runN ns s).run = s.run := by
  induction ns generalizing s with
  | nil => rfl
  | cons n ns ih =>
    rw [polygonsTo, ih, State.driveMove]
    split <;> rfl

theorem reBase_run (ns : List Nat) : (reBase ns s).run = s.run := by
  induction ns generalizing s with
  | nil => rfl
  | cons n ns ih => exact ih _

theorem projectAll_run (is : List Nat) (prev : Option Nat) : (projectAll is prev s).run = s.run := by
  induction is generalizing s prev with
  | nil => rfl
  | cons i is ih =>
    rw [projectAll]
    split
    · exact ih s prev
    · exact ih _ _

theorem switchedAll_run (ns : List Nat) : (switchedAll ns s).run = s.run := by
  induction ns generalizing s with
  | nil => rfl
  | cons n ns ih =>
    rw [switchedAll, ih, State.planSwitched, State.raise_run]
    rfl

/-! The PLLs as a lock fails, and as a survey ends. -/

theorem State.map_stations_kept {f : Station → Station} (hf : ∀ st, (f st).pll.halted = st.pll.halted) :
    ({ s with stations := s.stations.map f } : State).kept = s.kept := by
  simp only [State.kept, List.map_map]
  rw [show (fun st : Station => st.pll.halted) ∘ f = fun st => st.pll.halted from funext hf]

@[simp] theorem runProfile_kept (q : Nat) (gs : List (Nat × Nat)) : (runProfile q gs s).kept = s.kept := by
  induction gs generalizing s with
  | nil =>
    rw [runProfile, finishWhere_kept]
    refine s.map_stations_kept fun st => ?_
    split <;> rfl
  | cons g gs ih =>
    rw [runProfile]
    split
    · exact ih _
    · rfl

@[simp] theorem State.endApply_kept (a : Apply) (st : Nat) : (s.endApply a st).kept = s.kept := by
  unfold State.endApply
  dsimp only
  split
  · rfl
  · split
    · rw [runProfile_kept]
      split <;> rfl
    · exact finish_kept _ _ _ _
  · exact finish_kept _ _ _ _

@[simp] theorem endApplies_kept (st : Nat) (l : List Apply) : (endApplies st l s).kept = s.kept := by
  induction l generalizing s with
  | nil => rfl
  | cons a l ih => rw [endApplies, ih, State.endApply_kept]

/-- What a survey writes are registers (10 R211). -/
theorem writeBands_stations (n : Nat) (ms : List (Nat × Nat)) (bs : List Nat) :
    (writeBands n ms bs s).stations = s.stations := by
  induction bs generalizing s with
  | nil => rfl
  | cons b bs ih => exact ih _

theorem writeBands_afe (n : Nat) (ms : List (Nat × Nat)) (bs : List Nat) : (writeBands n ms bs s).afe = s.afe := by
  induction bs generalizing s with
  | nil => rfl
  | cons b bs ih => exact ih _

end

/-- Settles O30: the rows of the PLL go through `State.startLock_pll`, those of the failover through the kept run. -/
theorem clockRowsRun : Obligations.ClockRowsRun := by
  unfold Obligations.ClockRowsRun
  refine ⟨?lock, ?unlock, ?relockMax, ?lockLate, ?survey, ?hold, ?resume⟩
  case lock =>
    intro s station vctl tick hup hl ht hb hd
    change execPllLock station vctl tick s = _
    rw [execPllLock, whileUp_up _ hup, if_pos (by simp [hl, ht, hb, hd])]
  case unlock =>
    intro s station phases count tick hup hf
    change execPllUnlock station phases count tick s = _
    rw [execPllUnlock, whileUp_up _ hup, if_pos hf]
  case relockMax =>
    intro s station hup hn hl hh
    refine ⟨_, by change execRelockMaxExpiry station s = _; rw [execRelockMaxExpiry, whileUp_up _ hup, if_pos hl], ?_⟩
    dsimp only
    generalize hu : endApplies St.LOCK_FAILED _ _ = u
    have hkept : u.kept = s.kept := by
      rw [← hu, endApplies_kept]
      rfl
    have hfirst : (!(u.pll station).halted) = true := by
      rw [State.pll_halted, State.halted_of_kept hkept, ← State.pll_halted, hh]
      rfl
    have hlen : station < u.stations.length := by rw [State.stations_length_of_kept hkept]; exact hn
    rw [if_pos hfirst]
    refine ⟨?_, State.halt_latched _ (by decide)⟩
    rw [State.halt_pll_halted, State.startLock, State.setPll_pll_same _ _ (by simpa [State.setPll] using hlen),
      State.setPll_pll_same _ _ hlen]
  case lockLate =>
    intro s station a hup hl ha
    change execRelockMaxExpiry station s = _
    rw [execRelockMaxExpiry, whileUp_up _ hup, if_neg (by simp [hl]), ha]
  case survey =>
    intro s station bands tick hup hn hs
    refine ⟨_, by change execBandSurveyDone station bands tick s = _; rw [execBandSurveyDone, whileUp_up _ hup, if_pos hs], ?_⟩
    dsimp only
    generalize hu : writeBands station bands _ _ = u
    have hlen : station < u.stations.length := by
      rw [← hu, writeBands_stations]
      exact hn
    have hafe : u.afe = s.afe := by
      rw [← hu, writeBands_afe]
      rfl
    have hend : ∀ (v : State) (st res : Cmd → Nat) (p : Cmd → Bool),
        ((finishWhere p st res v).calDone 0x10 station).stations = v.stations := by
      intro v st res p
      rw [State.calDone, State.raise_stations, finishWhere_stations]
    simp only [State.pll, State.station, hend, hafe]
    generalize hv : u.setPll station _ = v
    have hvlen : station < v.stations.length := by
      rw [← hv, State.setPll, State.setStation_stations, List.length_modify]
      exact hlen
    have hvpll : (v.pll station).survey = false ∧ (v.pll station).enabled = true := by
      rw [← hv, State.setPll_pll_same _ _ hlen]
      exact ⟨rfl, rfl⟩
    obtain ⟨hsurvey, henabled, hlocked⟩ := v.startLock_pll hvlen
    have hnew := (v.startLock station).setStation_station_same (fun st => { st with surveyTj := s.afe.tj })
      (by rw [State.startLock_length]; exact hvlen)
    simp only [State.station] at hnew
    rw [hnew]
    exact ⟨hsurvey.trans hvpll.1, henabled.trans hvpll.2, hlocked, rfl⟩
  case hold =>
    intro s tick hup hs hi
    refine ⟨_, by change execSpeedChangeHold tick s = _; rw [execSpeedChangeHold, whileUp_up _ hup, if_pos ⟨hs, hi⟩], ?_⟩
    rw [polygonsTo_run]
    split
    · rw [acquireAnews_run, takeRefs_run]
      exact ⟨rfl, rfl⟩
    · rw [slowPlans_run, acquireAnews_run, takeRefs_run]
      exact ⟨rfl, rfl⟩
  case resume =>
    intro s tick hup hs ht
    refine ⟨_, by change execSpeedChangeResume tick s = _; rw [execSpeedChangeResume, whileUp_up _ hup], ?_⟩
    dsimp only
    rw [if_pos ⟨hs, ht⟩, switchedAll_run, State.project, projectAll_run]
    have hrun : (reBase s.runStations (takeRefs .none mechanics (s.at tick))).run = s.run := by
      rw [reBase_run, takeRefs_run, State.at_run]
    exact ⟨congrArg Run.slowN hrun, rfl⟩

end Sys2Proof.Machine
end

section
/-! SUPPORT. The rows of the beam links and of the heads (13 R272-R283, 12 R256-R261): a message with a good CRC acts on the state in
which it is heard. Settles O31 and O32. -/

set_option Elab.async false -- one thread for the whole file: a thread per theorem runs out of address space

namespace Sys2Proof.Machine

section
variable (s : State) (n tick : Nat)

/-! Hearing a message notes its time in the link and nothing else of the station. -/

theorem State.heard_loopEnds (m : Nat) : ((s.heard n tick).link m).loopEnds = (s.link m).loopEnds := by
  rw [State.heard, State.setLink, State.link, State.setStation_station]
  split <;> rfl

theorem State.heard_scan (m : Nat) : (s.heard n tick).scan m = s.scan m := by
  rw [State.heard, State.setLink, State.scan, State.setStation_station]
  split <;> rfl

theorem State.heard_pipe (m : Nat) : (s.heard n tick).pipe m = s.pipe m := by
  rw [State.heard, State.setLink, State.pipe, State.setStation_station]
  split <;> rfl

theorem State.heard_length : (s.heard n tick).stations.length = s.stations.length := by
  rw [State.heard, State.setLink, State.setStation_stations, List.length_modify, State.at_stations]

end

theorem State.setPipe_pipe_same (s : State) {n : Nat} (f : Pipe → Pipe) (h : n < s.stations.length) :
    (s.setPipe n f).pipe n = f (s.pipe n) := by
  rw [State.pipe, State.setPipe, s.setStation_station_same _ h]
  rfl

/-- Settles O31: `receive_good` and `receive_bad` say what a message does, the rest are rows behind one test. -/
theorem linkRowsRun : Obligations.LinkRowsRun := by
  unfold Obligations.LinkRowsRun
  refine ⟨?t0End, ?stepTimeout, ?retry, ?hello, ?helloBad, ?ready, ?readyBad, ?retrain, ?retrainBad, ?fault, ?faultBad,
    ?result, ?resultBad, ?silent, ?align, ?loopEnd, ?loopTimeout⟩
  case t0End =>
    intro s station hup hr hst
    change execTrainingT0End station s = _
    rw [execTrainingT0End, whileLeads_up _ hup hr, if_pos hst]
  case stepTimeout =>
    intro s station d hup hd
    change execTrainingStepTimeout station s = _
    rw [execTrainingStepTimeout, whileUp_up _ hup, hd]
  case retry =>
    intro s station hup hst
    change execTrainingRetry station s = _
    rw [execTrainingRetry, whileUp_up _ hup, if_pos hst]
  case hello =>
    intro s station vendor model fw emitters caps tick hup hh hst
    change execHello station vendor model fw emitters caps _ tick s = _
    rw [execHello, receive_good hup hh rfl]
    simp only [State.heard_link_state, hst, decide_true, if_true]
    rfl
  case helloBad =>
    intro s station vendor model fw emitters caps crc tick hup hh hc
    change execHello station vendor model fw emitters caps crc tick s = _
    rw [execHello, receive_bad hup hh hc.symm]
  case ready =>
    intro s station tick hup hh hst
    change execReadyMsg station _ tick s = _
    rw [execReadyMsg, receive_good hup hh rfl, if_pos (by rw [State.heard_link_state, hst])]
    rfl
  case readyBad =>
    intro s station crc tick hup hh hc
    change execReadyMsg station crc tick s = _
    rw [execReadyMsg, receive_bad hup hh hc.symm]
  case retrain =>
    intro s station reason tick hup hh
    change execRetrain station reason _ tick s = _
    rw [execRetrain, receive_good hup hh rfl]
  case retrainBad =>
    intro s station reason crc tick hup hh hc
    change execRetrain station reason crc tick s = _
    rw [execRetrain, receive_bad hup hh hc.symm]
  case fault =>
    intro s station cause tick hup hh
    change execHeadFault station cause _ tick s = _
    rw [execHeadFault, receive_good hup hh rfl]
  case faultBad =>
    intro s station cause crc tick hup hh hc
    change execHeadFault station cause crc tick s = _
    rw [execHeadFault, receive_bad hup hh hc.symm]
  case result =>
    intro s station e0 e1 e2 e3 tick hup hh hst hend
    change execLoopResult station e0 e1 e2 e3 _ tick s = _
    rw [execLoopResult, receive_good hup hh rfl, if_pos ⟨by rw [State.heard_link_state, hst], by rw [State.heard_loopEnds, hend]⟩]
  case resultBad =>
    intro s station e0 e1 e2 e3 crc tick hup hh hc
    change execLoopResult station e0 e1 e2 e3 crc tick s = _
    rw [execLoopResult, receive_bad hup hh hc.symm]
  case silent =>
    intro s station tick hup hl
    change execRetTimeout station tick s = _
    rw [execRetTimeout, whileUp_up _ hup, if_pos hl]
  case align =>
    intro s station tick hup hl
    change execRetAlignLost station tick s = _
    rw [execRetAlignLost, whileUp_up _ hup, if_pos hl]
  case loopEnd =>
    intro s station hup hst hend
    change execLoopbackDurationEnd station s = _
    rw [execLoopbackDurationEnd, whileUp_up _ hup, if_pos ⟨hst, hend⟩]
  case loopTimeout =>
    intro s station hup hst hend
    change execLoopResultTimeout station s = _
    rw [execLoopResultTimeout, whileUp_up _ hup, if_pos ⟨hst, hend⟩]

/-- Settles O32: a message is taken by `receive_good`, the other rows stand behind one test each. -/
theorem headRowsRun : Obligations.HeadRowsRun := by
  unfold Obligations.HeadRowsRun
  refine ⟨?status, ?statusBad, ?apc, ?apcBad, ?fault, ?faultBad, ?segment, ?segmentBad, ?duty, ?cal, ?capture⟩
  case status =>
    intro s station temp flags seq tick hup hh
    change execStatusMsg station temp flags seq _ tick s = _
    rw [execStatusMsg, receive_good hup hh rfl]
  case statusBad =>
    intro s station temp flags seq crc tick hup hh hc
    change execStatusMsg station temp flags seq crc tick s = _
    rw [execStatusMsg, receive_bad hup hh hc.symm]
  case apc =>
    intro s station sweep emitter sample tick hup hh hn he hst hlt
    refine ⟨_, by
      change execApcSample station sweep emitter sample _ tick s = _
      rw [execApcSample, receive_good hup hh rfl, if_pos ⟨by rw [State.heard_link_state, hst], hlt⟩], ?_⟩
    dsimp only
    rw [State.heard_scan]
    generalize hu : State.setEmitter (s.heard station tick) station emitter _ = u
    have hemit : ((u.pipe station).emitters.getD emitter .reset).sample = sample % 4096 ∧
        ((u.pipe station).emitters.getD emitter .reset).fresh = true ∧
        ((u.pipe station).emitters.getD emitter .reset).smpSweep = sweepFrom (s.scan station).sweeps sweep 65536 := by
      rw [← hu, State.setEmitter, State.setPipe_pipe_same _ _ (by rw [State.heard_length]; exact hn), getD_modify,
        if_pos ⟨rfl, by rw [State.heard_pipe]; exact he⟩]
      exact ⟨rfl, rfl, rfl⟩
    have hlen : station < u.stations.length := by
      rw [← hu, State.setEmitter, State.setPipe, State.setStation_stations, List.length_modify, State.heard_length]
      exact hn
    split
    · rw [State.setPipe_pipe_same _ _ hlen]
      exact hemit
    · exact hemit
  case apcBad =>
    intro s station sweep emitter sample crc tick hup hh hc
    change execApcSample station sweep emitter sample crc tick s = _
    rw [execApcSample, receive_bad hup hh hc.symm]
  case fault =>
    intro s station emitter kind sweep tick hup hh hst hlt hk
    change execEmitterFault station emitter kind sweep _ tick s = _
    rw [execEmitterFault, receive_good hup hh rfl, if_pos ⟨by rw [State.heard_link_state, hst], hlt, hk⟩,
      State.heard_scan]
  case faultBad =>
    intro s station emitter kind sweep crc tick hup hh hc
    change execEmitterFault station emitter kind sweep crc tick s = _
    rw [execEmitterFault, receive_bad hup hh hc.symm]
  case segment =>
    intro s station sweep mask reason tick hup hh hst hr
    change execSegError station sweep mask reason _ tick s = _
    rw [execSegError, receive_good hup hh rfl, if_neg (by rw [State.heard_link_state, hst]; decide)]
    exact congrArg _ (if_pos (.inl hr))
  case segmentBad =>
    intro s station sweep mask reason crc tick hup hh hc
    change execSegError station sweep mask reason crc tick s = _
    rw [execSegError, receive_bad hup hh hc.symm]
  case duty =>
    intro s station head cycles tick hup hp
    change execDutySubwindowEnd station head cycles tick s = _
    rw [execDutySubwindowEnd, whileUp_up _ hup, if_pos hp]
  case cal =>
    intro s station hup hm hall
    change execHeadCalDone station s = _
    rw [execHeadCalDone, whileUp_up _ hup]
    exact congrArg _ (if_pos ⟨hm, hall⟩)
  case capture =>
    intro s station j hup hj
    change execCaptureDone station s = _
    rw [execCaptureDone, whileUp_up _ hup, hj]

end Sys2Proof.Machine
end

section
/-! SUPPORT. The rows of the band feed, the host's channels and the buffer memory (06 R126-R135, 08 R157-R170, 18 R373-R385). Settles
O33, O34 and O35. -/

set_option Elab.async false -- one thread for the whole file: a thread per theorem runs out of address space

namespace Sys2Proof.Machine

/-- The state in which the verdict of an engine is taken: it has let go of its band. -/
def State.verdictIn (s : State) (engine tick : Nat) : State :=
  (s.at tick).setEngine engine fun E => { E with job := none, redo := false }

theorem State.verdictIn_lineDots (s : State) (engine tick n : Nat) : (s.verdictIn engine tick).lineDots n = s.lineDots n := rfl

theorem State.traceEngine_lineDots (s : State) (engine step outcome i j n : Nat) :
    (s.traceEngine engine step outcome i j).lineDots n = s.lineDots n := by
  unfold State.traceEngine
  split
  · exact State.of_unjudged (fun t => t.lineDots n) (fun _ => rfl) (State.unposted_traceRecord _ _ _ _)
  · rfl

/-- The verdict of an engine on a band in its slot whose bytes are still there (07 R150). -/
theorem exec_engineVerdict_taken {s : State} {engine tick i j : Nat} {fault : Option Bool} {sh : Sheet} {b : Band}
    (hup : s.up = true) (hjob : (s.engine engine).job = some (i, j)) (hsh : s.sheet? i = some sh) (hb : s.band? i j = some b)
    (hbytes : (s.engine engine).redo = false ∨ b.block ≠ []) :
    exec (.engineVerdict engine fault tick) s = .next
      (let v := engineVerdict b (s.lineDots b.station) fault
       let u := (s.verdictIn engine tick).traceEngine engine 1 v.code i j
       match v with
       | .ok orig => u.decodedOk i j sh b orig (s.engine engine).redo
       | v => u.failedBlock engine i j v.code b ((readHeader b.block).dots ≠ s.lineDots b.station) (s.engine engine).redo) := by
  have hsh' : (s.verdictIn engine tick).sheet? i = some sh := hsh
  have hb' : (s.verdictIn engine tick).band? i j = some b := hb
  have hgone : ¬((s.engine engine).redo && decide (b.block = [])) = true := by
    rcases hbytes with h | h <;> simp [h]
  change execEngineVerdict engine fault tick s = _
  rw [execEngineVerdict, whileUp_up _ hup, hjob]
  dsimp only
  rw [← State.verdictIn, hsh', hb']
  dsimp only
  rw [if_neg hgone]
  simp only [State.traceEngine_lineDots, State.verdictIn_lineDots] <;> rfl

/-- Settles O33: each clause is its row past its tests, the verdict by `exec_engineVerdict_taken`. -/
theorem feedRowsRun : Obligations.FeedRowsRun := by
  unfold Obligations.FeedRowsRun
  refine ⟨?dispatch, ?timeout, ?good, ?failed, ?gone, ?request⟩
  case dispatch =>
    intro s tick hup hr hm hs hd hjob
    obtain ⟨⟨x, e⟩, hx⟩ := Option.isSome_iff_exists.1 hjob
    refine ⟨(s.at tick).dispatch x.1.1 x.1.2.1 x.1.2.2 e x.2, ?_, by rw [hx]; rfl⟩
    change execBlockDispatch tick s = _
    rw [execBlockDispatch, whileLeads_up _ hup hr, if_neg (by simp [hm, hs, hd]), hx]
  case timeout =>
    intro s engine i j hup hjob
    change execEngineTimeout engine s = _
    rw [execEngineTimeout, whileUp_up _ hup, hjob]
  case good =>
    intro s engine tick i j fault sh b orig hup hjob hsh hb hbytes hv
    rw [exec_engineVerdict_taken hup hjob hsh hb hbytes, hv]
    rfl
  case failed =>
    intro s engine tick i j fault sh b v hup hjob hsh hb hbytes hv hbad
    rw [exec_engineVerdict_taken hup hjob hsh hb hbytes, hv]
    rcases hbad with rfl | rfl <;> rfl
  case gone =>
    intro s engine tick i j fault sh b hup hjob hsh hb hredo hempty
    have hsh' : (s.verdictIn engine tick).sheet? i = some sh := hsh
    have hb' : (s.verdictIn engine tick).band? i j = some b := hb
    change execEngineVerdict engine fault tick s = _
    rw [execEngineVerdict, whileUp_up _ hup, hjob]
    dsimp only
    rw [← State.verdictIn, hsh', hb']
    dsimp only
    exact congrArg _ (if_pos (by simp [hredo, hempty]))
  case request =>
    intro s tick x xs b hup hr hx hb hroom
    change execDataRequestPost tick s = _
    rw [execDataRequestPost, whileLeads_up _ hup hr]
    dsimp only
    rw [hx]
    dsimp only
    rw [hb]
    dsimp only
    rw [if_pos ⟨hr, hroom⟩]
    cases b.again <;> rfl

theorem State.dmaHeld_of_runs {s : State} (h : s.dmaRuns = true) : s.dmaHeld = false := by
  simp only [State.dmaRuns, Bool.and_eq_true, Bool.not_eq_true'] at h
  obtain ⟨⟨⟨⟨-, hstopped⟩, hdraining⟩, -⟩, -⟩ := h
  rw [State.dmaHeld, hstopped, hdraining]
  rfl

/-- Settles O34: each clause is its row past its tests. -/
theorem dmaRowsRun : Obligations.DmaRowsRun := by
  unfold Obligations.DmaRowsRun
  refine ⟨?fetch, ?fetchHeld, ?firstLine, ?landing, ?staged, ?stagingDone, ?scratchDone, ?readDone, ?error, ?readError,
    ?writeError, ?timeout, ?restart⟩
  case fetch =>
    intro s channel raw l ls hup hheld hl hruns hcur
    change execDescriptorFetch channel raw s = _
    rw [execDescriptorFetch, whileUp_up _ hup, if_neg (by simp [hheld]), hl]
    exact congrArg _ (if_pos (by simp [hruns, hcur]))
  case fetchHeld =>
    intro s channel raw hup hheld
    change execDescriptorFetch channel raw s = _
    rw [execDescriptorFetch, whileUp_up _ hup, if_pos hheld]
  case firstLine =>
    intro s channel line tick i j d sh b hup hruns hcur hreg hstale htarget hopen hsh hb hother hgood
    change execStagingFirstLine channel line tick s = _
    rw [execStagingFirstLine, whileUp_up _ hup, if_neg (by simp [State.dmaHeld_of_runs hruns]), hcur]
    dsimp only
    rw [if_neg (by simp [hreg, hstale, htarget, hruns]), hopen]
    dsimp only
    rw [hsh, hb]
    dsimp only
    rw [if_neg (by simp [hother]), if_pos hgood]
    rfl
  case landing =>
    intro s channel block tick l ls hup hl
    change execBandStaged channel block tick s = _
    rw [execBandStaged, whileUp_up _ hup, hl]
  case staged =>
    intro s channel block tick i j d hup hl hcur htarget hstaged
    change execBandStaged channel block tick s = _
    rw [execBandStaged, whileUp_up _ hup, hl, hcur]
    dsimp only
    rw [htarget]
    exact congrArg _ (if_neg (by simp [hstaged]))
  case stagingDone =>
    intro s channel data tick d hup hruns hcur hreg hends
    change execDescriptorDone channel data tick s = _
    rw [execDescriptorDone, whileUp_up _ hup, if_neg (by simp [State.dmaHeld_of_runs hruns]), hcur]
    dsimp only
    rw [if_neg (by simp [hruns]), if_pos hreg, if_pos]
    rcases hends with h | ⟨h, h' | h'⟩
    · simp [h]
    · simp [h, h']
    · simp [h, h']
  case scratchDone =>
    intro s channel data tick d hup hruns hcur hreg hdir
    exact exec_descriptorDone_scratch _ hup hruns hcur hreg hdir
  case readDone =>
    intro s channel data tick d hup hruns hcur hreg hdir
    change execDescriptorDone channel data tick s = _
    rw [execDescriptorDone, whileUp_up _ hup, if_neg (by simp [State.dmaHeld_of_runs hruns]), hcur]
    dsimp only
    rw [if_neg (by simp [hruns]), if_neg hreg, if_neg hdir]
  case error =>
    intro s channel write tick hup hc hheld
    have hstopped : s.dma.stopped = false := by
      simp only [State.dmaHeld, Bool.or_eq_false_iff] at hheld
      exact hheld.1
    change execDmaBusError channel write tick s = _
    rw [execDmaBusError, whileUp_up _ hup, if_pos hc, if_neg (by simp [hheld]), if_neg (by simp [hstopped])]
  case readError =>
    intro s channel write tick hup hc hheld hw
    change execDmaBusError channel write tick s = _
    rw [execDmaBusError, whileUp_up _ hup, if_pos hc, if_pos (by simp [hheld, hw])]
  case writeError =>
    intro s channel write tick hup hc hstopped hw
    change execDmaBusError channel write tick s = _
    rw [execDmaBusError, whileUp_up _ hup, if_pos hc, if_neg (by simp [hw]), if_pos hstopped]
  case timeout =>
    intro s channel hup hheld hl
    change execCompletionTimeout channel s = _
    rw [execCompletionTimeout, whileUp_up _ hup, if_neg (by simp [hheld, hl])]
  case restart =>
    intro s hup hstopped
    change execDmaChannelsRestart s = _
    rw [execDmaChannelsRestart, whileUp_up _ hup, if_neg (by simp [hstopped])]

/-- Settles O35: each clause is its row past its tests. -/
theorem memoryRowsRun : Obligations.MemoryRowsRun := by
  unfold Obligations.MemoryRowsRun
  refine ⟨?fails, ?intact, ?corrected, ?scrub⟩
  case fails =>
    intro s line data check reader tick hup hm hl hc hr
    refine ⟨_, by
      change execMemCheckFail line data check reader tick s = _
      rw [execMemCheckFail, whileUp_up _ hup, if_pos ⟨hm, hl, hc, hr⟩], ?_⟩
    cases reader <;> rfl
  case intact =>
    intro s line data check reader tick hup hc
    change execMemCheckFail line data check reader tick s = _
    rw [execMemCheckFail, whileUp_up _ hup, if_neg fun h => h.2.2.1 hc]
  case corrected =>
    intro s line tick hup
    change execLineCorrected line tick s = _
    rw [execLineCorrected, whileUp_up _ hup]
  case scrub =>
    intro s data check hup hm hs hp
    change execScrubStep data check s = _
    rw [execScrubStep, whileUp_up _ hup, if_pos (by simp [hm, hs, hp])]
    rfl

end Sys2Proof.Machine
end

section
/-! SUPPORT. The rows of the drives, the axes and the loops (14 R281-R306, 15 R317-R331, 16 R335-R343). Settles O36, O37 and O38. -/

set_option Elab.async false -- one thread for the whole file: a thread per theorem runs out of address space

namespace Sys2Proof.Machine

/-! The hand-over of a start (14 R292): the current loops of its period still turn by the angle of the open-loop start, not by the
observer's, which the statement names. -/

/-- A running device whose drive 0 is in its start, plausible for long enough, with a voltage standing in its d loop. -/
def handingOver : State :=
  let s := { State.reset with boot := { Boot.reset with phase := 5 }, bus := { Bus.reset with vbus := 1920 } }
  (s.setLiveReg (Fld.DRV_EN 0).addr (wordWith (s.liveReg (Fld.DRV_EN 0).addr) (Fld.DRV_EN 0) 1)).setDrive 0 fun D =>
    { D with state := .start, bridge := true, plausible := 64, sumD := 10 ^ 10 }

/-- Readings of a rotor at rest a quarter turn on. -/
def quarterTurn : DriveInput :=
  { ia := 0, ib := 0, ic := 0, angle := 16384, encAngle := 0, speed := 0, encSpeed := 0, emf := 0, resid := 0, accel := 0 }

/-- The duties that drive 0 is given for the next period. -/
def nextDuties : Result → List Nat
  | .next t => (t.drive 0).nextDuty
  | _ => []

theorem exec_drivePwmPeriod_handingOver :
    nextDuties (exec (.drivePwmPeriod 0 quarterTurn 0) handingOver) = [2578, 2422, 2422] := by decide +kernel

/-- Refutes O36: in the period in which the start hands over, the row turns the current loops by the angle of the start, taken before
the hand-over, and the statement by the observer's angle after it; with the rotor a quarter turn on, the duties differ. -/
theorem not_driveRowsRun : ¬Obligations.DriveRowsRun := by
  unfold Obligations.DriveRowsRun
  rintro ⟨hpwm, -⟩
  have hrow := hpwm handingOver 0 quarterTurn 0 (by decide +kernel) (by decide +kernel) (by decide +kernel)
    (by decide +kernel) (by decide +kernel)
  have hduties := congrArg nextDuties hrow
  rw [exec_drivePwmPeriod_handingOver] at hduties
  exact absurd hduties (by decide +kernel)

/-- Starting the moves of a group writes the axes. -/
theorem startMembers_groups (path acc jerk : Nat) (segs : List (Int × Int × Nat)) (hs : List (Nat × AxisMove)) (s : State) :
    (startMembers path acc jerk segs hs s).groups = s.groups := by
  induction hs generalizing s with
  | nil => rfl
  | cons h hs ih => rw [startMembers, ih]; rfl

/-- Settles O37: each clause is its row past its tests. -/
theorem axisRowsRun : Obligations.AxisRowsRun := by
  unfold Obligations.AxisRowsRun
  refine ⟨?pwm, ?current, ?moveEnd, ?groupStart, ?groupFast, ?stall, ?quadrature, ?index, ?reversal⟩
  case pwm =>
    intro s axis ia ib tick hup hlt hen hafe
    refine ⟨_, by
      change execAxisPwmPeriod axis ia ib tick s = _
      rw [execAxisPwmPeriod, whileUp_up _ hup], ?_⟩
    dsimp only
    rw [if_neg (by rw [hen, State.at_resets, hafe]; decide), State.setAxis_axis, if_pos ⟨rfl, hlt⟩]
    exact ⟨rfl, rfl, rfl, rfl, rfl⟩
  case current =>
    intro s axis tick hup hlt hen
    refine ⟨_, by
      change execAxisCurrentUpdate axis tick s = _
      rw [execAxisCurrentUpdate, whileUp_up _ hup], ?_⟩
    dsimp only
    rw [if_neg (by rw [hen]; decide), State.setAxis_axis, if_pos ⟨rfl, hlt⟩]
    exact ⟨rfl, rfl⟩
  case moveEnd =>
    intro s axis hup
    change execAxisMoveEnd axis s = _
    rw [execAxisMoveEnd, whileUp_up _ hup]
  case groupStart =>
    intro s group tick hup hlt hheads hpeak
    obtain ⟨hs, hhs⟩ := Option.isSome_iff_exists.1 hheads
    rw [hhs] at hpeak
    refine ⟨_, by
      change execGroupMoveStart group tick s = _
      rw [execGroupMoveStart, whileUp_up _ hup], ?_⟩
    dsimp only
    rw [hhs]
    dsimp only
    rw [if_neg (by
      rintro ⟨hpath, hover⟩
      rcases hpeak with h | h
      · exact absurd (h.symm.trans hover) (by decide)
      · exact hpath h), State.setGroup_group, if_pos ⟨rfl, by rw [startMembers_groups]; exact hlt⟩]
    exact ⟨rfl, rfl⟩
  case groupFast =>
    intro s group tick hup hheads hpeak hpath
    obtain ⟨hs, hhs⟩ := Option.isSome_iff_exists.1 hheads
    refine ⟨_, ?_, rfl⟩
    change execGroupMoveStart group tick s = _
    rw [execGroupMoveStart, whileUp_up _ hup]
    dsimp only
    rw [hhs]
    rw [hhs] at hpeak hpath
    exact congrArg _ (if_pos ⟨hpath, hpeak⟩)
  case stall =>
    intro s axis t hup ht
    change execStall axis s = _
    rw [execStall, whileUp_up _ hup, ht]
  case quadrature =>
    intro s encoder a b tick hup
    change execQuadratureEdge encoder a b tick s = _
    rw [execQuadratureEdge, whileUp_up _ hup]
    dsimp only [State.at_encoder, State.at_on, State.at_imm]
    cases quadStep (s.encoder encoder).a (s.encoder encoder).b a b <;> rfl
  case index =>
    intro s encoder tick hup
    change execEncIndexEdge encoder tick s = _
    rw [execEncIndexEdge, whileUp_up _ hup]
  case reversal =>
    intro s encoder tick hup hlt hr hback hm
    refine ⟨_, by
      change execEncReversal encoder tick s = _
      rw [execEncReversal, whileUp_up _ hup], ?_⟩
    dsimp only
    rw [if_neg (by simp [hr]; omega), if_neg (by rw [State.raise_mode]; exact hm)]
    have hmark := (s.at tick).setEncoder_encoder encoder (fun e =>
      { e with raised := true, reversals := satAdd 0xFF e.reversals 1 }) encoder
    rw [if_pos ⟨rfl, hlt⟩] at hmark
    simp only [State.encoder, State.raise_encoders] at hmark ⊢
    rw [hmark]
    exact ⟨rfl, rfl⟩

/-- Settles O38: a sample lands what waits, then goes by the state of the slot. -/
theorem loopRowsRun : Obligations.LoopRowsRun := by
  unfold Obligations.LoopRowsRun
  refine ⟨?closed, ?opens, ?off, ?rearm⟩
  case closed =>
    intro s slot tick hup hres hdue hst hon hclose
    change execLoopSample slot tick s = _
    rw [execLoopSample, whileUp_up _ hup]
    dsimp only
    rw [if_neg (by rw [hres, hdue]; decide), if_neg (by rw [hst]; decide), if_neg (by rw [hon]; simp), hclose]
    exact congrArg _ (if_neg (by rw [hst]; decide))
  case opens =>
    intro s slot tick hup hres hdue hst hon
    change execLoopSample slot tick s = _
    rw [execLoopSample, whileUp_up _ hup]
    dsimp only
    rw [if_neg (by rw [hres, hdue]; decide), if_neg (by rw [hst]; decide), if_pos ⟨hst, hon⟩]
  case off =>
    intro s slot tick hup hres hdue hst
    change execLoopSample slot tick s = _
    rw [execLoopSample, whileUp_up _ hup]
    dsimp only
    rw [if_neg (by rw [hres, hdue]; decide), if_pos hst]
  case rearm =>
    intro s r rs hup hr
    change execLoopRearmExpiry s = _
    rw [execLoopRearmExpiry, whileUp_up _ hup, hr]

end Sys2Proof.Machine
end

section
/-! SUPPORT. The rows of high voltage and the fuser, of the analogue front end and the store, and of the pair (17 R358-R375, 19, 20,
22). Settles O39, O40 and O42. -/

set_option Elab.async false -- one thread for the whole file: a thread per theorem runs out of address space

namespace Sys2Proof.Machine

/-- The end of an arc's pause leaves no pause. -/
theorem exec_arcOffExpiry_over (s : State) (n : Nat) (hup : s.up = true) (hp : (s.hvCh n).arcPause = true)
    (hn : n < s.hv.length) : ∃ t, exec (.arcOffExpiry n) s = .next t ∧ (t.hvCh n).arcPause = false := by
  refine ⟨_, by change execArcOffExpiry n s = _; rw [execArcOffExpiry, whileUp_up _ hup], ?_⟩
  dsimp only
  rw [if_neg (by simp [hp])]
  split
  · simp [State.setHv_hvCh, hn]
  · simp [State.rampAt, State.setHv_hvCh, hn]

/-- Settles O39: each clause is its row past its tests. -/
theorem hvFuserRowsRun : Obligations.HvFuserRowsRun := by
  unfold Obligations.HvFuserRowsRun
  refine ⟨fun s channel tick hup hen hafe hhv => ?_, fun s channel e i hup he hi hset harc => ?_,
    fun s channel e hup he hset hf => ?_, exec_arcOffExpiry_over, fun s tick hup hlo hhi => ?_, fun s hup hlost => ?_,
    fun s hup hlost hbusy => ?_, fun s zone t temp hup hfrom hrise => ?_, fun s zone t temp hup hfrom hrise => ?_⟩
  · refine ⟨_, by change execHvPwmPeriod channel tick s = _; rw [execHvPwmPeriod, whileUp_up _ hup], ?_⟩
    dsimp only
    rw [if_neg (by simp [hen, hafe, hhv])]
    simp only [Bool.and_eq_true, Bool.not_eq_true', State.at_hvCh]
    rfl
  · change execHvSettled channel s = _
    rw [execHvSettled, whileUp_up _ hup]
    dsimp only
    rw [he, hi]
    dsimp only
    rw [if_neg (by simp [hset, harc])]
  · change execHvSettleTimeout channel s = _
    rw [execHvSettleTimeout, whileUp_up _ hup, he]
    dsimp only
    rw [if_neg (by simp [hset, hf])]
  · change execZeroCrossing tick s = _
    rw [execZeroCrossing, whileUp_up _ hup]
    exact congrArg _ ((if_neg (Nat.not_lt.mpr hlo)).trans (if_neg (Nat.not_lt.mpr hhi)))
  · change execZcLost s = _
    rw [execZcLost, whileUp_up _ hup, if_neg (by simp [hlost])]
    rfl
  · change execHalfCycleTimer s = _
    rw [execHalfCycleTimer, whileUp_up _ hup, if_neg (by simp [hlost])]
    exact congrArg _ (if_neg (by simp [hbusy]))
  · change execFuserRiseCheck zone s = _
    rw [execFuserRiseCheck, whileUp_up _ hup, hfrom]
    dsimp only
    exact congrArg _ (if_neg (by simpa using hrise))
  · change execFuserRiseCheck zone s = _
    rw [execFuserRiseCheck, whileUp_up _ hup, hfrom]
    dsimp only
    exact congrArg _ (if_pos (by simpa using hrise))

/-- Settles O42: each clause is its row past its tests. -/
theorem pairRowsRun : Obligations.PairRowsRun := by
  unfold Obligations.PairRowsRun
  refine ⟨fun s b tick hup hl => ?_, fun s tick hup hl => ?_, fun s lockLost tick hup hp hq hpeer hlost hr => ?_,
    fun s t hup hf => ?_, fun s hup hm => ?_, fun s hup hs hr hsy hp => ?_, fun s hup hs hr hp hc => ?_, fun s hup hs => ?_,
    fun s tick hup hd => ?_, fun s => rfl, fun s tms tdi hon => ?_⟩
  · change execHeartbeat b tick s = _
    rw [execHeartbeat, whileUp_up _ hup, if_pos hl]
  · change execHeartbeatSend tick s = _
    rw [execHeartbeatSend, whileUp_up _ hup, if_pos hl]
  · change execPeerLost lockLost tick s = _
    rw [execPeerLost, whileUp_up _ hup]
    dsimp only
    have hmissed : (lockLost || (s.at tick).beatsMissed) = true := by simpa using hlost
    rw [if_neg, if_neg (by simp [setPair, hr])]
    · rfl
    · simp only [State.at_pair, State.at_pairWork, hp, hpeer, hmissed]
      revert hq
      cases s.pairWork.quiet with
      | none => simp
      | some t => simp
  · change execFenceWaitExpiry s = _
    rw [execFenceWaitExpiry, whileUp_up _ hup, hf]
    rfl
  · change execDigestSend s = _
    rw [execDigestSend, whileUp_up _ hup, if_pos hm]
  · change execPairSynced s = _
    rw [execPairSynced, whileUp_up _ hup, if_neg (by simp [hs]), if_neg (by simp [hr]), if_pos ⟨hr, hsy, hp⟩]
  · change execPairSynced s = _
    rw [execPairSynced, whileUp_up _ hup, if_neg (by simp [hs]), if_pos ⟨hr, hp, hc⟩]
  · change execSyncMaxExpiry s = _
    rw [execSyncMaxExpiry, whileUp_up _ hup, if_pos hs]
  · change execDeadboltAssert tick s = _
    rw [execDeadboltAssert, if_neg (by simp [hd]), if_pos hup]
  · change execTckEdge tms tdi s = _
    rw [execTckEdge, if_pos hon]

/-! What an AFE frame does beside counting: of the front end, the units that watch a reading write nothing, and slices and channels
are written without the counts of frames. -/

theorem State.latch_afe (s : State) (cause : Nat) : (s.latch cause).afe = s.afe := by
  unfold State.latch
  split <;> simp

@[simp] theorem State.halt_afe (s : State) (cause : Nat) : (s.halt cause).afe = s.afe :=
  (congrArg (·.2.2.2.2) (s.halt_stopKept cause)).trans (s.latch_afe cause)

@[simp] theorem State.watchHold_afe (s : State) : s.watchHold.afe = s.afe := State.afe_of_kept s.watchHold_kept

@[simp] theorem stampAll_afe (cause time : Nat) (is : List Nat) (s : State) : (stampAll cause time is s).afe = s.afe :=
  State.afe_of_kept (stampAll_kept s cause time is)

@[simp] theorem State.hvFails_afe (s : State) (n : Nat) : (s.hvFails n).afe = s.afe := by
  simp [State.hvFails, State.hvFault]

@[simp] theorem State.zoneFails_afe (s : State) (z : Nat) : (s.zoneFails z).afe = s.afe := by
  simp [State.zoneFails, State.zoneFault, State.zoneOff]

@[simp] theorem State.arc_afe (s : State) (n mon time : Nat) : (s.arc n mon time).afe = s.afe := by
  unfold State.arc
  dsimp only
  split <;> simp

theorem scanHv_afe (b : Nat) (ns : List Nat) (s : State) : (scanHv b ns s).afe = s.afe := by
  induction ns generalizing s with
  | nil => rfl
  | cons n ns ih =>
    rw [scanHv]
    split
    · exact ih s
    · rw [ih]
      split <;> simp

theorem scanTherms_afe (b : Nat) (ts : List Nat) (s : State) : (scanTherms b ts s).afe = s.afe := by
  induction ts generalizing s with
  | nil => rfl
  | cons t ts ih =>
    rw [scanTherms, ih]
    split
    · unfold State.scanTherm
      dsimp only
      split <;> rfl
    · rfl

theorem State.scanZone_afe (s : State) (z time : Nat) : (s.scanZone z time).afe = s.afe := by
  unfold State.scanZone
  dsimp only
  split
  · simp
  · split
    · split <;> simp
    · simp

theorem scanZones_afe (time : Nat) (zs : List Nat) (s : State) : (scanZones time zs s).afe = s.afe := by
  induction zs generalizing s with
  | nil => rfl
  | cons z zs ih => rw [scanZones, ih, State.scanZone_afe]

/-- The counts of the frames of the banks. -/
def State.frameCounts (s : State) : List Nat := s.afe.banks.map Bank.frames

theorem State.frameCounts_of_afe {s t : State} (h : t.afe = s.afe) : t.frameCounts = s.frameCounts :=
  congrArg (fun A : Afe => A.banks.map Bank.frames) h

theorem State.bank_frames (s : State) (n : Nat) : (s.bank n).frames = s.frameCounts.getD n Bank.reset.frames := by
  simp only [State.bank, State.frameCounts, List.getD_eq_getElem?_getD, List.getElem?_map]
  cases s.afe.banks[n]? <;> rfl

theorem State.setBank_frameCounts (s : State) (n : Nat) {f : Bank → Bank} (hf : ∀ B, (f B).frames = B.frames) :
    (s.setBank n f).frameCounts = s.frameCounts := by
  simp only [State.frameCounts, State.setBank, map_modify_same Bank.frames f hf]

@[simp] theorem State.setAfeChan_frameCounts (s : State) (n : Nat) (f : AfeChannel → AfeChannel) :
    (s.setAfeChan n f).frameCounts = s.frameCounts := rfl

theorem State.cycleOver_frameCounts (s : State) (b : Nat) : (s.cycleOver b).frameCounts = s.frameCounts :=
  State.frameCounts_of_afe (by simp [State.cycleOver])

theorem State.calDone_frameCounts (s : State) (what n : Nat) : (s.calDone what n).frameCounts = s.frameCounts :=
  State.frameCounts_of_afe (by simp [State.calDone])

theorem State.endCycle_frameCounts (s : State) (b : Nat) : (s.endCycle b).frameCounts = s.frameCounts := by
  rw [State.endCycle, State.cycleOver_frameCounts, State.calDone_frameCounts, State.setBank_frameCounts]
  exact fun _ => rfl

theorem calNext_frameCounts (b : Nat) (ws : List Nat) (s : State) : (calNext b ws s).frameCounts = s.frameCounts := by
  induction ws generalizing s with
  | nil => exact s.endCycle_frameCounts b
  | cons w ws ih =>
    unfold calNext
    dsimp only
    split
    · exact ih s
    · split
      · exact s.setBank_frameCounts b fun _ => rfl
      · split
        · exact s.setBank_frameCounts b fun _ => rfl
        · split
          · exact s.setBank_frameCounts b fun _ => rfl
          · exact ih s

theorem State.retireSlice_frameCounts (s : State) (b w cause : Nat) :
    (s.retireSlice b w cause).frameCounts = s.frameCounts := by
  refine (State.frameCounts_of_afe (State.raiseAt_afe _ _ _ _ _ _)).trans ?_
  rw [State.setBank_frameCounts, State.setBank_frameCounts]
  exact fun _ => rfl
  exact fun _ => rfl

theorem State.suspend_frameCounts (s : State) (b w : Nat) : (s.suspend b w).frameCounts = s.frameCounts := by
  unfold State.suspend
  dsimp only
  split
  · rw [calNext_frameCounts, State.setBank_frameCounts]
    · exact s.setBank_frameCounts b fun _ => rfl
    · exact fun _ => rfl
  · exact s.setBank_frameCounts b fun _ => rfl

theorem State.driftCheck_frameCounts (s : State) (b w : Nat) (d : Int) : (s.driftCheck b w d).frameCounts = s.frameCounts := by
  unfold State.driftCheck
  dsimp only
  split
  · split
    · rw [State.retireSlice_frameCounts, State.setBank_frameCounts]
      exact fun _ => rfl
    · rw [State.unsuspend, State.setBank_frameCounts, State.setBank_frameCounts]
      exact fun _ => rfl
      exact fun _ => rfl
  · split
    · rw [State.suspend_frameCounts, State.setBank_frameCounts]
      exact fun _ => rfl
    · rw [State.setBank_frameCounts]
      exact fun _ => rfl

theorem driftChecks_frameCounts (b : Nat) (ds : List (Nat × Int)) (s : State) :
    (driftChecks b ds s).frameCounts = s.frameCounts := by
  induction ds generalizing s with
  | nil => rfl
  | cons d ds ih =>
    rw [driftChecks, ih]
    split
    · exact s.driftCheck_frameCounts _ _ _
    · rfl

theorem State.publishOne_frameCounts (s : State) (b c slice raw : Nat) :
    (s.publishOne b c slice raw).frameCounts = s.frameCounts := by
  unfold State.publishOne
  dsimp only
  rw [State.setAfeChan_frameCounts, State.setBank_frameCounts]
  · split <;> rfl
  · exact fun _ => rfl

theorem publish_frameCounts (b : Nat) (rs : List (Nat × Nat × Nat)) (s : State) :
    (publish b rs s).frameCounts = s.frameCounts := by
  induction rs generalizing s with
  | nil => rfl
  | cons r rs ih =>
    rw [publish, ih]
    split
    · rfl
    · split
      · exact s.setBank_frameCounts b fun _ => rfl
      · exact s.publishOne_frameCounts _ _ _ _

theorem State.endSpan_frameCounts (s : State) (c : Cmd) (sum : Int) : (s.endSpan c sum).frameCounts = s.frameCounts := by
  unfold State.endSpan
  dsimp only
  rw [State.calDone_frameCounts, State.frameCounts_of_afe (finish_afe _ _ _ _), State.setAfeChan_frameCounts]
  split <;> rfl

theorem spans_frameCounts (b : Nat) (cs : List Cmd) (s : State) : (spans b cs s).frameCounts = s.frameCounts := by
  induction cs generalizing s with
  | nil => rfl
  | cons c cs ih =>
    rw [spans]
    split
    · dsimp only
      rw [ih]
      split
      · exact s.endSpan_frameCounts _ _
      · rfl
    · exact ih s

theorem setAfeChans_frameCounts (f : Nat × Nat → AfeChannel → AfeChannel) (l : List (Nat × Nat)) (s : State) :
    (l.foldl (fun s x => s.setAfeChan (x.1 / 2) (f x)) s).frameCounts = s.frameCounts := by
  induction l generalizing s with
  | nil => rfl
  | cons x l ih => rw [List.foldl_cons, ih, State.setAfeChan_frameCounts]

/-- The apply of an AFE channel group loads gains and offsets, and no more of the front end. -/
theorem State.landApply_frameCounts (s : State) (a : Apply) (h : a.group = Grp.AFEB_CHAN) :
    (s.landApply a).frameCounts = s.frameCounts := by
  unfold State.landApply
  dsimp only
  rw [if_neg (by simp [h, Grp.AFEB_CHAN, Grp.STN_LINE])]
  refine (State.frameCounts_of_afe (State.afe_of_kept (State.endApply_kept _ _ _))).trans ?_
  refine (State.frameCounts_of_afe (State.afe_of_kept (State.mirrorOn_kept _ _))).trans ?_
  rw [State.landed, h, Grp.AFEB_CHAN]
  exact setAfeChans_frameCounts (fun x C =>
    if x.1 % 2 = 0 then { C with gainLive := BitVec.ofNat 32 x.2, written := false }
    else { C with ofsLive := BitVec.ofNat 32 x.2, written := false }) _ _

theorem State.firstApply_group {s : State} {g n : Nat} {a : Apply} (h : s.firstApply g n = some a) : a.group = g := by
  have := List.find?_some h
  simp [Apply.is] at this
  exact this.1.1

theorem State.landGroup_frameCounts (s : State) (n : Nat) :
    (s.landGroup Grp.AFEB_CHAN n).frameCounts = s.frameCounts := by
  unfold State.landGroup
  cases ha : s.firstApply Grp.AFEB_CHAN n with
  | none => rfl
  | some a =>
    dsimp only
    split
    · rfl
    · exact s.landApply_frameCounts a (State.firstApply_group ha)

theorem State.startCycle_frameCounts (s : State) (b : Nat) : (s.startCycle b).frameCounts = s.frameCounts := by
  unfold State.startCycle
  dsimp only
  split
  · rfl
  · split
    · rw [State.cycleOver_frameCounts, State.setBank_frameCounts]
      · exact s.setBank_frameCounts b fun _ => rfl
      · exact fun _ => rfl
    · rw [calNext_frameCounts]
      exact s.setBank_frameCounts b fun _ => rfl

theorem State.scanTj_frameCounts (s : State) (tj : Int) : (s.scanTj tj).frameCounts = s.frameCounts := by
  unfold State.scanTj
  dsimp only
  split
  · rw [State.frameCounts_of_afe (State.raise_afe _ _ _ _ _)]
    rfl
  · rfl

/-- The count of a bank, one more. -/
theorem State.bank_frames_counted (s t : State) (b : Nat) {f : Bank → Bank} (hf : ∀ B, (f B).frames = (B.frames + 1) % 2 ^ 32)
    (hb : b < s.afe.banks.length) (h : t.frameCounts = (s.setBank b f).frameCounts) :
    (t.bank b).frames = ((s.bank b).frames + 1) % 2 ^ 32 := by
  rw [t.bank_frames, h, ← State.bank_frames, State.setBank_bank, if_pos ⟨rfl, hb⟩, hf]

/-- A frame counts one more of its bank (19). -/
theorem exec_afeFrameEnd_counts (s : State) (b : Nat) (raws : List (Nat × Nat × Nat)) (drifts : List (Nat × Int)) (tj : Int)
    (tick : Nat) (hup : s.up = true) (hb : b < s.afe.banks.length) (hr : s.inReset Fn.AFE = false) :
    ∃ t, exec (.afeFrameEnd b raws drifts tj tick) s = .next t ∧ (t.bank b).frames = ((s.bank b).frames + 1) % 2 ^ 32 := by
  refine ⟨_, by
    change execAfeFrameEnd b raws drifts tj tick s = _
    rw [execAfeFrameEnd, whileUp_up _ hup, if_neg (by simp [hr])], ?_⟩
  dsimp only
  have hstart : (if b = 2 then (s.at tick).scanTj tj else s.at tick).frameCounts = s.frameCounts := by
    split
    · exact (s.at tick).scanTj_frameCounts tj
    · rfl
  generalize (if b = 2 then (s.at tick).scanTj tj else s.at tick) = u at hstart ⊢
  have hlen : b < u.afe.banks.length := by
    have := congrArg List.length hstart
    simp only [State.frameCounts, List.length_map] at this
    omega
  have hframes : (u.bank b).frames = (s.bank b).frames := by rw [State.bank_frames, hstart, State.bank_frames]
  rw [← hframes]
  refine u.bank_frames_counted _ b (f := fun B => { B with
    frames := (B.frames + 1) % 2 ^ 32, scan := (raws.filter fun r => scanChannel r.1).length,
    timed := (raws.filter fun r => !scanChannel r.1).length }) (fun _ => rfl) hlen ?_
  have hzones (v : State) : (if b = 2 then scanZones v.now (List.range 4) v else v).frameCounts = v.frameCounts := by
    split
    · exact State.frameCounts_of_afe (scanZones_afe _ _ v)
    · rfl
  have hext (v : State) :
      (if b = 2 then { v with afe := { v.afe with thExt := v.on Fld.TH_EXT } } else v).frameCounts = v.frameCounts := by
    split <;> rfl
  rw [hext, State.startCycle_frameCounts, State.landGroup_frameCounts, spans_frameCounts, hzones,
    State.frameCounts_of_afe (scanTherms_afe _ _ _), State.frameCounts_of_afe (scanHv_afe _ _ _), publish_frameCounts,
    driftChecks_frameCounts]

/-- The limit that a calibrated slice breaks first, 0 for none (19). -/
def State.sliceCause (s : State) (c0 cBG check : Int) : Nat :=
  if 16 * s.imm Fld.OFS_LIMIT < c0.natAbs then 1
  else if 100 * s.imm Fld.GAIN_LIMIT < (nearest (1000000 * (16 * 8192 - (cBG - c0))) (cBG - c0)).natAbs then 2
  else if 16 * s.imm Fld.CHECK_TOL < check.natAbs then 3 else 0

theorem State.sliceCause_good {s : State} {c0 cBG check : Int} (hofs : c0.natAbs ≤ 16 * s.imm Fld.OFS_LIMIT)
    (hgain : (nearest (1000000 * (16 * 8192 - (cBG - c0))) (cBG - c0)).natAbs ≤ 100 * s.imm Fld.GAIN_LIMIT)
    (hcheck : check.natAbs ≤ 16 * s.imm Fld.CHECK_TOL) : s.sliceCause c0 cBG check = 0 := by
  rw [State.sliceCause, if_neg (by omega), if_neg (by omega), if_neg (by omega)]

theorem State.sliceCause_bad {s : State} {c0 cBG check : Int} (h : 16 * s.imm Fld.OFS_LIMIT < c0.natAbs ∨
      100 * s.imm Fld.GAIN_LIMIT < (nearest (1000000 * (16 * 8192 - (cBG - c0))) (cBG - c0)).natAbs ∨
      16 * s.imm Fld.CHECK_TOL < check.natAbs) :
    s.sliceCause c0 cBG check ≠ 0 ∧ s.sliceCause c0 cBG check = if 16 * s.imm Fld.OFS_LIMIT < c0.natAbs then 1
      else if 100 * s.imm Fld.GAIN_LIMIT < (nearest (1000000 * (16 * 8192 - (cBG - c0))) (cBG - c0)).natAbs then 2
      else 3 := by
  unfold State.sliceCause
  split
  · simp
  · split
    · simp
    · rw [if_pos (by omega)]
      simp

/-- Settles O40: a frame by `exec_afeFrameEnd_counts`, a slice by the limit it breaks first, the others past their tests. -/
theorem afeRowsRun : Obligations.AfeRowsRun := by
  unfold Obligations.AfeRowsRun
  refine ⟨exec_afeFrameEnd_counts, fun s bank c0 cBG check tick hup hw hr hofs hgain hcheck => ?_,
    fun s bank c0 cBG check tick hup hw hr hbad => ?_, fun s bank hup hp => ?_, fun s channel mean hup hr hz hasked => ?_,
    fun s kind r peer raws hup hst hk => ?_, fun s r peer raws hup hst => ?_, fun s kind r peer raws hup hst => ?_,
    fun s hup hm hlow hread => ?_⟩
  · refine ⟨_, by
      change execSliceCalDone bank c0 cBG check tick s = _
      rw [execSliceCalDone, whileUp_up _ hup], ?_⟩
    dsimp only
    rw [if_neg (by simp [hw, hr])]
    have hcause := State.sliceCause_good hofs hgain hcheck
    exact congrArg (fun u : State => calNext bank (u.bank bank).waiting u) (if_pos hcause)
  · refine ⟨_, by
      change execSliceCalDone bank c0 cBG check tick s = _
      rw [execSliceCalDone, whileUp_up _ hup], ?_⟩
    dsimp only
    rw [if_neg (by simp [hw, hr])]
    obtain ⟨hne, hcause⟩ := State.sliceCause_bad hbad
    refine congrArg (fun u : State => calNext bank (u.bank bank).waiting u) ((if_neg hne).trans ?_)
    exact congrArg _ hcause
  · change execCalPeriodExpiry bank s = _
    rw [execCalPeriodExpiry, whileUp_up _ hup, if_neg hp]
  · change execAutozero channel mean s = _
    rw [execAutozero, whileUp_up _ hup]
    dsimp only
    rw [if_neg (by rw [hasked]; simp [hr, hz]), if_pos hasked]
  · change execStoreDone 0 raws peer s = _
    rw [execStoreDone, whileUp_up _ hup, hst]
    dsimp only
    rw [if_neg (by simp), if_pos rfl, if_neg (fun h => hk h.1)]
    simp only [true_and]
  · change execStoreDone 0 raws peer s = _
    rw [execStoreDone, whileUp_up _ hup, hst]
    dsimp only
    rw [if_neg (by simp), if_pos rfl, if_pos ⟨rfl, rfl⟩]
    simp only [true_and]
  · change execStoreDone 1 raws peer s = _
    rw [execStoreDone, whileUp_up _ hup, hst]
    dsimp only
    have hok : ¬St.FLASH_ERROR = St.OK := by decide
    rw [if_neg (by simp), if_neg Nat.one_ne_zero, if_pos rfl, if_neg fun h => hok h.2, if_neg fun h => hok h.1]
  · change execAuditFlush s = _
    rw [execAuditFlush, whileUp_up _ hup, if_neg (by simp [hm, hlow, hread])]

end Sys2Proof.Machine
end

section
/-! SUPPORT. Doorbells, fetches, the frames of the management port and the writes of a single register (01 R14, 03, 24 R479). Settles
O15, O16 and O17. -/

set_option Elab.async false -- one thread for the whole file: a thread per theorem runs out of address space

namespace Sys2Proof.Machine

/-! A register by its place: block, index and offset decide the effect of a write. -/

/-- Block, index and offset of an address of BAR0. -/
def placeOf (a : Nat) : Option (Sys2Proof.Block × Nat × Nat) := (posOf a).map fun p => (p.block, p.inst, p.off)

theorem posOf_of_placeOf {a i o : Nat} {b : Sys2Proof.Block} (h : placeOf a = some (b, i, o)) : ∃ fs, posOf a = some ⟨b, i, o, fs⟩ := by
  rw [placeOf, Option.map_eq_some_iff] at h
  obtain ⟨⟨b', i', o', fs⟩, hq, hp⟩ := h
  cases hp
  exact ⟨fs, hq⟩

/-- What a write of `w` does to the register at a place. -/
def State.effectAt (s : State) (b : Sys2Proof.Block) (i o a w : Nat) : State := s.effect ⟨b, i, o, []⟩ a w

theorem State.effect_fields (s : State) (b : Sys2Proof.Block) (i o a w : Nat) (fs : List FieldDef) :
    s.effect ⟨b, i, o, fs⟩ a w = s.effectAt b i o a w := by
  unfold State.effectAt State.effect
  rfl

/-- A direct write by the holder of a word that the register takes. -/
theorem State.busWrite_placed {s : State} {m a i o : Nat} {b : Sys2Proof.Block} {w : Word} (hp : placeOf a = some (b, i, o))
    (ha : a % 4 = 0) (hl : a < 0x80000) (hk : s.key.holder = m) (hr : s.pair.role ≠ .shadow)
    (hw : s.acceptsWord a w = true) :
    s.busWrite m a 4 w = (s.effectAt b i o a w.toNat).mirrorOn (.config (.register a w)) := by
  obtain ⟨fs, hq⟩ := posOf_of_placeOf hp
  rw [State.busWrite_accepted hk hr ha hl hq hw, State.effect_fields]

/-- A register of a block stands at an address that a direct write reaches. -/
def placed (a : Nat) (b : Sys2Proof.Block) (i o : Nat) : Bool := a % 4 = 0 && a < 0x80000 && placeOf a = some (b, i, o)

theorem State.busWrite_of_placed {s : State} {m a i o : Nat} {b : Sys2Proof.Block} {w : Word} (h : placed a b i o = true)
    (hk : s.key.holder = m) (hr : s.pair.role ≠ .shadow) (hw : s.acceptsWord a w = true) :
    s.busWrite m a 4 w = (s.effectAt b i o a w.toNat).mirrorOn (.config (.register a w)) := by
  simp only [placed, Bool.and_eq_true, decide_eq_true_eq] at h
  obtain ⟨⟨ha, hl⟩, hp⟩ := h
  exact State.busWrite_placed hp ha hl hk hr hw

/-- The row of a direct write by the holder of a word that its register takes. -/
theorem row_of_placed {s : State} {m a i o : Nat} {b : Sys2Proof.Block} {w : Word} (hup : s.up = true)
    (h : placed a b i o = true) (hk : s.key.holder = m) (hr : s.pair.role ≠ .shadow) (hw : s.acceptsWord a w = true) :
    (whileUp s fun s => s.busWrite m a 4 w) = .next ((s.effectAt b i o a w.toNat).mirrorOn (.config (.register a w))) := by
  rw [whileUp_up _ hup, State.busWrite_of_placed h hk hr hw]

theorem queCtl_placed : ∀ q < 32, placed (Reg.QUE_CTL q) .que q 0x14 = true := by decide +kernel
theorem segCtl_placed : ∀ n < 5, placed (Reg.STN_SEG_CTL n) .stn n 0x300 = true := by decide +kernel
theorem segPhase_placed : ∀ n < 5, placed (Reg.STN_SEG_PHASE n) .stn n 0x308 = true := by decide +kernel
theorem dctData_placed : ∀ n < 5, placed (Reg.STN_DCT_DATA n) .stn n 0x310 = true := by decide +kernel
theorem emitFailLo_placed : ∀ n < 5, placed (Reg.STN_EMIT_FAIL_LO n) .stn n 0x330 = true := by decide +kernel
theorem emitFailHi_placed : ∀ n < 5, placed (Reg.STN_EMIT_FAIL_HI n) .stn n 0x334 = true := by decide +kernel
theorem emitMark_placed : ∀ n < 5, placed (Reg.STN_EMIT_MARK n) .stn n 0x338 = true := by decide +kernel
theorem pixRate_placed : ∀ n < 5, placed (Reg.STN_PIX_RATE n) .stn n 0x114 = true := by decide +kernel
theorem stnStatClr_placed : ∀ n < 5, placed (Reg.STN_STAT_CLR n) .stn n 0x67C = true := by decide +kernel
theorem coefData_placed : ∀ n < 24, placed (Reg.LOOP_COEF_DATA n) .loop n 0x1C = true := by decide +kernel
theorem capCtl_placed : ∀ n < 12, placed (Reg.DRV_CAP_CTL n) .drv n 0x1C = true := by decide +kernel
theorem drvStatClr_placed : ∀ n < 12, placed (Reg.DRV_STAT_CLR n) .drv n 0x7C = true := by decide +kernel

/-! The enable bit of a queue (03 R53). -/

/-- An apply that waits for a ring does not land while the queue runs. -/
theorem State.landGroup_ring_on {s : State} {q : Nat} (h : s.queueOn q = true) : s.landGroup Grp.QUE_RING q = s := by
  unfold State.landGroup
  cases ha : s.firstApply Grp.QUE_RING q with
  | none => rfl
  | some a =>
    have his := List.find?_some ha
    simp only [Apply.is, Bool.and_eq_true, decide_eq_true_eq] at his
    obtain ⟨⟨hg, hi⟩, -⟩ := his
    have hwaits : s.suitable a = false := by simp [State.suitable, hg, hi, h, Grp.QUE_RING]
    dsimp only
    rw [if_pos (by simp [hwaits])]

/-- Settles O15: doorbells by the `State.ring` laws, writes of QUEn_CTL by their place; an apply of a ring stays while the queue is on. -/
theorem queueRowsRun : Obligations.QueueRowsRun := by
  unfold Obligations.QueueRowsRun
  have hwrite (s : State) (m q : Nat) (w : Word) (hq : q < 32) (hk : s.key.holder = m) (hr : s.pair.role ≠ .shadow)
      (hw : s.acceptsWord (Reg.QUE_CTL q) w = true) : s.busWrite m (Reg.QUE_CTL q) 4 w
      = (s.writeCtl q w.toNat).mirrorOn (.config (.register (Reg.QUE_CTL q) w)) :=
    State.busWrite_of_placed (queCtl_placed q hq) hk hr hw
  refine ⟨fun s q v tick hup hon hty hv => ?_, fun s q v tick hup hon hsub hun hv => ?_, fun s q raws tick hup hf => ?_,
    fun s m q v hup hq hk hr hb hw => ?_, fun s m q v hup hq hk hr hon hb hw => ?_, fun s m q v hup hq hk hr hoff hb hw => ?_,
    fun s q t hup hold hirq hco => ?_, fun s q tick hup hon hty => ?_, fun s q tick hup hon hty => ?_,
    fun s m t tick hup => ?_, fun s m t tick hup => ?_, fun s line tick hup => ?_⟩
  · change execDoorbellTail q v tick s = _
    rw [execDoorbellTail, whileUp_up _ hup, State.ring_submission (s := s.at tick) hon hty]
    exact congrArg _ (if_pos hv)
  · change execDoorbellHead q v tick s = _
    rw [execDoorbellHead, whileUp_up _ hup, State.ring_written (s := s.at tick) hon hsub hun]
    exact congrArg _ (if_pos hv)
  · change execPacketFetch q raws tick s = _
    rw [execPacketFetch, whileUp_up _ hup, if_pos hf]
  · change execQueueEnable m q v s = _
    rw [execQueueEnable, whileUp_up _ hup, hwrite s m q v hq hk hr hw]
  · change execQueueDisable m q v s = _
    rw [execQueueDisable, whileUp_up _ hup, hwrite s m q v hq hk hr hw]
    dsimp only
    split
    · rfl
    · next hstill => rw [State.landGroup_ring_on (by simpa [hon] using hstill)]
  · change execQueueDisable m q v s = _
    rw [execQueueDisable, whileUp_up _ hup, hwrite s m q v hq hk hr hw]
    exact congrArg _ (if_neg (by simp [hoff]))
  · change execCoalTimeExpiry q s = _
    rw [execCoalTimeExpiry, whileUp_up _ hup, hold]
    dsimp only
    rw [if_pos (by simp [hirq, hco])]
    rfl
  · change execHostAccessError (.fetch q) tick s = _
    rw [execHostAccessError, whileUp_up _ hup]
    exact congrArg _ (if_pos (by simp [hon, hty]))
  · change execHostAccessError (.post q) tick s = _
    rw [execHostAccessError, whileUp_up _ hup]
    exact congrArg _ (if_pos (by simp [hon, hty]))
  · change execHostAccessError (.args m t) tick s = _
    rw [execHostAccessError, whileUp_up _ hup]
  · change execHostAccessError (.result m t) tick s = _
    rw [execHostAccessError, whileUp_up _ hup]
  · change execHostAccessError (.index line) tick s = _
    rw [execHostAccessError, whileUp_up _ hup]

/-- Settles O16: each frame goes its branch of the row. -/
theorem mgmtRowsRun : Obligations.MgmtRowsRun := by
  unfold Obligations.MgmtRowsRun
  refine ⟨fun s frame whole gapOk args tick hup hkind hgood => ?_, fun s frame whole gapOk args tick hup hkind hbad => ?_,
    fun s e hup he => ?_, fun s hup hnone => ?_, fun s hup => ?_, fun s frame hup hun => ?_⟩
  · change execMgmtSubmit frame whole gapOk args tick s = _
    rw [execMgmtSubmit, whileUp_up _ hup, if_neg (by simp [hkind])]
    exact congrArg _ (if_pos hgood)
  · change execMgmtSubmit frame whole gapOk args tick s = _
    rw [execMgmtSubmit, whileUp_up _ hup, if_neg (by simp [hkind])]
    exact congrArg _ (if_neg (by simp [hbad]))
  · change execMgmtFetch false true true s = _
    rw [execMgmtFetch, whileUp_up _ hup, if_neg (by decide)]
    simp [he]
  · change execMgmtFetch false true true s = _
    rw [execMgmtFetch, whileUp_up _ hup, if_neg (by decide)]
    simp [hnone]
  · change execMgmtFetch true true true s = _
    rw [execMgmtFetch, whileUp_up _ hup, if_neg (by decide)]
    dsimp only
    cases hlast : s.mgmt.last <;> simp
  · change execMgmtUnknownFrame frame s = _
    rw [execMgmtUnknownFrame, whileUp_up _ hup, if_pos hun]

/-- Settles O17: each row is a direct write at the place of its register (`row_of_placed`). -/
theorem registerWritesRun : Obligations.RegisterWritesRun := by
  unfold Obligations.RegisterWritesRun
  refine ⟨fun s m a tick w q hup hk hr ha hl hq hd => ?_, fun s m o size tick w hup => ?_,
    fun s m w tick hup hk hr hw => ?_, fun s m n w hup hn hk hr hw => ?_, fun s m n w hup hn hk hr hw => ?_,
    fun s m n w hup hn hk hr hw => ?_, fun s m n w hup hn hk hr hw => ?_, fun s m w hup hk hr hw => ?_,
    fun s m n w hup hn hk hr hw => ?_, fun s m n high w hup hn hk hr hw => ?_, fun s m n w hup hn hk hr hw => ?_,
    fun s m w hup hk hr hw => ?_, fun s m w hup hk hr hw => ?_, fun s m w hup hk hr hw => ?_,
    fun s m w hup hk hr hw => ?_, fun s m w pulse hup hk hr hv => ?_, fun s m w tick hup hk hr hw => ?_,
    fun s m w tick hup hk hr hw => ?_, fun s m n w hup hn hk hr hw => ?_, fun s m n w hup hn hk hr hw => ?_,
    fun s m n w hup hn hk hr hw => ?_, fun s m w hup hk hr hw => ?_, fun s m a a' hup ha => ?_⟩
  · change execRegisterWrite m a 4 w tick s = _
    rw [execRegisterWrite, whileUp_up _ hup, if_neg (by omega),
      State.busWrite_taken (s := s.at tick) hk hr ha hl hq hd]
  · change execRegisterWrite m (0x100000 + o) size w tick s = _
    rw [execRegisterWrite, whileUp_up _ hup, if_pos (by omega), Nat.add_sub_cancel_left]
  · change execTumblerApply m w tick s = _
    rw [execTumblerApply, whileUp_up _ hup]
    exact congrArg _ (State.busWrite_of_placed (b := .sys) (i := 0) (o := 0x054) (by decide +kernel) hk hr hw)
  · exact show execSegSwap m n w s = _ from row_of_placed hup (segCtl_placed n hn) hk hr hw
  · exact show execSegPhaseWrite m n w s = _ from row_of_placed hup (segPhase_placed n hn) hk hr hw
  · exact show execDctDataWrite m n w s = _ from row_of_placed hup (dctData_placed n hn) hk hr hw
  · change execCoefDataWrite m n w s = _
    rw [execCoefDataWrite, whileUp_up _ hup, State.busWrite_of_placed (coefData_placed n hn) hk hr hw]
    exact congrArg (fun v => (.next ((s.writeCoef n v).mirrorOn (.config (.register (Reg.LOOP_COEF_DATA n) w))) : Result))
      (BitVec.ofNat_toNat ..)
  · exact show execAfeChDataWrite m w s = _ from
      row_of_placed hup (b := .afe) (i := 0) (o := 0x0C) (by decide +kernel) hk hr hw
  · exact show execEmitMark m n w s = _ from row_of_placed hup (emitMark_placed n hn) hk hr hw
  · change execEmitFailClear m n high w s = _
    rw [execEmitFailClear, whileUp_up _ hup]
    cases high with
    | true => exact congrArg _ (State.busWrite_of_placed (emitFailHi_placed n hn) hk hr hw)
    | false => exact congrArg _ (State.busWrite_of_placed (emitFailLo_placed n hn) hk hr hw)
  · exact show execMagWrite m n w s = _ from row_of_placed hup (pixRate_placed n hn) hk hr hw
  · exact show execMasterStnWrite m w s = _ from
      row_of_placed hup (b := .sys) (i := 0) (o := 0x038) (by decide +kernel) hk hr hw
  · exact show execKeyCfgWrite m w s = _ from
      row_of_placed hup (b := .sys) (i := 0) (o := 0x040) (by decide +kernel) hk hr hw
  · exact show execBusCfgWrite m w s = _ from
      row_of_placed hup (b := .sys) (i := 0) (o := 0x0D0) (by decide +kernel) hk hr hw
  · exact show execPairCfgWrite m w s = _ from
      row_of_placed hup (b := .sys) (i := 0) (o := 0x100) (by decide +kernel) hk hr hw
  · subst hv
    change execChopperClear m 1 pulse s = _
    rw [execChopperClear, whileUp_up _ hup, if_neg]
    · rfl
    · rintro (hm | hs | hb)
      · exact hm hk
      · exact hr hs
      · exact absurd hb (by decide)
  · change execStnPowerDown m w tick s = _
    rw [execStnPowerDown, whileUp_up _ hup]
    exact congrArg _ (State.busWrite_of_placed (b := .sys) (i := 0) (o := 0x0E8) (by decide +kernel) hk hr hw)
  · change execStnPowerUp m w tick s = _
    rw [execStnPowerUp, whileUp_up _ hup]
    exact congrArg _ (State.busWrite_of_placed (b := .sys) (i := 0) (o := 0x0E8) (by decide +kernel) hk hr hw)
  · exact show execCapArm m n w s = _ from row_of_placed hup (capCtl_placed n hn) hk hr hw
  · exact show execStnStatClr m n w s = _ from row_of_placed hup (stnStatClr_placed n hn) hk hr hw
  · exact show execDrvStatClr m n w s = _ from row_of_placed hup (drvStatClr_placed n hn) hk hr hw
  · exact show execAfeStatClr m w s = _ from
      row_of_placed hup (b := .afe) (i := 0) (o := 0x24) (by decide +kernel) hk hr hw
  · change execLowWordRead m a s = _
    rw [execLowWordRead, whileUp_up _ hup, ha]

end Sys2Proof.Machine
end

section
/-! SUPPORT. The commands of the sheets, of the host DMA and of the configuration (02, 06, 01, 24). Settles O5, O6 and O7. -/

set_option Elab.async false -- one thread for the whole file: a thread per theorem runs out of address space

namespace Sys2Proof.Machine

/-- A command's checks pass together when each of them does. -/
theorem firstFail_eq_none {cs : List (Bool × Nat)} : firstFail cs = none ↔ ∀ c ∈ cs, c.1 = false := by
  induction cs with
  | nil => simp [firstFail]
  | cons c cs ih =>
    obtain ⟨bad, st⟩ := c
    cases bad <;> simp [firstFail, ih]

/-- A command that is admitted and passes each of its checks takes effect. -/
theorem command_runs {op : Nat} {cls : Class} {p : Packet} {checks : State → List (Bool × Nat)} {run : Cmd → State → State}
    {s : State} (h : s.admits op cls p) (hc : ∀ c ∈ checks (s.seen op cls p), c.1 = false) :
    command op cls p checks run s = .next (run (s.asCmd op p) (s.accept op cls p)) :=
  command_run h (firstFail_eq_none.mpr hc)

/-! When a check passes. -/

@[simp] theorem noTarget_fst (p : Packet) : (noTarget p).1 = false ↔ p.target = 0xFFFF := by simp [noTarget]

@[simp] theorem targetBelow_fst (p : Packet) (n : Nat) : (targetBelow p n).1 = false ↔ p.target < n := by simp [targetBelow]

@[simp] theorem noSlot_fst (p : Packet) : (noSlot p).1 = false ↔ p.target < 24 := targetBelow_fst p 24

@[simp] theorem noChannel_fst (p : Packet) : (noChannel p).1 = false ↔ p.target < 24 := targetBelow_fst p 24

@[simp] theorem params_fst (p : Packet) (runs : List (Nat × Nat)) : (params p runs).1 = false ↔ onlyParams p runs = true := by
  simp [params]

@[simp] theorem badParam_fst (bad : Bool) : (badParam bad).1 = bad := rfl

@[simp] theorem inModes_fst (s : State) (ok : Mode → Bool) : (inModes s ok).1 = false ↔ ok s.mode = true := by simp [inModes]

@[simp] theorem needInit_fst (s : State) : (needInit s).1 = false ↔ s.modes.memReady = true := by simp [needInit]

@[simp] theorem noHalt_fst (s : State) : (noHalt s).1 = false ↔ s.modes.haltMask = 0 := by simp [noHalt]

@[simp] theorem inMotionModes_fst (s : State) : (inMotionModes s).1 = false ↔ s.mode ≠ .standby := by simp [inMotionModes]

@[simp] theorem argsFailed_fst (p : Packet) (n : Nat) :
    (argsFailed p n).1 = false ↔ p.args.isSome = true ∧ n ≤ (argBytes p).length := by
  unfold argsFailed argBytes
  cases p.args <;> simp

@[simp] theorem stationOn_fst (s : State) (p : Packet) : (stationOn s p).1 = false ↔
    (p.target < 5 → (s.station p.target).powered = true ∧ (s.station p.target).pending = none) := by simp [stationOn]

@[simp] theorem badMask_fst (p : Packet) : (badMask p).1 = false ↔ par p 0 5 < 2 ^ 34 := by simp [badMask]

@[simp] theorem noDrive_fst (s : State) (p : Packet) :
    (noDrive s p).1 = false ↔ p.target < 12 ∧ s.livOn (Fld.DRV_EN p.target) = true := by simp [noDrive]

@[simp] theorem noAxis_fst (s : State) (p : Packet) :
    (noAxis s p).1 = false ↔ p.target < 24 ∧ s.livOn (Fld.AXS_EN p.target) = true := by simp [noAxis]

/-- Settles O6: `command_runs` past the checks of each command. -/
theorem sheetCommandsRun : Obligations.SheetCommandsRun := by
  unfold Obligations.SheetCommandsRun
  refine ⟨fun s p h hm hinit ht hp hr hfree hnew hst hidx hroom hfit => ?_, fun s p i sh h ht hp hi hlate hsh => ?_,
    fun s p h hm hrun ht hp hblank => ?_⟩
  · refine command_runs h ?_
    simp [*]
    grind
  · refine (command_runs h (by simp [*])).trans ?_
    have hkept (c : Cmd) : ((s.accept Op.SHEET_CANCEL .owner p).start c).sheet? i = some sh := by
      simpa [State.sheet?] using hsh
    simp [hi]
    rw [hkept]
  · refine command_runs h ?_
    simp [*]

/-- Settles O7: `command_runs` past the checks of each command. -/
theorem dmaCommandsRun : Obligations.DmaCommandsRun := by
  unfold Obligations.DmaCommandsRun
  refine ⟨fun s p h hinit hr hroom ht hp halign hlo hhi => ?_, fun s p h ht hp => ?_, fun s p h hinit ht hp => ?_⟩
  · refine command_runs h ?_
    simp [*]
    omega
  · exact command_runs h (by simp [*])
  · exact command_runs h (by simp [*])

/-- Settles O5: `command_runs` past the checks; APPLY judges its group again as it begins. -/
theorem configCommandsRun : Obligations.ConfigCommandsRun := by
  unfold Obligations.ConfigCommandsRun
  refine ⟨fun s p h he ht hlo hhi hp => ?_, fun s p h hc hp hok => ?_, fun s p h hc hp hbad => ?_,
    fun s p h hm hprof ht hp hi hread hgood => ?_⟩
  · refine command_runs h ?_
    simp [*]
    grind
  · refine (command_run h ((firstFail_append hc _).trans (by simp [params, hp, firstFail]))).trans ?_
    simp [State.beginApply, hok]
  · refine (command_run h ((firstFail_append hc _).trans (by simp [params, hp, firstFail]))).trans ?_
    simp [State.beginApply, hbad]
  · refine command_runs h ?_
    simp [*]

end Sys2Proof.Machine
end

section
/-! SUPPORT. The commands of the drives, the axes and the loops (14 R284-R291, 15 R322-R324, 16 R335-R342). Settles O8, O9 and O10. -/

set_option Elab.async false -- one thread for the whole file: a thread per theorem runs out of address space

namespace Sys2Proof.Machine

/-- Settles O8: `command_runs` past the checks of each command. -/
theorem driveCommandsRun : Obligations.DriveCommandsRun := by
  unfold Obligations.DriveCommandsRun
  refine ⟨fun s p h hm hh hfree ht hen hp hd => ?_, fun s p h hm hh hrun ht hen hp => ?_, fun s p h hm htrip ht hen hp => ?_⟩
  · exact command_runs h (by simp [*])
  · exact command_runs h (by simp [*])
  · exact command_runs h (by simp [*])

/-- The mode of the commands that move an axis is not STANDBY. -/
theorem not_standby_of_moving {m : Mode} (h : m = .ready ∨ m = .printing ∨ m = .warming ∨ m = .service) : m ≠ .standby := by
  rcases h with rfl | rfl | rfl | rfl <;> decide

/-- Settles O9: `command_runs` past the checks, then by the kind of target. -/
theorem axisCommandsRun : Obligations.AxisCommandsRun := by
  unfold Obligations.AxisCommandsRun
  refine ⟨fun s p h hm hh hbusy ht hen hp hk habs => ?_, fun s p h hm hh hbusy ht hen hp hsrc hdir => ?_,
    fun s p h hm hh hbusy ht hms hp hrest => ?_, fun s p h hk ht hen hp => ?_, fun s p h hk ht hms hp => ?_,
    fun s p h hk ht hen hp => ?_, fun s p h hk ht hen hp => ?_, fun s p h hk ht hms hp => ?_,
    fun s p h hk ht hen hp => ?_⟩
  · have hmode := not_standby_of_moving hm
    refine (command_runs h ?_).trans ?_
    · simp [hmode, hh, hbusy, ht, hen, hp, hk]
      exact habs
    · simp
  · have hmode := not_standby_of_moving hm
    refine (command_runs h (by simp [*])).trans ?_
    simp
  · have hmode := not_standby_of_moving hm
    have hunused : ∀ i < 6, (s.members p.target).length ≤ i → par p (4 + 4 * i) 4 = 0 := by
      intro i hi hlen
      have := List.all_eq_true.mp hrest i (List.mem_range.mpr hi)
      simp at this
      omega
    refine (command_runs h ?_).trans ?_
    · simp [hmode, hh, hbusy, ht, hms, hp]
      exact hunused
    · simp
  · refine (command_runs h (by simp [stopTarget, *])).trans ?_
    simp [hk]
  · refine (command_runs h (by simp [stopTarget, *])).trans ?_
    simp [hk]
  · refine (command_runs h (by simp [stopTarget, *])).trans ?_
    simp [hk]
  · refine (command_runs h (by simp [stopTarget, *])).trans ?_
    simp [hk]
  · refine (command_runs h (by simp [stopTarget, *])).trans ?_
    simp [hk]
  · refine (command_runs h (by simp [stopTarget, *])).trans ?_
    simp [hk]

/-- Settles O10: `command_runs` past the checks of each command. -/
theorem loopCommandsRun : Obligations.LoopCommandsRun := by
  unfold Obligations.LoopCommandsRun
  refine ⟨fun s p h hm ht hp halign hlen hargs himg => ?_, fun s p h hh hready ht hoff hp hi => ?_,
    fun s p h hm ht hp hi => ?_, fun s p h ht href hfeeds hst hp => ?_⟩
  · exact command_runs h (by simp [*])
  · exact command_runs h (by simp [*])
  · refine command_runs h ?_
    simp [ht, hp, hi]
    grind
  · exact command_runs h (by simp [*])

end Sys2Proof.Machine
end

section
/-! SUPPORT. The commands of high voltage and the fuser (17 R361-R371). Settles O11. -/

set_option Elab.async false -- one thread for the whole file: a thread per theorem runs out of address space

namespace Sys2Proof.Machine

/-- Settles O11: `command_runs` past the checks; what a setting moves leaves the channel and the zone that are looked at next. -/
theorem powerCommandsRun : Obligations.PowerCommandsRun := by
  unfold Obligations.PowerCommandsRun
  have hforce (s : State) (p : Packet) (f : FieldRef) (v w z : Nat) :
      (((s.accept Op.FUSER_SET .owner p).setImm f v).setInForce w = true ∧
        (((s.accept Op.FUSER_SET .owner p).setImm f v).zone z).enabled = true) =
      (s.setInForce w = true ∧ (s.zone z).enabled = true) := by
    simp [State.setInForce, State.zone]
  refine ⟨fun s p h hslot ht hp hfull hrate => ?_, fun s p h hon hb hd hsb hrise ht hp => ?_,
    fun s p h hon hb hd ht hp => ?_, fun s p h hd ht hp hw hlo hhi hoff => ?_, fun s p h hd ht hp hw hlo hhi hin hen => ?_,
    fun s p h ht hp hz hb => ?_, fun s p h ht hp hz hb hrise hslot => ?_⟩
  · refine (command_runs h (by simp [*]; omega)).trans ?_
    have hch : ((((s.accept Op.HV_SET .owner p).setImm (Fld.HV_SET p.target) (par p 0 2)).setImm (Fld.HV_RAMP p.target)
        (par p 2 2)).finishSets p.target St.ABORTED_HOST).hvCh p.target = s.hvCh p.target := by
      simp [State.finishSets, State.hvCh, State.setImm]
    simp only [hch, Bool.and_eq_true, Bool.not_eq_true']
  · refine (command_runs h (by simp [*])).trans ?_
    simp [hon]
  · refine (command_runs h (by simp [*])).trans ?_
    rw [if_neg (by simp [hon])]
    split <;> rfl
  · refine (command_runs h (by simp [*])).trans ?_
    refine congrArg _ (if_neg ?_)
    rw [Bool.and_eq_true, hforce]
    rintro ⟨hin, hen⟩
    rcases hoff with hoff | hoff
    · exact absurd (hin.symm.trans hoff) (by decide)
    · exact absurd (hen.symm.trans hoff) (by decide)
  · refine (command_runs h (by simp [*])).trans ?_
    refine congrArg _ ((if_pos ?_).trans ?_)
    · rw [Bool.and_eq_true, hforce]
      exact ⟨hin, hen⟩
    · simp only [State.accept_imm]
  · have hoff : bit (par p 1 1) 0 = false := by rw [hb]; decide
    refine (command_runs h (by simp only [hoff]; simp [*])).trans ?_
    exact congrArg _ (if_neg (by simp [hoff]))
  · have hon : bit (par p 1 1) 0 = true := by rw [hb]; decide
    refine (command_runs h (by simp only [hon]; simp [*])).trans ?_
    refine congrArg _ ((if_pos hon).trans ?_)
    simp only [List.isEmpty_iff]

end Sys2Proof.Machine
end

section
/-! SUPPORT. The commands of measurement and calibration (19, 10 R221, 12 R247, 13 R276, 03). Settles O12. -/

set_option Elab.async false -- one thread for the whole file: a thread per theorem runs out of address space

namespace Sys2Proof.Machine

/-- Settles O12: `command_runs` past the checks, then by the kind of calibration. -/
theorem serviceJobsRun : Obligations.ServiceJobsRun := by
  unfold Obligations.ServiceJobsRun
  refine ⟨fun s p h hk ht hp => ?_, fun s p h hk ht hz hp => ?_, fun s p h hk hm ht hp => ?_, fun s p h hk hm ht hp => ?_,
    fun s p h hm ht hpow hpend hsc hsv hp => ?_, fun s p h hm ht hpow hpend hsc hcal hp hmask => ?_,
    fun s p h hm ht hpow hpend hsc hst hcap hp hms => ?_,
    fun s p h hm hinit ht hpow hpend hcapt hp hwhat hlanes hlo hhi haddr hlen hps hid => ?_,
    fun s p i sh h hm hinit ht hpow hpend hcapt hp hwhat hlanes hlo hhi haddr hlen hps hid hi hsh hms => ?_⟩
  · refine (command_runs h ?_).trans ?_
    · simp [hk, hp]
      omega
    · exact congrArg _ (if_pos hk)
  · refine (command_runs h ?_).trans ?_
    · simp [hk, hp, ht, hz]
    · simp [hk]
  · refine (command_runs h ?_).trans ?_
    · simp [hk, hp, hm]
      omega
    · simp [hk]
  · refine (command_runs h ?_).trans ?_
    · simp [hk, hp, hm]
      omega
    · simp [hk]
  · exact command_runs h (by simp [*])
  · exact command_runs h (by simp [*]; omega)
  · exact (command_runs h (by simp [*])).trans (by simp)
  · refine (command_runs h ?_).trans (by simp)
    simp [*]
    refine ⟨or_assoc.mpr hm, hlo.ne', ?_⟩
    split <;> rfl
  · refine (command_runs h ?_).trans (by simp)
    simp [*]
    refine ⟨or_assoc.mpr hm, hlo.ne', ?_⟩
    cases hon : sh.on p.target with
    | none => rfl
    | some m => simpa [hon] using hms

end Sys2Proof.Machine
end

section
/-! SUPPORT. The commands of plans, trim and memory (11 R228-R231, 12 R246, 18, 05 R103). Settles O13. -/

set_option Elab.async false -- one thread for the whole file: a thread per theorem runs out of address space

namespace Sys2Proof.Machine

/-- Settles O13: `command_runs` past the checks, then by what the image, the slots or the masters are found to be. -/
theorem planTrimCommandsRun : Obligations.PlanTrimCommandsRun := by
  unfold Obligations.PlanTrimCommandsRun
  have hmodes {m : Mode} (h : m = .standby ∨ m = .ready ∨ m = .service) : trimModes m = true := by
    rcases h with rfl | rfl | rfl <;> decide
  refine ⟨fun s p h hm hinit ht hpow hpend hbusy hp hslot hsrc halign hargs hlen => ?_,
    fun s p h hm hinit ht hpow hpend hbusy hp hslot hsrc haddr hn himg => ?_,
    fun s p h hinit ht hpow hpend hw hp h0 h1 hgood hm => ?_, fun s p h hinit ht hpow hpend hw hp h0 h1 hgood hsb hsv => ?_,
    fun s p h hm hinit ht hpow hpend hp hmask hread => ?_,
    fun s p h hm hinit ht hp he hslot hlo hhi hargs hlen hcells hread => ?_, fun s p h hm hbusy ht hp hroom => ?_⟩
  · refine (command_runs h ?_).trans ?_
    · simp [*]
      exact fun h0 hne => (hm h0).resolve_left hne
    · refine congrArg _ ((if_neg (by simp [hsrc])).trans ?_)
      rw [if_pos hsrc]
      generalize (s.accept Op.PLAN_LOAD .owner p).loadPlan p.target _ _ _ = r
      obtain ⟨u, _ | ⟨reason, detail⟩⟩ := r <;> rfl
  · refine (command_runs h ?_).trans ?_
    · simp [*]
      exact fun h0 hne => (hm h0).resolve_left hne
    · refine congrArg _ ((if_neg (by simp [himg])).trans ?_)
      rw [if_neg (by simp [hsrc])]
      generalize (s.accept Op.PLAN_LOAD .owner p).loadPlan p.target _ _ _ = r
      obtain ⟨u, _ | ⟨reason, detail⟩⟩ := r <;> rfl
  · refine (command_runs h (by simp [*])).trans ?_
    simp [*]
  · refine (command_runs h (by simp [*])).trans ?_
    simp [*]
  · refine (command_runs h ?_).trans ?_
    · have hmode := hmodes hm
      simp [*]
      exact hmask
    · exact congrArg _ (if_neg (by simp [hread]))
  · refine ⟨_, command_runs h ?_, ?_⟩
    · have hmode := hmodes hm
      simp [*]
      exact ⟨hlo.ne', by simpa using hcells⟩
    · refine ⟨_, if_neg (by simp [hread]), ?_⟩
      dsimp only
      generalize (correctTrims p.target [par p 0 1] (s.accept Op.TRIM_WRITE .service p)).residentTrim p.target (par p 0 1) = u
      rw [State.of_unposted State.mem (fun _ => rfl) (State.unposted_mirrorOn _ _)]
      split <;> exact ⟨rfl, rfl⟩
  · refine (command_runs h ?_).trans ?_
    · simp [*]
    · simp

end Sys2Proof.Machine
end

section
/-! SUPPORT. The commands of the store, of the fuses and of the pair (22 R438-R450, 20 R413-R420). Settles O14. -/

set_option Elab.async false -- one thread for the whole file: a thread per theorem runs out of address space

namespace Sys2Proof.Machine

/-- The checks that every store makes before its own (22 R440). -/
theorem mem_storeChecks {s : State} {own : List (Bool × Nat)} (hm : storeModes s.mode = true) (hidle : s.nv.storing = none)
    (hlow : s.supplyLow = false) (hown : ∀ c ∈ own, c.1 = false) : ∀ c ∈ storeChecks s own, c.1 = false := by
  intro c hc
  simp only [storeChecks, List.cons_append, List.nil_append, List.mem_cons, List.mem_append, List.not_mem_nil, or_false] at hc
  rcases hc with rfl | rfl | hc | rfl
  · simpa using hm
  · simp [hidle]
  · exact hown c hc
  · exact hlow

/-- The checks of FUSE_WRITE: its code, the station of a lifetime counter, and the arguments of a key slot (22 R450). -/
theorem fuseWrite_checks {s : State} {p : Packet} (hm : s.mode = .service) (ht : p.target = 0xFFFF)
    (hp : onlyParams p ([(0, 2), (4, 4)] ++ if par p 0 1 = 5 then [(8, 8)] else []) = true) (hlo : 1 ≤ par p 0 1)
    (hhi : par p 0 1 ≤ 7) (hst : par p 0 1 = 3 ∧ par p 1 1 ≤ 4 ∨ par p 0 1 ≠ 3 ∧ par p 1 1 = 0)
    (hargs : par p 0 1 = 5 → p.args.isSome = true ∧ 32 ≤ (argBytes p).length) :
    ∀ c ∈ [inModes s fun m => m = .service, noTarget p, params p ([(0, 2), (4, 4)] ++ if par p 0 1 = 5 then [(8, 8)] else []),
      badParam (par p 0 1 < 1 || 7 < par p 0 1 || (if par p 0 1 = 3 then 4 < par p 1 1 else par p 1 1 ≠ 0)),
      (if par p 0 1 = 5 then argsFailed p 32 else (false, 0))], c.1 = false := by
  intro c hc
  simp only [List.mem_cons, List.not_mem_nil, or_false] at hc
  rcases hc with rfl | rfl | rfl | rfl | rfl
  · simp [hm]
  · simp [ht]
  · rw [params_fst, hp]
  · rw [badParam_fst]
    rcases hst with ⟨h3, hst⟩ | ⟨h3, hst⟩
    · simp [h3, hst]
    · simp only [h3, hst]
      simp
      omega
  · split
    · exact (argsFailed_fst p 32).mpr (hargs ‹_›)
    · rfl

/-- Whether FUSE_WRITE finds the value that the setting already has is not moved by its acceptance. -/
theorem fuseSame_accept (s : State) (p : Packet) (code station v : Nat) (hash : List Byte) :
    (if code = 5 then v = 0 ∧ hash = (s.accept Op.FUSE_WRITE .service p).keyHash
        (s.accept Op.FUSE_WRITE .service p).nv.keySlots.length
      else v = (s.accept Op.FUSE_WRITE .service p).fuseValue code station) =
    (if code = 5 then v = 0 ∧ hash = s.keyHash s.nv.keySlots.length else v = s.fuseValue code station) := by
  simp [State.keyHash]

/-- Settles O14: the stores pass `mem_storeChecks`, FUSE_WRITE passes `fuseWrite_checks`, and each goes its branch. -/
theorem storeCommandsRun : Obligations.StoreCommandsRun := by
  unfold Obligations.StoreCommandsRun
  refine ⟨fun s p h hm hidle hlow ht hp hw hread => ?_, fun s p h hm hidle hlow ht hp hread hinit hgood => ?_,
    fun s p h hm hidle hlow ht hp hmask hread hinit hgood => ?_, fun s p h hm hidle hlow ht hp hlen hargs hb hread => ?_,
    fun s p h hm hidle hlow ht hp hw hread => ?_, fun s p h hm hidle hlow ht hp hread => ?_,
    fun s p h hm hidle hlow ht hp hmask hread => ?_, fun s p h hm hidle hlow ht hp hlen hargs hb hread => ?_,
    fun s p h hm ht hp hlo hhi hst hargs hsame => ?_,
    fun s p h hm ht hp hlo hhi hst hargs hdiff hrange hver hslots hread => ?_, fun s p h hsh hsy ht hp => ?_,
    fun s p h hsy hm ht hp => ?_⟩
  · refine (command_runs h (mem_storeChecks (by simpa) (by simpa) (by simpa) ?_)).trans ?_
    · simp [ht, hp]
      omega
    · exact congrArg _ (if_neg (by simp [hread]))
  · refine (command_runs h (mem_storeChecks (by simpa) (by simpa) (by simpa) (by simp [ht, hp]))).trans ?_
    exact congrArg _ ((if_neg (by simp [hread])).trans (if_neg (by simp [hinit, hgood])))
  · refine (command_runs h (mem_storeChecks (by simpa) (by simpa) (by simpa) (by simp [ht, hp, hmask]))).trans ?_
    exact congrArg _ ((if_neg (by simp [hread])).trans (if_neg (by simp [hinit, hgood])))
  · refine (command_runs h (mem_storeChecks (by simpa) (by simpa) (by simpa) ?_)).trans ?_
    · simp [ht, hp, hargs, hb]
      omega
    · refine congrArg _ ((if_neg (by simp [hread])).trans ?_)
      simp only [Bool.not_eq_true']
  · refine (command_runs h (mem_storeChecks (by simpa) (by simpa) (by simpa) ?_)).trans ?_
    · simp [ht, hp]
      omega
    · exact congrArg _ (if_pos (by simp [hread]))
  · refine (command_runs h (mem_storeChecks (by simpa) (by simpa) (by simpa) (by simp [ht, hp]))).trans ?_
    exact congrArg _ (if_pos (by simp [hread]))
  · refine (command_runs h (mem_storeChecks (by simpa) (by simpa) (by simpa) (by simp [ht, hp, hmask]))).trans ?_
    exact congrArg _ (if_pos (by simp [hread]))
  · refine (command_runs h (mem_storeChecks (by simpa) (by simpa) (by simpa) ?_)).trans ?_
    · simp [ht, hp, hargs, hb]
      omega
    · exact congrArg _ (if_pos (by simp [hread]))
  · refine (command_runs h (fuseWrite_checks (by simpa) ht hp hlo hhi hst hargs)).trans ?_
    refine congrArg _ (if_pos ?_)
    exact (fuseSame_accept s p _ _ _ _).mpr hsame
  · refine (command_runs h (fuseWrite_checks (by simpa) ht hp hlo hhi hst hargs)).trans ?_
    refine congrArg _ ((if_neg ?_).trans ((if_neg ?_).trans ((if_neg ?_).trans (if_neg ?_))))
    · exact fun hsame => hdiff ((fuseSame_accept s p _ _ _ _).mp hsame)
    · simp [hrange]
      exact hver
    · simpa using hslots
    · simp [hread]
  · refine (command_runs h (by simp [hsh, hsy, ht, hp])).trans ?_
    simp
  · refine (command_runs h (by simp [hsy, hm, ht, hp, or_assoc])).trans ?_
    rfl

end Sys2Proof.Machine
end

section
/-! SUPPORT. The commands of the modes (05 R95-R117). Settles O3. -/

set_option Elab.async false -- one thread for the whole file: a thread per theorem runs out of address space

namespace Sys2Proof.Machine

/-! SET_MODE, by the mode it asks for. -/

/-- A SET_MODE whose mode-dependent checks pass takes effect. -/
theorem exec_setMode_runs {s : State} {p : Packet} {cls : Class} (h : s.admits Op.SET_MODE cls p)
    (hcls : (if par p 0 1 = 5 then Class.service else .owner) = cls) (hw : par p 0 1 = 1 ∨ par p 0 1 = 3 ∨ par p 0 1 = 5)
    (ht : p.target = 0xFFFF) (hp : onlyParams p [(0, 1)] = true)
    (hbad : ∀ c ∈ (s.seen Op.SET_MODE cls p).setModeBad (par p 0 1), c.1 = false) :
    exec (.setMode p) s = .next (State.setMode (s.asCmd Op.SET_MODE p) (s.accept Op.SET_MODE cls p)) := by
  change command Op.SET_MODE (if par p 0 1 = 5 then Class.service else .owner) p _ _ s = _
  rw [hcls]
  refine command_runs h fun c hc => ?_
  rcases List.mem_append.mp hc with hc | hc
  · exact hbad c hc
  · simp only [List.mem_cons, List.not_mem_nil, or_false] at hc
    rcases hc with rfl | rfl | rfl
    · exact (noTarget_fst p).mpr ht
    · exact (params_fst p _).mpr hp
    · rcases hw with hw | hw | hw <;> simp [hw]

section
variable {s : State} {p : Packet} (hr : s.pair.role ≠ .shadow) (ht : p.target = 0xFFFF) (hp : onlyParams p [(0, 1)] = true)
include hr ht hp

/-- SET_MODE to STANDBY. -/
theorem exec_setMode_standby (h : s.admits Op.SET_MODE .owner p) (hw : par p 0 1 = 1) :
    exec (.setMode p) s = .next (State.toStandby (s.asCmd Op.SET_MODE p) (s.accept Op.SET_MODE .owner p)) := by
  refine (exec_setMode_runs h (by simp [hw]) (.inl hw) ht hp (by simp [State.setModeBad, hw])).trans ?_
  simp [State.setMode, State.asCmd, hr, hw]

/-- SET_MODE to READY, where its checks pass. -/
theorem exec_setMode_ready (h : s.admits Op.SET_MODE .owner p) (hw : par p 0 1 = 3)
    (hbad : ∀ c ∈ (s.seen Op.SET_MODE .owner p).setModeBad 3, c.1 = false) :
    exec (.setMode p) s = .next (State.toReady (s.asCmd Op.SET_MODE p) (s.accept Op.SET_MODE .owner p)) := by
  refine (exec_setMode_runs h (by simp [hw]) (.inr (.inl hw)) ht hp (by rwa [hw])).trans ?_
  simp [State.setMode, State.asCmd, hr, hw]

/-- SET_MODE to SERVICE, where its checks pass. -/
theorem exec_setMode_service (h : s.admits Op.SET_MODE .service p) (hw : par p 0 1 = 5)
    (hbad : ∀ c ∈ (s.seen Op.SET_MODE .service p).setModeBad 5, c.1 = false) :
    exec (.setMode p) s = .next (State.toService (s.asCmd Op.SET_MODE p) (s.accept Op.SET_MODE .service p)) := by
  refine (exec_setMode_runs h (by simp [hw]) (.inr (.inr hw)) ht hp (by rwa [hw])).trans ?_
  simp [State.setMode, State.asCmd, hr, hw]

end

/-- READY asks for no more than an empty halt mask where it does not start warming. -/
theorem setModeBad_ready_unwarmed {s : State} (hh : s.modes.haltMask = 0)
    (hn : ¬(s.modes.stopping = .none ∧ (s.mode = .standby ∨ s.mode = .service))) : ∀ c ∈ s.setModeBad 3, c.1 = false := by
  simp [State.setModeBad, if_neg hn, hh]

@[simp] theorem pllsOff_modes (ns : List Nat) (s : State) : (pllsOff ns s).modes = s.modes := by
  induction ns generalizing s with
  | nil => rfl
  | cons n ns ih =>
    rw [pllsOff, ih]
    rfl

/-- Settles O3: SET_MODE by the mode it asks for, then by the mode, stop and drain that it finds. -/
theorem modeCommandsRun : Obligations.ModeCommandsRun := by
  unfold Obligations.ModeCommandsRun
  refine ⟨fun s p h hw hr ht hp hm => ?_, fun s p h hw hr ht hp hm hs hd => ?_, fun s p h hw hr ht hp hm hs hd => ?_,
    fun s p h hw hr ht hp hm hs hd => ?_, fun s p h hw hr ht hp hm hs hd hh => ?_, fun s p h hw hr ht hp hm hs => ?_,
    fun s p h hw hr ht hp hs hh => ?_, fun s p h hw hr ht hp hm hs hd hh => ?_, fun s p h hw hr ht hp hm hs ho hd hh => ?_,
    fun s p h hw hr ht hp hm hs hd hh hinit hlock hwarn hready => ?_, fun s p h hw hr ht hp hm hh => ?_,
    fun s p h hw hr ht hp hm hs hd hh hnone => ?_, fun s p h ht hp hm => ?_, fun s p h ht hp hm => ?_,
    fun s p h ht hp => ?_, fun s p h hfs ht hp hlo hhi hforce => ?_⟩
  · rw [exec_setMode_standby hr ht hp h hw]
    simp [State.toStandby, hm]
  · rw [exec_setMode_standby hr ht hp h hw]
    rcases hm with hm | hm <;> simp [State.toStandby, State.overtake, hm, hs, hd]
  · rw [exec_setMode_standby hr ht hp h hw]
    simp [State.toStandby, State.overtake, hm, hs, hd]
  · rw [exec_setMode_standby hr ht hp h hw]
    simp [State.toStandby, State.overtake, hm, hs, hd]
  · rw [exec_setMode_ready hr ht hp h hw (setModeBad_ready_unwarmed (by simpa) (by rcases hm with hm | hm | hm <;> simp [hm]))]
    simp [State.toReady, hm, hs, hd]
  · rw [exec_setMode_standby hr ht hp h hw]
    simp [State.toStandby, State.overtake, hm, hs]
  · rw [exec_setMode_ready hr ht hp h hw (setModeBad_ready_unwarmed (by simpa) (by simp [hs]))]
    simp [State.toReady, hs]
  · rw [exec_setMode_ready hr ht hp h hw (setModeBad_ready_unwarmed (by simpa) (by simp [hm]))]
    simp [State.toReady, hs, hd]
  · rw [exec_setMode_ready hr ht hp h hw (setModeBad_ready_unwarmed (by simpa) (by simp [hs]))]
    rcases hm with hm | hm <;> simp [State.toReady, hm, hs, ho, hd]
  · rw [exec_setMode_ready hr ht hp h hw (by
      simp [State.setModeBad, State.readyBad, hs, hm, hh, hinit, hlock, hwarn, hready])]
    rcases hm with hm | hm <;> simp [State.toReady, hm, hs, hd]
  · rw [exec_setMode_service hr ht hp h hw (by simp [State.setModeBad, State.serviceBad, hm, hh])]
    simp [State.toService, hm]
  · rw [exec_setMode_service hr ht hp h hw (by
      rcases hm with hm | hm <;> simp [State.setModeBad, State.serviceBad, hm, hh, hs, hd, hnone])]
    rcases hm with hm | hm <;> simp [State.toService, State.asCmd, hm]
  · refine (command_runs h (by simp [ht, hp])).trans ?_
    simp [hm]
  · refine (command_runs h (by simp [ht, hp])).trans ?_
    simp [hm]
  · refine ⟨_, command_runs h (by simp [ht, hp]), ?_⟩
    dsimp only
    have hkept (c : Prop) [Decidable c] (u : State) : (if c then pllsOff allStations u else u).modes = u.modes := by
      split
      · exact pllsOff_modes _ u
      · rfl
    rw [complete_modes, hkept]
    exact ⟨rfl, by rw [State.accept_modes]⟩
  · simp only [List.all_eq_true, Bool.and_eq_true, Bool.not_eq_true'] at hfs
    have hbit : bit (par p 0 2) 15 = false := by
      simp only [bit, Nat.div_eq_of_lt hhi]
      decide
    refine command_runs h ?_
    simp [ht, hp, hlo.ne', hbit, hforce]
    exact ⟨fun f hf => (hfs f hf).2, fun f hf => (hfs f hf).1.2, fun f hf => (hfs f hf).1.1⟩

end Sys2Proof.Machine
end

section
/-! SUPPORT. The commands that report (02 to 06, 14 to 22). Settles O1. -/

set_option Elab.async false -- one thread for the whole file: a thread per theorem runs out of address space

namespace Sys2Proof.Machine

/-- Settles O1: `command_runs` past the checks; the command is its completion. -/
theorem reportsComplete : Obligations.ReportsComplete := by
  unfold Obligations.ReportsComplete
  refine ⟨fun s p h ht hp => ?_, fun s p h ht hp hk => ?_, fun s p h ht hp => ?_, fun s p h ht hp => ?_,
    fun s p h ht hp => ?_, fun s p i h ht hp hi => ?_, fun s p h ht hp => ?_, fun s p h ht hp => ?_, fun s p h ht hp => ?_,
    fun s p h ht hp => ?_, fun s p h ht hp => ?_, fun s p h ht hp => ?_, fun s p h hk ht hp => ?_,
    fun s p h ht hp hlo hhi hst => ?_⟩
  · exact command_runs h (by simp [ht, hp])
  · exact command_runs h (by simp [ht, hp, hk])
  · exact command_runs h (by simp [ht, hp])
  · exact command_runs h (by simp [ht, hp])
  · have hslot : p.target ≠ 0xFFFF := by omega
    refine (command_runs h (by simp [ht, hslot, hp, State.queried])).trans ?_
    simp [State.queried, hslot]
  · refine (command_runs h (by simp [ht, hp, State.queried, hi])).trans ?_
    simp [State.queried, ht, hi]
  · refine command_runs h ?_
    simp [hp]
    omega
  · refine command_runs h ?_
    simp [hp]
    omega
  · exact command_runs h (by simp [ht, hp])
  · refine command_runs h ?_
    simp [hp]
    omega
  · refine command_runs h ?_
    rcases ht with ⟨hk, ht⟩ | ⟨hk, ht⟩ | ⟨hk, ht⟩ <;> simp [hk, ht, hp]
  · obtain ⟨hk, ht⟩ := ht
    have hkind : par p 0 1 = 0 ∨ par p 0 1 = 1 := by omega
    rcases hkind with hk | hk <;> exact (command_runs h (by simp [hk, ht, hp])).trans (by simp [hk])
  · exact command_runs h (by simp [hk, ht, hp])
  · refine command_runs h ?_
    rcases hst with ⟨h3, hst⟩ | ⟨h3, hst⟩
    · simp [ht, hp, h3, hst]
    · simp [ht, hp, h3, hst]
      omega

end Sys2Proof.Machine
end
